-- ==== Sys2Proof/Word.lean ====
section
/-! DEFINITION. The words of the part: what the spec treats as bits (refs: spec/00 §1.7, R1, R149, R159, R195). -/

namespace Sys2Proof

/-- One byte on the cell port or on the kettle line. -/
abbrev Byte := BitVec 8

/-- A 32-bit count taken modulo 2^32: the Station Clock (R1) and the cumulative counters (R149). -/
abbrev Word := BitVec 32

/-- A set of zones, bit n − 1 for zone n (R159). -/
abbrev Mask := BitVec 16

/-- One bit per event (R195). -/
abbrev EventSet := BitVec 16

/-- The index of a station number: station number n is index n − 1 (Table 1.3: 1–16). -/
abbrev StationIx := Fin 16

end Sys2Proof
end

