-- ==== Sys2Proof/Config.lean ====
section
/-! DEFINITION. The free values (what the spec leaves open; no body, so nothing can be proved of them) and the shape of
the configuration image that the Configuration Store holds (R48, R49, R192). -/

namespace Sys2Proof

/-- Whether the ADM is the first of the blocks to act on a hook-height update (before the SGX) or on a table change
(before the ZCU). R74: "none waits for another"; R56: "whichever reached the SGX first". Applied to
`State.freeCount`. Assumption log 5. -/
opaque Config.blockOrder : Nat → Bool

/-- The mean of no weigh samples: R95 states that the list holds at least 9 samples at the timeout and gives no mean
for an empty one. Applied to `State.freeCount` and limited to the range of an averaged weight. Assumption log 6. -/
opaque Config.emptyMean : Nat → Nat

/-- The trigger inputs T0 and T1. -/
inductive Trigger where
  | t0 | t1
deriving DecidableEq, Repr

/-- The marker outputs M0 and M1. -/
inductive Marker where
  | m0 | m1
deriving DecidableEq, Repr

/-- Marker action of a segment (R49, R62). -/
inductive MarkerAction where
  | keep | set | clear | pulse
deriving DecidableEq, Repr

/-- How a segment's target is read (R56). -/
inductive Reference where
  | abs | surf
deriving DecidableEq, Repr

/-- The edge that ends a WAIT_INPUT (R61). -/
inductive EdgeChoice where
  | rising | falling | either
deriving DecidableEq, Repr

/-- The event edge configured for a trigger input (R85, image field 22). -/
inductive EventEdge where
  | none | rising | falling | either
deriving DecidableEq, Repr

/-- The phases of a recipe, in their order (R49); each is also a motion stage of the dip. -/
inductive Phase where
  | approach | immerse | soak | withdraw | drain | depart
deriving DecidableEq, Repr

/-- What a segment does, with the fields its kind uses. A field its kind does not use has no effect (R49), so it is
not kept. -/
inductive Work where
  | move (reference : Reference) (target : Int) (speed : Nat)
  | dwell (time : Nat)
  | shake (reference : Reference) (target : Int) (speed amplitude count : Nat)
  | waitInput (input : Trigger) (edge : EdgeChoice) (time : Nat)
  | call (target : Nat)
deriving DecidableEq, Repr

/-- A segment of the pool (R48, R49). `next = none` is FFh, the end of the chain. -/
structure Segment where
  phase : Phase
  next  : Option Nat
  m0    : MarkerAction
  m1    : MarkerAction
  work  : Work
deriving DecidableEq, Repr

/-- The validated configuration image (header fields of 12, "Image header layout", and the segment pool).
Pool entries from the segment count up are unsupplied: they are the indices beyond `segments`. -/
structure Settings where
  station          : StationIx
  zoneCount        : Nat
  area             : Nat
  overflowLimit    : Nat
  minLevel         : Nat
  initialInventory : Nat
  travelLow        : Nat
  travelHigh       : Nat
  maxSpeed         : Nat
  creepSpeed       : Nat
  slowBand         : Nat
  arrivalBand      : Nat
  exitClearance    : Nat
  safeHeight       : Nat
  holdLimit        : Nat
  divider          : Nat
  stillBand        : Nat
  settleTime       : Nat
  weighZero        : Int
  weighGain        : Nat
  event0           : EventEdge
  event1           : EventEdge
  heads            : List (Option Nat)
  segments         : List Segment
deriving DecidableEq, Repr

end Sys2Proof
end

