-- ==== Sys2Proof/Syntax.lean ====
section
/-! DEFINITION. The commands of the block: one constructor per row of spec/opcode_table.json, with the row's operands. -/

namespace Sys2Proof

/-- The five discrete inputs (R71). -/
inductive DiscreteInput where
  | driveReady | driveFault | halt | t0 | t1
deriving DecidableEq, Repr

/-- One arrival at the part.

A cell-port frame is given by the bytes shifted in AFTER its command code (R185): the argument length, the argument
bytes, and whatever else was shifted in before the rising edge of CSn. A list too short for its argument length is a
frame that ended early (R186, BAD_FRAME).

An edge of a discrete input is given by the two consecutive samples of R71, oldest first, as pin levels. -/
inductive Instr where
  /-- Hardware reset, at power-on or on the reset pin (R188). -/
  | hardwareReset
  | loadBegin (tail : List Byte)
  | loadData (tail : List Byte)
  | loadEnd (tail : List Byte)
  /-- The validation that LOAD_END started is complete (R191). -/
  | validationEnd
  | loadTimerExpiry
  | listenTimerExpiry
  | getStatus (tail : List Byte)
  | dip (tail : List Byte)
  | cancelJob (tail : List Byte)
  | abortDip (tail : List Byte)
  | recover (tail : List Byte)
  | setLevel (tail : List Byte)
  | addZinc (tail : List Byte)
  | removeDross (tail : List Byte)
  | readRecord (tail : List Byte)
  | peekRecord (tail : List Byte)
  | readPeer (tail : List Byte)
  | forgetPeer (tail : List Byte)
  | setEventEnable (tail : List Byte)
  | clearEvents (tail : List Byte)
  | restart (tail : List Byte)
  /-- A frame with command code 00h; every further byte of it is without meaning (R185). -/
  | idleFrame
  /-- A frame whose command code is not in Table 12.1 (R186). -/
  | unknownCommand (code : Byte) (tail : List Byte)
  | restartTimerExpiry
  /-- The head job starts, once every start condition holds (R24). -/
  | jobStart
  /-- A raw load-cell sample, signed 24 bits (R88). -/
  | rawSample (raw : BitVec 24)
  | settleTimeout
  /-- An encoder read: the level of the start bit, the 16 height bits and the parity bit (R72). -/
  | encoderRead (start : Bool) (height : BitVec 16) (parity : Bool)
  | driveReadyEdge (first second : Bool)
  | driveFaultEdge (first second : Bool)
  | haltEdge (first second : Bool)
  | triggerEdge (input : Trigger) (first second : Bool)
  | motionLimitExpiry
  | driveLostExpiry
  | dwellExpiry
  | waitTimeout
  | pulseExpiry (marker : Marker)
  | holdLimitExpiry
  | transmitAttemptStart
  /-- The end of a notice on the kettle line: the bytes the receiver assembled, and whether some byte's stop bit was
  read dominant (R115, R116). -/
  | noticeEnd (bytes : List Byte) (spoiled : Bool)
  | heartbeatTimerExpiry
  | unsentExpiry
  /-- The entry of a station reaches its age (R139). -/
  | peerAgeing (station : StationIx)
  | claimWindowExpiry
  | admissionWindowExpiry
  | stationClockTick
  /-- The first two agreeing samples of a discrete input after hardware reset (R71). -/
  | firstFilteredLevel (input : DiscreteInput) (first second : Bool)
  /-- A bit time read back while the own attempt is on the line: its number counted from the start bit of the
  arbitration byte (0), and whether it was read dominant (R117, R118). -/
  | bitReadBackMismatch (bitTime : Nat) (dominant : Bool)
  | csnFallingEdge
deriving DecidableEq, Repr

end Sys2Proof
end

