-- ==== Sys2Proof/WellFormed.lean ====
section
/-! DEFINITION. Which terms of `Instr` are arrivals the rows name. Most operands cannot be ill formed by their type. -/

namespace Sys2Proof

/-- A command code of Table 12.1: 01h to 12h (R187). -/
def listedCode (code : Byte) : Bool :=
  decide (1 ≤ code.toNat ∧ code.toNat ≤ 0x12)

/-- A code that makes a frame an UNKNOWN_COMMAND: neither the idle code (R185) nor one of Table 12.1 (R186). -/
def unlistedCode (code : Byte) : Bool :=
  decide (code ≠ 0) && !listedCode code

/-- The bit times of the longest notice and its end: 33 bytes of 10 bit times (R114), the last of them a stop bit, and
the 11 recessive bit times after its last dominant one (R115), so 10 beyond the last stop bit at most. -/
def lastBitTime : Nat := 33 * 10 + 10

/-- The well-formed commands: an UNKNOWN_COMMAND carries an unlisted code, and a read-back bit lies within a notice
and its end. -/
def Instr.wellFormed : Instr → Bool
  | .hardwareReset => true
  | .loadBegin _ => true
  | .loadData _ => true
  | .loadEnd _ => true
  | .validationEnd => true
  | .loadTimerExpiry => true
  | .listenTimerExpiry => true
  | .getStatus _ => true
  | .dip _ => true
  | .cancelJob _ => true
  | .abortDip _ => true
  | .recover _ => true
  | .setLevel _ => true
  | .addZinc _ => true
  | .removeDross _ => true
  | .readRecord _ => true
  | .peekRecord _ => true
  | .readPeer _ => true
  | .forgetPeer _ => true
  | .setEventEnable _ => true
  | .clearEvents _ => true
  | .restart _ => true
  | .idleFrame => true
  | .unknownCommand code _ => unlistedCode code
  | .restartTimerExpiry => true
  | .jobStart => true
  | .rawSample _ => true
  | .settleTimeout => true
  | .encoderRead _ _ _ => true
  | .driveReadyEdge _ _ => true
  | .driveFaultEdge _ _ => true
  | .haltEdge _ _ => true
  | .triggerEdge _ _ _ => true
  | .motionLimitExpiry => true
  | .driveLostExpiry => true
  | .dwellExpiry => true
  | .waitTimeout => true
  | .pulseExpiry _ => true
  | .holdLimitExpiry => true
  | .transmitAttemptStart => true
  | .noticeEnd _ _ => true
  | .heartbeatTimerExpiry => true
  | .unsentExpiry => true
  | .peerAgeing _ => true
  | .claimWindowExpiry => true
  | .admissionWindowExpiry => true
  | .stationClockTick => true
  | .firstFilteredLevel _ _ _ => true
  | .bitReadBackMismatch bitTime _ => decide (bitTime < lastBitTime)
  | .csnFallingEdge => true

end Sys2Proof
end

