-- ==== Sys2Proof/Decode.lean ====
section
/-! DEFINITION. Decoding. The opcode table gives none of its rows bits, so no word spells a command; what the spec does
encode of the commands is the cell-port frame (R185, Table 12.1), decoded and encoded here. -/

namespace Sys2Proof

/-- The command a word spells by the table's bits. No row of spec/opcode_table.json has bits (assumption log 21). -/
def decodeTableWord (_nbits _w : Nat) : Option Instr := none

/-- The command of a frame with the given code (Table 12.1, R185, R186); `tail` is what was shifted in after it. -/
def decodeCode (code : Byte) (tail : List Byte) : Instr :=
  match code.toNat with
  | 0x00 => .idleFrame
  | 0x01 => .loadBegin tail
  | 0x02 => .loadData tail
  | 0x03 => .loadEnd tail
  | 0x04 => .getStatus tail
  | 0x05 => .dip tail
  | 0x06 => .cancelJob tail
  | 0x07 => .abortDip tail
  | 0x08 => .recover tail
  | 0x09 => .setLevel tail
  | 0x0A => .addZinc tail
  | 0x0B => .removeDross tail
  | 0x0C => .readRecord tail
  | 0x0D => .peekRecord tail
  | 0x0E => .readPeer tail
  | 0x0F => .forgetPeer tail
  | 0x10 => .setEventEnable tail
  | 0x11 => .clearEvents tail
  | 0x12 => .restart tail
  | _ => .unknownCommand code tail

/-- The bytes shifted in during one transaction, taken at the rising edge of CSn. "A transaction with no complete byte
shifted in is not a frame" (R185): `none`. -/
def decodeFrame : List Byte → Option Instr
  | [] => none
  | code :: tail => some (decodeCode code tail)

/-- The bytes that a command frame is shifted in as; `none` for an arrival that is no frame. -/
def encodeFrame : Instr → Option (List Byte)
  | .idleFrame => some [0x00]
  | .loadBegin tail => some (0x01 :: tail)
  | .loadData tail => some (0x02 :: tail)
  | .loadEnd tail => some (0x03 :: tail)
  | .getStatus tail => some (0x04 :: tail)
  | .dip tail => some (0x05 :: tail)
  | .cancelJob tail => some (0x06 :: tail)
  | .abortDip tail => some (0x07 :: tail)
  | .recover tail => some (0x08 :: tail)
  | .setLevel tail => some (0x09 :: tail)
  | .addZinc tail => some (0x0A :: tail)
  | .removeDross tail => some (0x0B :: tail)
  | .readRecord tail => some (0x0C :: tail)
  | .peekRecord tail => some (0x0D :: tail)
  | .readPeer tail => some (0x0E :: tail)
  | .forgetPeer tail => some (0x0F :: tail)
  | .setEventEnable tail => some (0x10 :: tail)
  | .clearEvents tail => some (0x11 :: tail)
  | .restart tail => some (0x12 :: tail)
  | .unknownCommand code tail => some (code :: tail)
  | _ => none

end Sys2Proof
end

