-- ==== Sys2Proof/Machine/State.lean ====
section
/-! DEFINITION. The state of the part, one structure per block of Table 1.3, and its value after hardware reset. -/

namespace Sys2Proof.Machine

/-- Why a command stops the machine with a fault. The spec gives every command of the table an effect or says that it
has none, so no command faults: the type has no constructor. A fault entered by a dip is the stage FAULT (R43). -/
inductive Fault where
deriving DecidableEq, Repr

/-- Why a command has no meaning. -/
inductive Refusal where
  /-- Raised by an arm of `exec` whose command has no meaning yet. Safe: the model stops where the part goes on. -/
  | notModelled (mnemonic : String)
  /-- Raised by UNKNOWN_COMMAND for a code byte that IS in Table 12.1 or is the idle code 00h: such a frame is another
  row's command (assumption log 20). Safe: it stops, and no well-formed command raises it. -/
  | illFormed (mnemonic : String)
deriving DecidableEq, Repr

/-! ### Cell Port (CPT) -/

/-- The modes of the part (R188). -/
inductive Mode where
  | boot | loading | listen | ready
deriving DecidableEq, Repr

/-- The result codes of the cell port (R186), in the order of their codes. -/
inductive ResultCode where
  | ok | busy | mode | badArg | badCmd | badFrame | noRecipe | duplicateJob | queueFull | outOfBounds
  | noSuchJob | active | noJob | already | late | notClear | notStale | epochLimit | empty | loadFailed
deriving DecidableEq, Repr

/-- A response: result code and data bytes (R185). -/
structure Response where
  code : ResultCode
  data : List Byte
deriving DecidableEq, Repr

/-- The load buffer with what is held beside it during a load (R189). -/
structure Load where
  buffer   : List Byte
  declared : Nat
  received : Nat
  overflow : Bool
deriving DecidableEq, Repr

/-- The load result: code, header field number, segment index, recipe number (R191). -/
structure LoadResult where
  code    : Byte
  field   : Byte
  segment : Byte
  recipe  : Byte
deriving DecidableEq, Repr

/-- Cell Port (R198). A timer is `none` while stopped, else the milliseconds it still has to run. -/
structure Cpt where
  mode           : Mode
  response       : Response
  captured       : Response
  validating     : Bool
  load           : Load
  loadTimer      : Option Nat
  loadResult     : LoadResult
  listenTimer    : Option Nat
  restartPending : Bool
  restartTimer   : Option Nat
  events         : EventSet
  enables        : EventSet
  irq            : Bool
deriving DecidableEq, Repr

/-! ### Peer Table (PTB) -/

/-- Presence state of an entry (R133). -/
inductive Presence where
  | absent | present | stale
deriving DecidableEq, Repr

/-- Claim status as announced (R119, R121). -/
inductive ClaimStatus where
  | none | pending | held
deriving DecidableEq, Repr

/-- Reservation status as announced (R119, R121). -/
inductive ResvStatus where
  | none | pending | admitted
deriving DecidableEq, Repr

/-- The contents of a STATE notice (R119, R121), and the fields of a peer entry that come from one (R133). -/
structure Announced where
  stage     : Nat
  claim     : ClaimStatus
  mask      : Mask
  resv      : ResvStatus
  reserved  : Nat
  actual    : Nat
  epoch     : Nat
  origin    : Nat
  inventory : Nat
  drawn     : Word
  added     : Word
  removed   : Word
  lineLost  : Bool
  fault     : Bool
  hold      : Bool
deriving DecidableEq, Repr

/-- The fields of an ABSENT entry: held at 0 (R133). -/
def Announced.zero : Announced :=
  { stage := 0, claim := .none, mask := 0, resv := .none, reserved := 0, actual := 0, epoch := 0, origin := 0
    inventory := 0, drawn := 0, added := 0, removed := 0, lineLost := false, fault := false, hold := false }

/-- An entry of the peer table (R133): presence, what was last heard, when, and the first-heard flag (R137). -/
structure PeerEntry where
  presence   : Presence
  heard      : Announced
  time       : Word
  firstHeard : Bool
deriving DecidableEq, Repr

/-- An ABSENT entry (R133, R145). -/
def PeerEntry.empty : PeerEntry :=
  { presence := .absent, heard := .zero, time := 0, firstHeard := false }

/-! ### Kettle Line Interface (KLI) -/

/-- The cause of LINE_LOST; `none` while it is clear (R128). -/
inductive LineLostCause where
  | none | failures | unsent | duplicate
deriving DecidableEq, Repr

/-- What an own transmit attempt sends: a LEAVE, or a STATE with its contents as taken at the start (R121, R124). -/
inductive Sending where
  | leave
  | state (contents : Announced)
deriving DecidableEq, Repr

/-- How an own attempt stands (R117, R118): still driving the line, stopped by a lost arbitration, or failed. -/
inductive AttemptStatus where
  | driving | lost | failed
deriving DecidableEq, Repr

/-- An own transmit attempt in progress. `reported` is false for one that was in progress at the clear of RESTART: its
outcome is counted but not reported (R131). -/
structure Attempt where
  sending  : Sending
  status   : AttemptStatus
  reported : Bool
deriving DecidableEq, Repr

/-- Kettle Line Interface (R132). `stateRequest` and `lateRaise` hold raise times (R124); `heartbeat` is the time since
the last successful own STATE while the timer runs (R125). -/
structure Kli where
  stateRequest : Option Word
  lateRaise    : Option Word
  leaveRequest : Bool
  attempt      : Option Attempt
  hunting      : Bool
  heartbeat    : Option Nat
  failures     : Nat
  lineLost     : LineLostCause
  discards     : Nat
deriving DecidableEq, Repr

/-! ### Inventory Unit (INV) -/

/-- Inventory Unit (R147). -/
structure Inv where
  mass    : Nat
  level   : Nat
  epoch   : Nat
  origin  : Nat
  drawn   : Word
  added   : Word
  removed : Word
  low     : Bool
deriving DecidableEq, Repr

/-! ### Zone Claim Unit (ZCU) -/

/-- Why a claim waits (R160, R162). -/
inductive ClaimReason where
  | zone | line
deriving DecidableEq, Repr

/-- The claim state with what it holds: the waiting reason while WAITING, the claim window while PENDING, either
stopped or running from its start time (R160). -/
inductive ClaimState where
  | none
  | waiting (reason : ClaimReason)
  | pending (window : Option Word)
  | held
deriving DecidableEq, Repr

/-- Zone Claim Unit (R160). -/
structure Zcu where
  claim    : ClaimState
  mask     : Mask
  conflict : Bool
  yielding : Bool
deriving DecidableEq, Repr

/-! ### Admission Unit (ADM) -/

/-- Why a reservation waits (R172, R174). -/
inductive ResvReason where
  | line | lowZinc | level | conflict
deriving DecidableEq, Repr

/-- The reservation state with what it holds (R172). -/
inductive ResvState where
  | none
  | waiting (reason : ResvReason)
  | pending (window : Option Word)
  | admitted
deriving DecidableEq, Repr

/-- Admission Unit (R172). -/
structure Adm where
  resv       : ResvState
  full       : Nat
  gateClosed : Bool
  without    : Nat
  actual     : Nat
  surface    : Nat
deriving DecidableEq, Repr

/-! ### Dip Cycle Controller (DCC) -/

/-- The dip stages, in the order of their codes (R26). -/
inductive Stage where
  | idle | weighDry | claim | approach | admitting | immerse | soak | withdraw | weighExit | drain | weighDrained
  | depart | release | fault
deriving DecidableEq, Repr

/-- Hold reasons (R35); NONE is the absence of a hold. -/
inductive HoldReason where
  | zone | line | level | lowZinc | conflict
deriving DecidableEq, Repr

/-- Fault codes (R43). -/
inductive FaultCode where
  | none | motionTimeout | driveFault | encoder | driveLost
deriving DecidableEq, Repr

/-- A job record (R20). -/
structure Job where
  id        : Word
  recipe    : Nat
  firstZone : Nat
  zoneCount : Nat
  hang      : Nat
  height    : Nat
  tare      : Nat
deriving DecidableEq, Repr

/-- The per-dip flags held by the DCC (R38). -/
structure DipFlags where
  aborted          : Bool
  faulted          : Bool
  dryUnsettled     : Bool
  exitUnsettled    : Bool
  drainedUnsettled : Bool
  overrange        : Bool
  depthClamped     : Bool
  speedClamped     : Bool
  exitWet          : Bool
  waitExpired      : Bool
  lineLostSeen     : Bool
  conflictSeen     : Bool
deriving DecidableEq, Repr

/-- The per-dip flags, all clear (R24, R38). -/
def DipFlags.clear : DipFlags :=
  { aborted := false, faulted := false, dryUnsettled := false, exitUnsettled := false, drainedUnsettled := false
    overrange := false, depthClamped := false, speedClamped := false, exitWet := false, waitExpired := false
    lineLostSeen := false, conflictSeen := false }

/-- The active dip: its job and what the DCC keeps with it until its record is stored (R20, R24, R27, R32, R33, R36,
R38, R39, R43). -/
structure Dip where
  job            : Job
  startTime      : Word
  dry            : Option Nat
  exitWeight     : Option Nat
  drained        : Option Nat
  steel          : Option Nat
  immersionStart : Option Word
  immersionEnd   : Option Word
  holdTime       : Nat
  flags          : DipFlags
  abortPending   : Bool
  abortStage     : Option Stage
  faultStage     : Option Stage
deriving DecidableEq, Repr

/-- A hold in effect: its reason, the time since it began, and whether HOLD_LONG was raised for it (R35, R36). -/
structure Hold where
  reason     : HoldReason
  elapsed    : Nat
  longRaised : Bool
deriving DecidableEq, Repr

/-- Dip Cycle Controller (R47). -/
structure Dcc where
  stage        : Stage
  active       : Option Dip
  queue        : List Job
  hold         : Option Hold
  faultCode    : FaultCode
  secondFaults : Nat
deriving DecidableEq, Repr

/-! ### Segment Executor (SGX) -/

/-- The cursor: none when no recipe is in progress, FFh at the end of the current chain, or a segment index. -/
inductive Cursor where
  | none
  | chainEnd
  | seg (index : Nat)
deriving DecidableEq, Repr

/-- The leg a SHAKE is running (R60). -/
inductive ShakeLeg where
  | first | up | down
deriving DecidableEq, Repr

/-- The segment running (R53): the frozen target is a load-bottom height, the hook targets are hook heights. -/
inductive Running where
  | move (frozen : Int) (target speed : Nat)
  | shake (frozen : Int) (lower upper speed count : Nat) (leg : ShakeLeg)
  | dwell
  | wait (input : Trigger) (edge : EdgeChoice)
deriving DecidableEq, Repr

/-- A marker latch and its pulse timer (R62). -/
structure MarkerLatch where
  high  : Bool
  pulse : Option Nat
deriving DecidableEq, Repr

/-- Segment Executor (R50). -/
structure Sgx where
  cursor      : Cursor
  returnIndex : Option (Option Nat)
  stage       : Option Phase
  current     : Option Running
  repeats     : Nat
  dwell       : Option Nat
  wait        : Option Nat
  m0          : MarkerLatch
  m1          : MarkerLatch
deriving DecidableEq, Repr

/-! ### Hoist Interface (HIF) -/

/-- The two marks of a trigger's edge latch (R84). -/
structure EdgeLatch where
  rising  : Bool
  falling : Bool
deriving DecidableEq, Repr

/-- The motion limit count of the running leg and its limit, in ms (R79, R80). -/
structure MotionTimer where
  count : Nat
  limit : Nat
deriving DecidableEq, Repr

/-- Hoist Interface (R87). A filtered level is `none` until it is first set after hardware reset, then the level of the
pin, `true` for high (R71). -/
structure Hif where
  hook         : Nat
  hookValid    : Bool
  readFailures : Nat
  speed        : Int
  speedWord    : BitVec 16
  driveReady   : Option Bool
  driveFault   : Option Bool
  halt         : Option Bool
  t0           : Option Bool
  t1           : Option Bool
  latch0       : EdgeLatch
  latch1       : EdgeLatch
  motion       : Option MotionTimer
  driveLost    : Option Nat
  m0Out        : Bool
  m1Out        : Bool
deriving DecidableEq, Repr

/-! ### Weighing Unit (WGU) -/

/-- A weigh sample: gross weight and OVERRANGE mark (R89). -/
structure Sample where
  gross     : Nat
  overrange : Bool
deriving DecidableEq, Repr

/-- The phase of a weigh operation (R92). -/
inductive WeighPhase where
  | settling | averaging
deriving DecidableEq, Repr

/-- The weigh operation record (R92). The settle timer is the time since the request, in ms: it runs in SETTLING, and in
AVERAGING it is stopped at the value it had when stillness was found (R92, R93). -/
structure WeighOp where
  phase       : WeighPhase
  settleTimer : Nat
  samples     : List Sample
deriving DecidableEq, Repr

/-- Weighing Unit (R99). -/
structure Wgu where
  divider : Nat
  window  : List Sample
  op      : Option WeighOp
deriving DecidableEq, Repr

/-! ### Accounting Unit and Dip Log (ACU) -/

/-- A dip record (R103); an optional field is `none` when it is absent. -/
structure DipRecord where
  seq        : BitVec 16
  jobId      : Word
  recipe     : Nat
  station    : Nat
  epoch      : Nat
  startTime  : Word
  immersion  : Option Word
  holdTime   : Nat
  dry        : Option Nat
  exitWeight : Option Nat
  drained    : Option Nat
  steel      : Option Nat
  drawn      : Nat
  dripBack   : Option Nat
  pickup     : Option Nat
  endStage   : Stage
  faultCode  : Option FaultCode
  flags      : DipFlags
  negDraw    : Bool
  negDrip    : Bool
deriving DecidableEq, Repr

/-- Accounting Unit and Dip Log (R100). -/
structure Acu where
  log      : List DipRecord
  reserved : Bool
  nextSeq  : BitVec 16
deriving DecidableEq, Repr

/-! ### The whole part -/

/-- The state of the part: the thirteen blocks of Table 1.3 (the Station Clock is `sck`, the Configuration Store `cfs`,
empty while `none`), the queue of waiting commands, and the counter that picks the next free value. -/
structure State where
  sck       : Word
  cpt       : Cpt
  cfs       : Option Settings
  kli       : Kli
  peers     : Vector PeerEntry 16
  inv       : Inv
  zcu       : Zcu
  adm       : Adm
  dcc       : Dcc
  sgx       : Sgx
  hif       : Hif
  wgu       : Wgu
  acu       : Acu
  pending   : List Instr
  freeCount : Nat
deriving DecidableEq, Repr

/-! ### Values after hardware reset -/

/-- The Cell Port after hardware reset (R198). `captured` is a DESIGN CHOICE (assumption log 7). -/
def Cpt.reset : Cpt :=
  { mode := .boot, response := ⟨.ok, []⟩, captured := ⟨.ok, []⟩, validating := false
    load := { buffer := [], declared := 0, received := 0, overflow := false }
    loadTimer := none, loadResult := { code := 0x00, field := 0xFF, segment := 0xFF, recipe := 0xFF }
    listenTimer := none, restartPending := false, restartTimer := none, events := 0, enables := 0, irq := false }

/-- The Kettle Line Interface after hardware reset (R132). -/
def Kli.reset : Kli :=
  { stateRequest := none, lateRaise := none, leaveRequest := false, attempt := none, hunting := true
    heartbeat := none, failures := 0, lineLost := .none, discards := 0 }

/-- The Inventory Unit after hardware reset (R147). -/
def Inv.reset : Inv :=
  { mass := 0, level := 0, epoch := 0, origin := 0, drawn := 0, added := 0, removed := 0, low := false }

/-- The Zone Claim Unit after hardware reset (R160). -/
def Zcu.reset : Zcu :=
  { claim := .none, mask := 0, conflict := false, yielding := false }

/-- The Admission Unit after hardware reset (R172). -/
def Adm.reset : Adm :=
  { resv := .none, full := 0, gateClosed := false, without := 0, actual := 0, surface := 0 }

/-- The Dip Cycle Controller after hardware reset (R47). -/
def Dcc.reset : Dcc :=
  { stage := .idle, active := none, queue := [], hold := none, faultCode := .none, secondFaults := 0 }

/-- The Segment Executor after hardware reset (R50). -/
def Sgx.reset : Sgx :=
  { cursor := .none, returnIndex := none, stage := none, current := none, repeats := 0, dwell := none, wait := none
    m0 := { high := false, pulse := none }, m1 := { high := false, pulse := none } }

/-- The Hoist Interface after hardware reset (R87). -/
def Hif.reset : Hif :=
  { hook := 0, hookValid := false, readFailures := 0, speed := 0, speedWord := 0, driveReady := none
    driveFault := none, halt := none, t0 := none, t1 := none, latch0 := { rising := false, falling := false }
    latch1 := { rising := false, falling := false }, motion := none, driveLost := none, m0Out := false
    m1Out := false }

/-- The Weighing Unit after hardware reset (R99). -/
def Wgu.reset : Wgu :=
  { divider := 0, window := [], op := none }

/-- The Accounting Unit after hardware reset (R100). -/
def Acu.reset : Acu :=
  { log := [], reserved := false, nextSeq := 0 }

/-- The part after hardware reset, with no command waiting. -/
def State.reset : State :=
  { sck := 0, cpt := .reset, cfs := none, kli := .reset, peers := Vector.replicate 16 PeerEntry.empty
    inv := .reset, zcu := .reset, adm := .reset, dcc := .reset, sgx := .reset, hif := .reset, wgu := .reset
    acu := .reset, pending := [], freeCount := 0 }

end Sys2Proof.Machine
end

