-- ==== Sys2Proof/Machine/Arith.lean ====
section
/-! DEFINITION. Kettle arithmetic (R2 to R19): exact integer computations, each ended by its stated rounding and limit. -/

namespace Sys2Proof.Machine

/-- Quotient rounded by ceiling; the divisors of the rules are positive (R2). -/
def ceilDiv (a b : Nat) : Nat := (a + b - 1) / b

/-- "Saturate at a value" (1.7). -/
def saturate (top n : Nat) : Nat := min top n

/-- "Clamp to a range" from 0 (1.7). -/
def clampNat (top : Nat) (n : Int) : Nat := (min (top : Int) n).toNat

/-- The largest averaged or gross weight, in mass counts (R4, R5). -/
def maxWeight : Nat := 200000

/-- The largest inventory estimate, in mass counts (R147). -/
def maxInventory : Nat := 8000000

/-- The largest figure held in level units (R7, R10, R11, R14). -/
def maxLevel : Nat := 65535

/-- The gross weight of a raw sample (R4). -/
def grossWeight (zero : Int) (gain : Nat) (raw : Int) : Nat :=
  clampNat maxWeight (((raw - zero) * (gain : Int)) / 65536)

/-- A raw sample at either converter limit is marked OVERRANGE (R4). -/
def atConverterLimit (raw : Int) : Bool := decide (raw = -8388608 ∨ raw = 8388607)

/-- The weigh sample of a raw sample (R4, R89). -/
def weighSample (zero : Int) (gain : Nat) (raw : BitVec 24) : Sample :=
  { gross := grossWeight zero gain raw.toInt, overrange := atConverterLimit raw.toInt }

/-- The averaged weight of weigh samples (R5, R96). `open_` stands for the mean of none, which R95 excludes. -/
def averageWeight (open_ : Nat) (samples : List Sample) : Nat :=
  if samples.any (·.overrange) then maxWeight
  else if samples.isEmpty then saturate maxWeight open_
  else ((samples.map (·.gross)).sum + samples.length / 2) / samples.length

/-- The steel mass S (R6). -/
def steelMass (dry tare : Nat) : Nat := clampNat maxWeight ((dry : Int) - (tare : Int))

/-- The level estimate L of an inventory (R7). -/
def levelOf (area mass : Nat) : Nat := saturate maxLevel (ceilDiv (500 * mass) (33 * area))

/-- The inventory of a sounding (R8). -/
def massOfSounding (area level : Nat) : Nat := saturate maxInventory (level * (33 * area) / 500)

/-- The comparison of the level estimate with the minimum working level (R9). -/
def isLow (minLevel level : Nat) : Bool := decide (level < minLevel)

/-- The full displacement F of a steel mass (R10). -/
def fullDisplacement (area steel : Nat) : Nat := saturate maxLevel (ceilDiv (2000 * steel) (157 * area))

/-- The load-bottom height in mm, signed (R12). -/
def loadBottom (hook hang : Nat) : Int := (hook : Int) - (hang : Int)

/-- The immersed depth d in level units (R12). -/
def immersedDepth (without hook hang height : Nat) : Nat :=
  clampNat (10 * height) ((without : Int) - 10 * loadBottom hook hang)

/-- The own actual displacement (R13). -/
def ownDisplacement (full depth height : Nat) : Nat := ceilDiv (full * depth) (10 * height)

/-- The surface estimate (R14). -/
def surfaceEstimate (without actual : Nat) : Nat := saturate maxLevel (without + actual)

/-- Load below surface (R15). -/
def belowSurface (without hook hang : Nat) : Bool := decide (10 * loadBottom hook hang < (without : Int))

/-- Surface clear (R15). -/
def surfaceClear (without hook hang exitClearance : Nat) : Bool :=
  decide ((without : Int) + 10 * (exitClearance : Int) ≤ 10 * loadBottom hook hang)

/-- A difference limited at 0, and whether it was negative (R18). -/
def limitedDifference (a b : Nat) : Nat × Bool := (a - b, decide (a < b))

/-- Drawn and NEG_DRAW (R18): 0 and clear unless the dry and drained weights are both present. -/
def drawnOf (dry drained : Option Nat) : Nat × Bool :=
  match dry, drained with
  | some d, some w => limitedDifference w d
  | _, _ => (0, false)

/-- Drip-back, absent unless the exit and drained weights are both present, and NEG_DRIP (R18). -/
def dripBackOf (exitWeight drained : Option Nat) : Option Nat × Bool :=
  match exitWeight, drained with
  | some e, some w => (some (limitedDifference e w).1, (limitedDifference e w).2)
  | _, _ => (none, false)

/-- Pickup (R19). -/
def pickupOf (dry drained steel : Option Nat) : Option Nat :=
  match dry, drained, steel with
  | some _, some _, some s => if s = 0 then none else some ((drawnOf dry drained).1 * 1000 / s)
  | _, _, _ => none

/-- The distance between the hook and a hook target, in mm (R77). -/
def hookDistance (hook target : Nat) : Nat := (hook - target) + (target - hook)

/-- The motion limit of a leg, in ms (R79). -/
def motionLimit (distance speed : Nat) : Nat := ceilDiv (2000 * distance) speed + 5000

end Sys2Proof.Machine
end

