-- ==== Sys2Proof/Machine/Flags.lean ====
section
/-! DEFINITION. The codes and the flags: result codes, stage codes, hold reasons, events, per-dip flags, and every bit
layout of them (R26, R35, R43, R107, R119, R186, R191, R194, R195). -/

namespace Sys2Proof.Machine

/-- The code byte of a result (R186). -/
def ResultCode.byte (r : ResultCode) : Byte :=
  match r with
  | .ok => 0x00 | .busy => 0x01 | .mode => 0x02 | .badArg => 0x03 | .badCmd => 0x04 | .badFrame => 0x05
  | .noRecipe => 0x06 | .duplicateJob => 0x07 | .queueFull => 0x08 | .outOfBounds => 0x09 | .noSuchJob => 0x0A
  | .active => 0x0B | .noJob => 0x0C | .already => 0x0D | .late => 0x0E | .notClear => 0x0F | .notStale => 0x10
  | .epochLimit => 0x11 | .empty => 0x12 | .loadFailed => 0x13

/-- The mode code of GET_STATUS (R188). -/
def Mode.code (m : Mode) : Nat :=
  match m with | .boot => 0 | .loading => 1 | .listen => 2 | .ready => 3

/-- The stage code (R26). -/
def Stage.code (st : Stage) : Nat :=
  match st with
  | .idle => 0x00 | .weighDry => 0x01 | .claim => 0x02 | .approach => 0x03 | .admitting => 0x04 | .immerse => 0x05
  | .soak => 0x06 | .withdraw => 0x07 | .weighExit => 0x08 | .drain => 0x09 | .weighDrained => 0x0A
  | .depart => 0x0B | .release => 0x0C | .fault => 0x0D

/-- The stage in which the segments of a phase run (R26, R49). -/
def phaseStage (p : Phase) : Stage :=
  match p with
  | .approach => .approach | .immerse => .immerse | .soak => .soak | .withdraw => .withdraw | .drain => .drain
  | .depart => .depart

/-- The place of a phase in their order, which is its code (R49). -/
def phaseOrder (p : Phase) : Nat :=
  match p with
  | .approach => 0 | .immerse => 1 | .soak => 2 | .withdraw => 3 | .drain => 4 | .depart => 5

/-- A motion stage: one whose segments the SGX runs and in which the speed command may be non-zero (R76). -/
def Stage.moves (st : Stage) : Bool :=
  match st with
  | .approach | .immerse | .soak | .withdraw | .drain | .depart => true
  | _ => false

/-- The stages in which the surface-clear test is made (R182). -/
def Stage.testsClear (st : Stage) : Bool :=
  match st with
  | .withdraw | .weighExit | .drain | .weighDrained | .depart | .fault => true
  | _ => false

/-- The stages from WEIGH_DRY through DEPART, in which a fault cause enters FAULT (R43). -/
def Stage.faults (st : Stage) : Bool :=
  match st with
  | .weighDry | .claim | .approach | .admitting | .immerse | .soak | .withdraw | .weighExit | .drain | .weighDrained
  | .depart => true
  | _ => false

/-- The stages in which the yield may be in effect (R169). -/
def Stage.yields (st : Stage) : Bool :=
  match st with
  | .approach | .admitting => true
  | _ => false

/-- The hold reason code of GET_STATUS (R35). -/
def HoldReason.code (r : HoldReason) : Nat :=
  match r with
  | .zone => 1 | .line => 2 | .level => 3 | .lowZinc => 4 | .conflict => 5

/-- The hold reason given by the ZCU (R35). -/
def ClaimReason.hold (r : ClaimReason) : HoldReason :=
  match r with | .zone => .zone | .line => .line

/-- The hold reason given by the ADM (R35). -/
def ResvReason.hold (r : ResvReason) : HoldReason :=
  match r with | .line => .line | .lowZinc => .lowZinc | .level => .level | .conflict => .conflict

/-- The fault code (R43). -/
def FaultCode.code (c : FaultCode) : Nat :=
  match c with
  | .none => 0 | .motionTimeout => 1 | .driveFault => 2 | .encoder => 3 | .driveLost => 4

/-- The LINE_LOST cause code (R128). -/
def LineLostCause.code (c : LineLostCause) : Nat :=
  match c with
  | .none => 0 | .failures => 1 | .unsent => 2 | .duplicate => 3

/-- Whether a cause means that LINE_LOST holds (R128). -/
def LineLostCause.holds (c : LineLostCause) : Bool := decide (c ≠ .none)

/-- The claim status byte (R119). -/
def ClaimStatus.code (c : ClaimStatus) : Nat :=
  match c with | .none => 0 | .pending => 1 | .held => 2

/-- The reservation status byte (R119). -/
def ResvStatus.code (r : ResvStatus) : Nat :=
  match r with | .none => 0 | .pending => 1 | .admitted => 2

/-- The claim as announced (R121). -/
def ClaimState.status (c : ClaimState) : ClaimStatus :=
  match c with
  | .none => .none | .waiting _ => .none | .pending _ => .pending | .held => .held

/-- The reservation as announced (R121). -/
def ResvState.status (r : ResvState) : ResvStatus :=
  match r with
  | .none => .none | .waiting _ => .none | .pending _ => .pending | .admitted => .admitted

/-- The claim state code of GET_STATUS (R160). -/
def ClaimState.code (c : ClaimState) : Nat :=
  match c with
  | .none => 0 | .pending _ => 1 | .held => 2 | .waiting _ => 3

/-- The reservation state code of GET_STATUS (R172). -/
def ResvState.code (r : ResvState) : Nat :=
  match r with
  | .none => 0 | .pending _ => 1 | .admitted => 2 | .waiting _ => 3

/-- The presence state code of READ_PEER (08, Peer entry layout). -/
def Presence.code (p : Presence) : Nat :=
  match p with | .absent => 0 | .present => 1 | .stale => 2

/-- The sixteen events (R195). -/
inductive Event where
  | loadDone | dipDone | recordStored | logFull | holdBegin | holdLong | zoneConflict | peerNew
  | peerStale | epochAdopted | lowZinc | lineLost | lineBack | fault | trigger0 | trigger1
deriving DecidableEq, Repr

/-- The bit of an event (R195). -/
def Event.index (e : Event) : Nat :=
  match e with
  | .loadDone => 0 | .dipDone => 1 | .recordStored => 2 | .logFull => 3 | .holdBegin => 4 | .holdLong => 5
  | .zoneConflict => 6 | .peerNew => 7 | .peerStale => 8 | .epochAdopted => 9 | .lowZinc => 10 | .lineLost => 11
  | .lineBack => 12 | .fault => 13 | .trigger0 => 14 | .trigger1 => 15

/-- The event alone, as a set (R195). -/
def Event.bit (e : Event) : EventSet := 1#16 <<< e.index

/-- One bit of a flags field. -/
def flagBit (index : Nat) (b : Bool) : Nat := if b then 2 ^ index else 0

/-- The flags field of a dip record (06, Dip record layout; R107, R113). -/
def recordFlags (f : DipFlags) (negDraw negDrip : Bool) : Nat :=
  flagBit 0 f.aborted + flagBit 1 f.faulted + flagBit 2 f.dryUnsettled + flagBit 3 f.exitUnsettled
    + flagBit 4 f.drainedUnsettled + flagBit 5 f.overrange + flagBit 6 negDraw + flagBit 7 negDrip
    + flagBit 8 f.depthClamped + flagBit 9 f.speedClamped + flagBit 10 f.exitWet + flagBit 11 f.waitExpired
    + flagBit 12 f.lineLostSeen + flagBit 13 f.conflictSeen

/-- The presence mask of a dip record (06, Dip record layout). -/
def presenceMask (r : DipRecord) : Nat :=
  flagBit 0 r.immersion.isSome + flagBit 1 r.dry.isSome + flagBit 2 r.exitWeight.isSome
    + flagBit 3 r.drained.isSome + flagBit 4 r.steel.isSome + flagBit 5 r.dripBack.isSome
    + flagBit 6 r.pickup.isSome + flagBit 7 r.faultCode.isSome

/-- The load result codes that are not the recipe validation's (R191). -/
def LoadResult.none : LoadResult := { code := 0x00, field := 0xFF, segment := 0xFF, recipe := 0xFF }
def LoadResult.ok : LoadResult := { LoadResult.none with code := 0x01 }
def LoadResult.length : LoadResult := { LoadResult.none with code := 0x02 }
def LoadResult.crc : LoadResult := { LoadResult.none with code := 0x03 }
def LoadResult.version : LoadResult := { LoadResult.none with code := 0x04 }
def LoadResult.timeout : LoadResult := { LoadResult.none with code := 0x0E }

/-- HEADER with the number of the first field that fails its range (R191, R192). -/
def LoadResult.header (field : Nat) : LoadResult :=
  { LoadResult.none with code := 0x05, field := BitVec.ofNat 8 field }

/-- The four bytes of a load result (R191). -/
def LoadResult.bytes (r : LoadResult) : List Byte := [r.code, r.field, r.segment, r.recipe]

end Sys2Proof.Machine
end

