-- ==== Sys2Proof/Machine/Operands.lean ====
section
/-! DEFINITION. Operands and layouts: byte order, the argument bytes of a frame (R185, R186), the CRCs (R120, R191), the
notices (R119, R121), and the bytes of the dip record (R113), the peer entry (R143) and the response (R185). -/

namespace Sys2Proof.Machine

/-! ### Byte order (1.7: most significant byte first) -/

/-- The lowest `k` bytes of a number, most significant byte first. -/
def beBytes (k n : Nat) : List Byte :=
  match k with
  | 0 => []
  | k + 1 => BitVec.ofNat 8 (n / 256 ^ k) :: beBytes k n

/-- The number that bytes spell, most significant byte first. -/
def beNat (bytes : List Byte) : Nat := bytes.foldl (fun acc b => acc * 256 + b.toNat) 0

/-- The number in `n` bytes from byte `at_` of a layout. -/
def beField (bytes : List Byte) (at_ n : Nat) : Nat := beNat ((bytes.drop at_).take n)

/-- A 16-bit two's-complement number (03, Segment record layout). -/
def signed16 (n : Nat) : Int := (BitVec.ofNat 16 n).toInt

/-- A 24-bit two's-complement number (image field 20). -/
def signed24 (n : Nat) : Int := (BitVec.ofNat 24 n).toInt

/-! ### Frames (R185, R186) -/

/-- The argument bytes of a frame, from what was shifted in after its command code; `none` where the transaction ended
before 2 + argument length bytes or the argument length is above 60 (R186, case 2). Bytes beyond are ignored (R185). -/
def frameArgs (tail : List Byte) : Option (List Byte) :=
  match tail with
  | [] => none
  | n :: rest => if n.toNat > 60 ∨ rest.length < n.toNat then none else some (rest.take n.toNat)

/-- What follows the command code in a frame with the given argument bytes and nothing beyond them. -/
def frameTail (args : List Byte) : List Byte := BitVec.ofNat 8 args.length :: args

/-- The response frame: result code, data length, data bytes (R185). -/
def responseFrame (r : Response) : List Byte := r.code.byte :: BitVec.ofNat 8 r.data.length :: r.data

/-- The n-th byte shifted out on MISO when the frame was captured; beyond the response frame bytes read 00h (R185). -/
def misoByte (captured : Response) (n : Nat) : Byte := (responseFrame captured).getD n 0

/-- A job record from the 13 argument bytes of DIP, as sent (R20, R187). -/
def jobOfArgs (args : List Byte) : Job :=
  { id := BitVec.ofNat 32 (beField args 0 4), recipe := beField args 4 1, firstZone := beField args 5 1
    zoneCount := beField args 6 1, hang := beField args 7 2, height := beField args 9 2, tare := beField args 11 2 }

/-- The ranges of a job record, for a kettle of `zones` zones (R20, R21 check 2). -/
def jobInRange (zones : Nat) (j : Job) : Bool :=
  decide (j.recipe ≤ 15 ∧ 1 ≤ j.firstZone ∧ 1 ≤ j.zoneCount ∧ j.firstZone + j.zoneCount - 1 ≤ zones
    ∧ 100 ≤ j.hang ∧ j.hang ≤ 10000 ∧ 100 ≤ j.height ∧ j.height ≤ 10000 ∧ j.tare ≤ 50000)

/-! ### Zone masks (R159) -/

/-- The zones 1 to `zones`. -/
def zonesBelow (zones : Nat) : Mask := BitVec.ofNat 16 (2 ^ zones - 1)

/-- The zone mask of a footprint (R159). -/
def footprint (j : Job) : Mask := BitVec.ofNat 16 ((2 ^ j.zoneCount - 1) * 2 ^ (j.firstZone - 1))

/-- Two masks overlap when at least one zone is in both (R159). -/
def overlaps (a b : Mask) : Bool := decide (a &&& b ≠ 0)

/-! ### CRCs -/

/-- One shift of the CRC-16 register (R120). -/
def crc16Shift (r : BitVec 16) : BitVec 16 := if r.msb then (r <<< 1) ^^^ 0x1021#16 else r <<< 1

/-- One byte into the CRC-16 register (R120). -/
def crc16Byte (r : BitVec 16) (b : Byte) : BitVec 16 :=
  crc16Shift (crc16Shift (crc16Shift (crc16Shift (crc16Shift (crc16Shift (crc16Shift (crc16Shift
    (r ^^^ (b.setWidth 16 <<< 8)))))))))

/-- The CRC-16 of a notice's bytes (R120). -/
def crc16 (bytes : List Byte) : BitVec 16 := bytes.foldl crc16Byte 0xFFFF#16

/-- One shift of the CRC-32 register (R191). -/
def crc32Shift (r : BitVec 32) : BitVec 32 := if r.msb then (r <<< 1) ^^^ 0x04C11DB7#32 else r <<< 1

/-- One byte into the CRC-32 register (R191). -/
def crc32Byte (r : BitVec 32) (b : Byte) : BitVec 32 :=
  crc32Shift (crc32Shift (crc32Shift (crc32Shift (crc32Shift (crc32Shift (crc32Shift (crc32Shift
    (r ^^^ (b.setWidth 32 <<< 24)))))))))

/-- The CRC-32 of an image's bytes (R191). -/
def crc32 (bytes : List Byte) : BitVec 32 := bytes.foldl crc32Byte 0xFFFFFFFF#32

/-! ### Notices (R119 to R122) -/

/-- The kind of a notice (R119). -/
inductive NoticeKind where
  | leave | state
deriving DecidableEq, Repr

/-- The kind code, bits 7–5 of the arbitration byte (R119). -/
def NoticeKind.code (k : NoticeKind) : Nat :=
  match k with | .leave => 1 | .state => 2

/-- The kind of a sending. -/
def Sending.kind (x : Sending) : NoticeKind :=
  match x with | .leave => .leave | .state _ => .state

/-- The arbitration byte (R119). -/
def arbitrationByte (k : NoticeKind) (station : StationIx) : Byte :=
  BitVec.ofNat 8 (k.code * 32 + station.val)

/-- The 29 payload bytes of a STATE notice (07, Notice layout). -/
def statePayload (a : Announced) : List Byte :=
  beBytes 1 a.stage ++ beBytes 1 a.claim.code ++ beBytes 2 a.mask.toNat ++ beBytes 1 a.resv.code
    ++ beBytes 2 a.reserved ++ beBytes 2 a.actual ++ beBytes 2 a.epoch ++ beBytes 1 a.origin
    ++ beBytes 4 a.inventory ++ beBytes 4 a.drawn.toNat ++ beBytes 4 a.added.toNat ++ beBytes 4 a.removed.toNat
    ++ beBytes 1 (flagBit 0 a.lineLost + flagBit 1 a.fault + flagBit 2 a.hold)

/-- A notice's bytes with the CRC-16 appended, most significant byte first (R120). -/
def withCrc16 (bytes : List Byte) : List Byte := bytes ++ beBytes 2 (crc16 bytes).toNat

/-- The bytes of a notice on the line (R119). -/
def noticeBytes (station : StationIx) (x : Sending) : List Byte :=
  match x with
  | .leave => withCrc16 [arbitrationByte .leave station, 0x00]
  | .state a => withCrc16 (arbitrationByte .state station :: 0x1D :: statePayload a)

/-- The claim status of a byte; `none` above 02h (R122 check 5). -/
def claimStatusOf (n : Nat) : Option ClaimStatus :=
  match n with
  | 0 => some .none | 1 => some .pending | 2 => some .held | _ => none

/-- The reservation status of a byte; `none` above 02h (R122 check 5). -/
def resvStatusOf (n : Nat) : Option ResvStatus :=
  match n with
  | 0 => some .none | 1 => some .pending | 2 => some .admitted | _ => none

/-- The contents of a STATE payload (07, Notice layout); `none` where check 5 of R122 fails. Bits 3–7 of the flags byte
are not kept (R133). The offsets are those of the payload, two below those of the notice. -/
def announcedOf (p : List Byte) : Option Announced :=
  match claimStatusOf (beField p 1 1), resvStatusOf (beField p 4 1) with
  | some claim, some resv => some
      { stage := beField p 0 1, claim := claim, mask := BitVec.ofNat 16 (beField p 2 2), resv := resv
        reserved := beField p 5 2, actual := beField p 7 2, epoch := beField p 9 2, origin := beField p 11 1
        inventory := beField p 12 4, drawn := BitVec.ofNat 32 (beField p 16 4)
        added := BitVec.ofNat 32 (beField p 20 4), removed := BitVec.ofNat 32 (beField p 24 4)
        lineLost := (beField p 28 1).testBit 0, fault := (beField p 28 1).testBit 1
        hold := (beField p 28 1).testBit 2 }
  | _, _ => none

/-- A valid notice: its station and what it says (R122, R123). -/
structure Notice where
  station : StationIx
  content : Sending
deriving DecidableEq, Repr

/-- The receive checks of R122 in their order, on the bytes of a notice; `none` where one fails. -/
def checkNotice (bytes : List Byte) (spoiled : Bool) : Option Notice :=
  match bytes with
  | arb :: len :: rest =>
    if spoiled ∨ rest.length ≠ len.toNat + 2 then none                                       -- check 1
    else
      let payload := rest.take len.toNat
      if beNat (rest.drop len.toNat) ≠ (crc16 (arb :: len :: payload)).toNat then none       -- check 2
      else
        let kind := arb.toNat / 32
        let field := arb.toNat % 32
        if h : field < 16 then
          if kind = 1 ∧ len.toNat = 0 then some ⟨⟨field, h⟩, .leave⟩                          -- checks 3, 4
          else if kind = 2 ∧ len.toNat = 29 then
            (announcedOf payload).map fun a => ⟨⟨field, h⟩, .state a⟩                         -- checks 3, 4, 5
          else none
        else none
  | _ => none

/-- The level sent at a bit time of a notice (R114): `true` for dominant. Bit 0 of a byte's ten bit times is the start
bit, bits 1–8 the data bits, most significant first, a 0 dominant, bit 9 the stop bit; beyond the last stop bit the
line is left recessive. -/
def sentDominant (bytes : List Byte) (bitTime : Nat) : Bool :=
  match bytes[bitTime / 10]? with
  | none => false
  | some b => if bitTime % 10 = 0 then true else if bitTime % 10 = 9 then false else !(b.getMsbD (bitTime % 10 - 1))

/-- How an attempt is judged at a bit time read back at a level other than the one sent (R117, R118): lost where a data
bit of the arbitration byte was sent recessive and read dominant, failed otherwise. -/
def judgeMismatch (bitTime : Nat) (dominant : Bool) : AttemptStatus :=
  if 1 ≤ bitTime ∧ bitTime ≤ 8 ∧ dominant then .lost else .failed

/-- The first bit of two bytes in which they differ: was it sent recessive (1) and read dominant (0)? -/
def yieldsByte (sent read : Byte) : Bool := decide (read.toNat < sent.toNat)

/-- How an own attempt that no mismatch has been reported for stands at the end of the notice (R118): driven whole where
the receiver took exactly the bytes sent; lost where the arbitration byte differs first in a bit sent recessive and
read dominant; failed otherwise. -/
def judgeAtEnd (sent received : List Byte) (spoiled : Bool) : AttemptStatus :=
  if received = sent ∧ !spoiled then .driving
  else match sent, received with
    | a :: _, b :: _ => if yieldsByte a b then .lost else .failed
    | _, _ => .failed

/-! ### The dip record (R113) -/

/-- The 49 bytes of a dip record (06, Dip record layout). -/
def recordBytes (r : DipRecord) : List Byte :=
  beBytes 2 r.seq.toNat ++ beBytes 1 (presenceMask r) ++ beBytes 1 r.endStage.code
    ++ beBytes 2 (recordFlags r.flags r.negDraw r.negDrip) ++ beBytes 4 r.jobId.toNat ++ beBytes 1 r.recipe
    ++ beBytes 1 r.station ++ beBytes 2 r.epoch ++ beBytes 1 ((r.faultCode.map FaultCode.code).getD 0)
    ++ beBytes 4 r.startTime.toNat ++ beBytes 4 ((r.immersion.map BitVec.toNat).getD 0) ++ beBytes 4 r.holdTime
    ++ beBytes 3 (r.dry.getD 0) ++ beBytes 3 (r.exitWeight.getD 0) ++ beBytes 3 (r.drained.getD 0)
    ++ beBytes 3 (r.steel.getD 0) ++ beBytes 3 r.drawn ++ beBytes 3 (r.dripBack.getD 0)
    ++ beBytes 4 (r.pickup.getD 0)

/-! ### The peer entry (R143) -/

/-- The 35 bytes of a peer entry (08, Peer entry layout). -/
def peerBytes (station : StationIx) (e : PeerEntry) (isSelf : Bool) : List Byte :=
  let a := e.heard
  beBytes 1 (station.val + 1) ++ beBytes 1 e.presence.code
    ++ beBytes 1 (flagBit 0 a.lineLost + flagBit 1 a.fault + flagBit 2 a.hold + flagBit 3 e.firstHeard
        + flagBit 4 isSelf)
    ++ beBytes 1 a.stage ++ beBytes 1 a.claim.code ++ beBytes 2 a.mask.toNat ++ beBytes 1 a.resv.code
    ++ beBytes 2 a.reserved ++ beBytes 2 a.actual ++ beBytes 2 a.epoch ++ beBytes 1 a.origin
    ++ beBytes 4 a.inventory ++ beBytes 4 a.drawn.toNat ++ beBytes 4 a.added.toNat ++ beBytes 4 a.removed.toNat
    ++ beBytes 4 e.time.toNat

end Sys2Proof.Machine
end

