-- ==== Sys2Proof/Machine/Ops.lean ====
section
/-! DEFINITION. The operations every block uses: reading and updating the blocks, raising events and the STATE request,
changing the stage, holds (R35, R36), per-dip flags, the output pins (R76, R86, R195) and the answering of frames
(R185, R186). Times of the rules stand at the top. -/

namespace Sys2Proof.Machine

/-! ### Times and sizes -/

/-- The listen period, ms (R188). -/
def listenPeriod : Nat := 2000
/-- The restart timer, ms (R196). -/
def restartPeriod : Nat := 1000
/-- The heartbeat period, ms (R125). -/
def heartbeatPeriod : Nat := 200
/-- How long the STATE request stays set before UNSENT, ms (R128). -/
def unsentPeriod : Nat := 1000
/-- The age at which an entry becomes STALE, ms (R139). -/
def staleAge : Nat := 1000
/-- The claim window and the admission window, ms (R166, R179). -/
def windowPeriod : Nat := 400
/-- The DRIVE_LOST limit, ms (R82). -/
def driveLostLimit : Nat := 2000
/-- The marker pulse, ms (R62). -/
def pulsePeriod : Nat := 100
/-- The consecutive failures at which LINE_LOST is set (R128). -/
def failureLimit : Nat := 16
/-- The consecutive failed reads at which the height becomes invalid (R73). -/
def readFailureLimit : Nat := 3
/-- The slots of the dip log (R100). -/
def logSlots : Nat := 32
/-- The jobs the queue holds (R22). -/
def queueSlots : Nat := 4
/-- The samples of the stillness window (R90). -/
def windowSize : Nat := 16
/-- The samples of an average (R94). -/
def averageSize : Nat := 32

/-! ### Reading -/

/-- Settings all at 0: read only while the CFS is empty, when no computation uses them (R3, assumption log 18). -/
def Settings.blank : Settings :=
  { station := 0, zoneCount := 0, area := 0, overflowLimit := 0, minLevel := 0, initialInventory := 0
    travelLow := 0, travelHigh := 0, maxSpeed := 0, creepSpeed := 0, slowBand := 0, arrivalBand := 0
    exitClearance := 0, safeHeight := 0, holdLimit := 0, divider := 0, stillBand := 0, settleTime := 0
    weighZero := 0, weighGain := 0, event0 := .none, event1 := .none, heads := [], segments := [] }

/-- The configuration in force (R3). -/
def State.settings (s : State) : Settings := s.cfs.getD Settings.blank

/-- The own station number's index (R134). -/
def State.own (s : State) : StationIx := s.settings.station

/-- The own station number. -/
def State.ownNumber (s : State) : Nat := s.own.val + 1

/-- The modes in which a configuration is in force and notices pass: LISTEN and READY (R188). -/
def State.online (s : State) : Bool := decide (s.cpt.mode = .listen ∨ s.cpt.mode = .ready)

/-- LINE_LOST holds (R128). -/
def State.lineLost (s : State) : Bool := s.kli.lineLost.holds

/-- Milliseconds from a Station Clock count to now, modulo 2^32 (R1). -/
def State.since (s : State) (t : Word) : Nat := (s.sck - t).toNat

/-- HALTn is asserted while low, and counts as asserted until its level is first set (R71, Table 4.1). -/
def State.haltAsserted (s : State) : Bool := s.hif.halt != some true

/-- DRDY is asserted while high (R71, Table 4.1). -/
def State.driveReady (s : State) : Bool := s.hif.driveReady == some true

/-- DFLT is asserted while high (R71, Table 4.1). -/
def State.driveFault (s : State) : Bool := s.hif.driveFault == some true

/-- The job of the active dip. -/
def State.job (s : State) : Option Job := s.dcc.active.map (·.job)

/-- LOG_WAIT (R25). -/
def State.logWait (s : State) : Bool := decide (s.dcc.stage = .idle ∧ s.acu.log.length = logSlots)

/-- DRIVE_WAIT (R25). -/
def State.driveWait (s : State) : Bool := decide (s.dcc.stage = .idle ∧ s.dcc.queue ≠ []) && !s.driveReady

/-! ### Updating a block -/

def State.onCpt (s : State) (f : Cpt → Cpt) : State := { s with cpt := f s.cpt }
def State.onKli (s : State) (f : Kli → Kli) : State := { s with kli := f s.kli }
def State.onInv (s : State) (f : Inv → Inv) : State := { s with inv := f s.inv }
def State.onZcu (s : State) (f : Zcu → Zcu) : State := { s with zcu := f s.zcu }
def State.onAdm (s : State) (f : Adm → Adm) : State := { s with adm := f s.adm }
def State.onDcc (s : State) (f : Dcc → Dcc) : State := { s with dcc := f s.dcc }
def State.onSgx (s : State) (f : Sgx → Sgx) : State := { s with sgx := f s.sgx }
def State.onHif (s : State) (f : Hif → Hif) : State := { s with hif := f s.hif }
def State.onWgu (s : State) (f : Wgu → Wgu) : State := { s with wgu := f s.wgu }
def State.onAcu (s : State) (f : Acu → Acu) : State := { s with acu := f s.acu }

/-- Store an entry of the peer table. -/
def State.setPeer (s : State) (i : StationIx) (e : PeerEntry) : State := { s with peers := s.peers.set i e }

/-- Change the active dip, if there is one. -/
def State.onDip (s : State) (f : Dip → Dip) : State := s.onDcc fun d => { d with active := d.active.map f }

/-- Change the per-dip flags of the active dip, if there is one (R38). -/
def State.onFlags (s : State) (f : DipFlags → DipFlags) : State := s.onDip fun d => { d with flags := f d.flags }

/-- Take the next free value and advance the counter that picks it (assumption logs 5, 6). -/
def State.nextFree (s : State) : State := { s with freeCount := s.freeCount + 1 }

/-! ### Events and the STATE request -/

/-- Raise an event: its pending flag is set whether or not it is enabled (R195). -/
def raiseEvent (e : Event) (s : State) : State := s.onCpt fun c => { c with events := c.events ||| e.bit }

/-- A STATE attempt is in progress (R124). -/
def Kli.sendingState (k : Kli) : Bool :=
  match k.attempt with
  | some a => decide (a.sending.kind = .state)
  | none => false

/-- A raise of the STATE request at a time (R124): the raise time is that of the raise that set it, and the first raise
since a STATE attempt began is remembered. -/
def Kli.raise (k : Kli) (now : Word) : Kli :=
  { k with
    stateRequest := some (k.stateRequest.getD now)
    lateRaise := if k.sendingState then some (k.lateRaise.getD now) else k.lateRaise }

/-- Raise the STATE request; in BOOT and LOADING no request is raised (R126, R131). -/
def raiseState (s : State) : State := if s.online then s.onKli (·.raise s.sck) else s

/-- Raise the STATE request if a condition holds. -/
def raiseStateIf (c : Bool) (s : State) : State := if c then raiseState s else s

/-! ### Stage and holds -/

/-- Change the dip stage, which raises the STATE request (R26, R126). The yield is in effect in APPROACH and ADMIT only;
its ceasing by a change of stage is reported to no block (R169). -/
def setStage (st : Stage) (s : State) : State :=
  raiseState ((s.onDcc fun d => { d with stage := st }).onZcu fun z =>
    { z with yielding := z.yielding && st.yields })

/-- A wait of the dip with a reason: a new hold with HOLD_BEGIN where none is in effect, else the same hold with that
reason (R35, R36). The HOLD flag of STATE changes where a hold begins (R126). -/
def waitHold (r : HoldReason) (s : State) : State :=
  match s.dcc.hold with
  | some h => s.onDcc fun d => { d with hold := some { h with reason := r } }
  | none =>
    raiseState (raiseEvent .holdBegin
      (s.onDcc fun d => { d with hold := some { reason := r, elapsed := 0, longRaised := false } }))

/-- The largest hold time of a record (R104). -/
def maxHoldTime : Nat := 4294967295

/-- End the hold in effect, if any: its length is added to the dip's hold time, saturating (R36, R104). -/
def endHold (s : State) : State :=
  match s.dcc.hold with
  | none => s
  | some h =>
    raiseState ((s.onDip fun d => { d with holdTime := saturate maxHoldTime (d.holdTime + h.elapsed) }).onDcc fun d =>
      { d with hold := none })

/-! ### Output pins -/

/-- The hook target and the speed of the leg running at the SGX, if one is (R53, R60). -/
def Running.leg (r : Running) : Option (Nat × Nat) :=
  match r with
  | .move _ target speed => some (target, speed)
  | .shake _ lower upper speed _ leg => some (if leg = .up then upper else lower, speed)
  | .dwell => none
  | .wait _ _ => none

/-- The hook target and the speed of the leg running, if one is. -/
def State.leg (s : State) : Option (Nat × Nat) := s.sgx.current.bind Running.leg

/-- The speed command toward a hook target (R77). -/
def speedToward (c : Settings) (hook target legSpeed : Nat) : Int :=
  let magnitude := if hookDistance hook target > c.slowBand then legSpeed else min c.creepSpeed legSpeed
  if hook < target then (magnitude : Int) else if target < hook then -(magnitude : Int) else 0

/-- The speed command as the state of the blocks gives it (R76). -/
def State.speedCommand (s : State) : Int :=
  if s.cpt.mode = .ready ∧ s.dcc.stage.moves ∧ !s.haltAsserted ∧ s.driveReady then
    match s.leg with
    | some (target, speed) => speedToward s.settings s.hif.hook target speed
    | none => 0
  else 0

/-- At least one event is both pending and enabled (R195). -/
def State.irqAsserted (s : State) : Bool := decide (s.cpt.events &&& s.cpt.enables ≠ 0)

/-- The output pins and the speed command follow what they are derived from (R76, R86, R195; assumption log 8). -/
def drivePins (s : State) : State :=
  { s with
    hif := { s.hif with speed := s.speedCommand, m0Out := s.sgx.m0.high, m1Out := s.sgx.m1.high }
    cpt := { s.cpt with irq := s.irqAsserted } }

/-- The outcome of a command that changed something: the next state, with the pins following. -/
def settle (s : State) : Host.Outcome State Fault Refusal := .next (drivePins s)

/-- The outcome of an arrival that finds nothing to act on: the next state is the same. -/
def unchanged (s : State) : Host.Outcome State Fault Refusal := .next s

/-! ### Answering frames -/

/-- Replace the contents of the response buffer (R185). -/
def respond (code : ResultCode) (data : List Byte) (s : State) : State :=
  s.onCpt fun c => { c with response := { code := code, data := data } }

/-- A refusal changes nothing but the response buffer and carries data length 0 (R186). -/
def refuse (code : ResultCode) (s : State) : Host.Outcome State Fault Refusal := .next (respond code [] s)

/-- An accepted command: its effect, then its response OK with the given data (R185). -/
def accept (data : List Byte) (s : State) : Host.Outcome State Fault Refusal := settle (respond .ok data s)

/-- The modes in which Table 12.1 takes a command (R187). -/
inductive Taken where
  | bootLoading | loading | always | listenReady | ready
deriving DecidableEq, Repr

/-- Whether a command so marked is taken in a mode (Table 12.1). -/
def Taken.inMode (t : Taken) (m : Mode) : Bool :=
  match t, m with
  | .bootLoading, .boot => true
  | .bootLoading, .loading => true
  | .loading, .loading => true
  | .always, _ => true
  | .listenReady, .listen => true
  | .listenReady, .ready => true
  | .ready, .ready => true
  | _, _ => false

/-- Cases 2, 4 and 5 of R186 for a command of Table 12.1 whose frame is not held off by a validation. -/
def answerFrame (taken : Taken) (tail : List Byte) (s : State)
    (body : List Byte → Host.Outcome State Fault Refusal) : Host.Outcome State Fault Refusal :=
  match frameArgs tail with
  | none => refuse .badFrame s
  | some args => if taken.inMode s.cpt.mode then body args else refuse .mode s

/-- The answering of a frame of Table 12.1 but GET_STATUS (R186): BUSY while a validation is in progress, BAD_FRAME,
MODE, then the command's own checks and effect. -/
def takeFrame (taken : Taken) (tail : List Byte) (s : State)
    (body : List Byte → Host.Outcome State Fault Refusal) : Host.Outcome State Fault Refusal :=
  if s.cpt.validating then refuse .busy s else answerFrame taken tail s body

end Sys2Proof.Machine
end

