-- ==== Sys2Proof/Machine/AdmissionOps.lean ====
section
/-! DEFINITION. What the Admission Unit does of its own: the sums (R16, R17), the admission test (R174), the surface
figures (R181), and the changes of the reservation and their report to the DCC (R30, R173 to R180). -/

namespace Sys2Proof.Machine

/-! ### The other entries (R11, R16, R17, R134) -/

/-- Every entry but the self entry, with its station. -/
def State.others (s : State) : List (StationIx × PeerEntry) :=
  ((List.finRange 16).filter (fun i => decide (i ≠ s.own))).map fun i => (i, s.peers.get i)

/-- The other entries that are PRESENT or STALE. -/
def State.heardOthers (s : State) : List (StationIx × PeerEntry) :=
  s.others.filter fun p => decide (p.2.presence ≠ .absent)

/-- D_others (R16). -/
def State.reservedByOthers (s : State) : Nat := (s.heardOthers.map fun p => p.2.heard.reserved).sum

/-- Whether an entry is committed against a station (R17). -/
def committedAgainst (own station : StationIx) (e : PeerEntry) : Bool :=
  match e.presence with
  | .absent => false
  | .stale => true
  | .present =>
    match e.heard.resv with
    | .admitted => true
    | .pending => decide (station < own)
    | .none => false

/-- D_committed (R17). -/
def State.committedByOthers (s : State) : Nat :=
  ((s.others.filter fun p => committedAgainst s.own p.1 p.2).map fun p => p.2.heard.reserved).sum

/-- The admission sum (R16). -/
def State.admissionSum (s : State) : Nat := s.inv.level + s.reservedByOthers + s.adm.full

/-- The committed sum (R17). -/
def State.committedSum (s : State) : Nat := s.inv.level + s.committedByOthers + s.adm.full

/-- The committed sum is within the overflow limit (R17). -/
def State.committedFits (s : State) : Bool := decide (s.committedSum ≤ s.settings.overflowLimit)

/-- The surface without own (R11). -/
def State.surfaceWithout (s : State) : Nat :=
  saturate maxLevel (s.inv.level + (s.heardOthers.map fun p => p.2.heard.actual).sum)

/-- Recompute the surface without own and the surface estimate (R181). -/
def refreshSurface (s : State) : State :=
  s.onAdm fun a => { a with without := s.surfaceWithout, surface := surfaceEstimate s.surfaceWithout a.actual }

/-! ### The admission test (R174) -/

/-- The outcome of the admission test: the waiting reason, or `none` for PENDING (R174). -/
def State.admissionTest (s : State) : Option ResvReason :=
  if s.lineLost then some .line
  else if isLow s.settings.minLevel s.inv.level then some .lowZinc
  else if s.settings.overflowLimit < s.admissionSum then some .level
  else if s.adm.gateClosed then some .conflict
  else none

/-! ### Changes of the reservation -/

/-- Report a reservation state to the DCC: in ADMIT a WAITING reservation is a hold, any other state ends it (R30,
R35). -/
def reportResv (s : State) : State :=
  if s.dcc.stage = .admitting then
    match s.adm.resv with
    | .waiting r => waitHold r.hold s
    | _ => endHold s
  else s

/-- Set the reservation state. The STATE request is raised where the reservation as announced changes, and the state is
reported to the DCC in the same step (R173). -/
def setResv (r : ResvState) (s : State) : State :=
  reportResv (raiseStateIf (decide (r.status ≠ s.adm.resv.status)) (s.onAdm fun a => { a with resv := r }))

/-- Make the admission test and take its outcome, from NONE or WAITING (R175, R176). -/
def testResv (s : State) : State :=
  match s.admissionTest with
  | some r => setResv (.waiting r) s
  | none => setResv (.pending none) s

/-- The waiting reason of a reservation withdrawn by a review: the one the admission test gives (R178). -/
def State.withdrawReason (s : State) : ResvReason := s.admissionTest.getD .level

/-- A WAITING reservation tests again, but not in FAULT; a PENDING one is reviewed against the committed sum (R176,
R178, R184). -/
def reviewResv (s : State) : State :=
  match s.adm.resv with
  | .waiting _ => if s.dcc.stage = .fault then s else testResv s
  | .pending _ => if s.committedFits then s else setResv (.waiting s.withdrawReason) s
  | _ => s

/-- A change of L reported by the INV (R148, R178, R181). -/
def admLevelChanged (s : State) : State := reviewResv (refreshSurface s)

/-- The setting of LINE_LOST at the ADM (R176, R178). -/
def admLineLost (s : State) : State :=
  match s.adm.resv with
  | .waiting _ => if s.dcc.stage = .fault then s else testResv s
  | .pending _ => setResv (.waiting .line) s
  | _ => s

/-- The clearing of LINE_LOST at the ADM (R176). -/
def admLineBack (s : State) : State :=
  match s.adm.resv with
  | .waiting _ => if s.dcc.stage = .fault then s else testResv s
  | _ => s

/-- The closing of the conflict gate (R180). -/
def closeGate (s : State) : State :=
  let t := s.onAdm fun a => { a with gateClosed := true }
  match t.adm.resv with
  | .waiting _ => if t.dcc.stage = .fault then t else testResv t
  | .pending _ => setResv (.waiting .conflict) t
  | _ => t

/-- The opening of the conflict gate (R180). -/
def openGate (s : State) : State :=
  let t := s.onAdm fun a => { a with gateClosed := false }
  match t.adm.resv with
  | .waiting _ => if t.dcc.stage = .fault then t else testResv t
  | _ => t

/-- Release the reservation to NONE and open the conflict gate (R183). The STATE request is raised where the reservation
as announced changes. -/
def releaseResv (s : State) : State :=
  setResv .none (s.onAdm fun a => { a with gateClosed := false })

/-- Form F from S at the end of WEIGH_DRY (R10, R181). -/
def formFull (steel : Nat) (s : State) : State :=
  s.onAdm fun a => { a with full := fullDisplacement s.settings.area steel }

/-- The end of a dip at the ADM: F and the own actual displacement become 0, the surface estimate the surface without own
(R34, R46, R181). -/
def clearFull (s : State) : State :=
  s.onAdm fun a => { a with full := 0, actual := 0, surface := a.without }

/-- The window of the reservation starts at the first report of an own STATE that carried it (R177). -/
def admCompletion (contents : Announced) (s : State) : State :=
  match s.adm.resv with
  | .pending none =>
    if contents.resv = .pending ∧ contents.reserved = s.adm.full then
      s.onAdm fun a => { a with resv := .pending (some s.sck) }
    else s
  | _ => s

/-- The own actual displacement and the surface estimate at a hook-height update, while a job is active and S exists
(R12, R13, R181). -/
def refreshActual (s : State) : State :=
  match s.dcc.active with
  | none => s
  | some d =>
    if d.steel.isSome then
      let depth := immersedDepth s.adm.without s.hif.hook d.job.hang d.job.height
      s.onAdm fun a =>
        { a with
          actual := ownDisplacement a.full depth d.job.height
          surface := surfaceEstimate a.without (ownDisplacement a.full depth d.job.height) }
    else s

/-- The surface-clear test holds for the active load (R15). -/
def State.clearNow (s : State) : Bool :=
  match s.dcc.active with
  | none => false
  | some d => surfaceClear s.adm.without s.hif.hook d.job.hang s.settings.exitClearance

/-- Surface clear at a hook-height update: the reservation falls to NONE and the update is the immersion end (R33,
R182). -/
def testClear (s : State) : State :=
  if s.adm.resv = .admitted ∧ s.dcc.stage.testsClear ∧ s.clearNow then
    (setResv .none s).onDip fun d => { d with immersionEnd := some (d.immersionEnd.getD s.sck) }
  else s

/-- What the ADM does at a hook-height update (R74, R181, R182). -/
def admHookUpdate (s : State) : State := testClear (refreshActual s)

end Sys2Proof.Machine
end

