-- ==== Sys2Proof/Machine/InventoryOps.lean ====
section
/-! DEFINITION. The Inventory Unit: changes of M and their carrying through (R148), the counters (R149), the counter
differences of peers (R151, R152), the epoch pair (R153, R154), soundings (R156), the low test (R157); and the storing of
a dip record by the Accounting Unit, which hands its drawn mass to it (R102 to R108). -/

namespace Sys2Proof.Machine

/-! ### Changes of M -/

/-- Change M by a signed mass, with the inventory clamp (R148). -/
def Inv.shift (delta : Int) (v : Inv) : Inv := { v with mass := clampNat maxInventory ((v.mass : Int) + delta) }

/-- Recompute L from M (R7). -/
def Inv.relevel (area : Nat) (v : Inv) : Inv := { v with level := levelOf area v.mass }

/-- The epoch, the origin or an own counter differs (R148 step 3). -/
def Inv.announcedDiffers (a b : Inv) : Bool :=
  decide (a.epoch ≠ b.epoch ∨ a.origin ≠ b.origin ∨ a.drawn ≠ b.drawn ∨ a.added ≠ b.added ∨ a.removed ≠ b.removed)

/-- The low test: LOW_ZINC is raised where the low flag goes from clear to set (R157). -/
def lowTest (s : State) : State :=
  let low := isLow s.settings.minLevel s.inv.level
  let t := s.onInv fun v => { v with low := low }
  if low && !s.inv.low then raiseEvent .lowZinc t else t

/-- An arrival at the INV carried through whole (R148): the change, L afresh, the report of a changed L to the ADM, the low
test, and the STATE request where the pair or a counter changed. -/
def invArrive (f : Inv → Inv) (s : State) : State :=
  let t := s.onInv fun v => (f v).relevel s.settings.area
  let u := if t.inv.level = s.inv.level then t else admLevelChanged t
  let w := lowTest u
  raiseStateIf (w.inv.announcedDiffers s.inv) w

/-! ### Own counters (R149) -/

/-- A stored record's drawn mass raises the drawn counter and lowers M (R108, R149). -/
def Inv.draw (mass : Nat) (v : Inv) : Inv := { v.shift (-(mass : Int)) with drawn := v.drawn + BitVec.ofNat 32 mass }

/-- ADD_ZINC raises the added counter and M (R149). -/
def Inv.add (mass : Nat) (v : Inv) : Inv := { v.shift (mass : Int) with added := v.added + BitVec.ofNat 32 mass }

/-- REMOVE_DROSS raises the removed counter and lowers M (R149). -/
def Inv.remove (mass : Nat) (v : Inv) : Inv := { v.shift (-(mass : Int)) with removed := v.removed + BitVec.ofNat 32 mass }

/-- A sounding raises the epoch, makes the own station the origin and sets M (R156). -/
def Inv.sound (area own level : Nat) (v : Inv) : Inv :=
  { v with epoch := v.epoch + 1, origin := own, mass := massOfSounding area level }

/-! ### A peer's STATE (R151 to R154) -/

/-- The movement of one counter of a peer: its difference modulo 2^32, taken as none where it is 2^31 or more (a restart)
or on a first hearing (R151). -/
def counterMovement (firstHearing : Bool) (new last : Word) : Nat :=
  if firstHearing then 0
  else if (new - last).toNat < 2147483648 then (new - last).toNat else 0

/-- The net change of M announced by a STATE, against what the entry held before it (R152). -/
def netMovement (firstHearing : Bool) (new last : Announced) : Int :=
  (counterMovement firstHearing new.added last.added : Int)
    - (counterMovement firstHearing new.drawn last.drawn : Int)
    - (counterMovement firstHearing new.removed last.removed : Int)

/-- The order of epoch pairs: the higher epoch is greater, at equal epochs the lower origin (R153). -/
def pairGreater (epoch origin epoch' origin' : Nat) : Bool :=
  decide (epoch' < epoch ∨ (epoch = epoch' ∧ origin < origin'))

/-- A sender's pair is adopted: it is greater and its origin is a station number (R154). -/
def adopts (a : Announced) (v : Inv) : Bool :=
  pairGreater a.epoch a.origin v.epoch v.origin && decide (1 ≤ a.origin ∧ a.origin ≤ 16)

/-- Adoption of a sender's pair and inventory (R154). -/
def Inv.adopt (a : Announced) (v : Inv) : Inv :=
  { v with epoch := a.epoch, origin := a.origin, mass := saturate maxInventory a.inventory }

/-- What a valid STATE of a peer does at the INV: the counter changes as one clamped change, then perhaps the adoption of
its pair, with EPOCH_ADOPTED (R148, R152, R154). -/
def invPeerState (firstHearing : Bool) (new last : Announced) (s : State) : State :=
  if adopts new s.inv then
    raiseEvent .epochAdopted (invArrive (fun v => (v.shift (netMovement firstHearing new last)).adopt new) s)
  else invArrive (fun v => v.shift (netMovement firstHearing new last)) s

/-! ### Storing a dip record (R102 to R108) -/

/-- The end stage of a dip (R106). -/
def Dip.endStage (d : Dip) : Stage :=
  if d.flags.faulted then d.faultStage.getD .weighDry
  else if d.flags.aborted then d.abortStage.getD .weighDry
  else .depart

/-- The immersion time: to surface clear, or to the store where surface clear was never seen (R33, R104). -/
def Dip.immersionTime (d : Dip) (now : Word) : Option Word :=
  d.immersionStart.map fun t => d.immersionEnd.getD now - t

/-- The record of a dip, completed by the ACU (R102, R103, R105). -/
def recordOf (s : State) (d : Dip) : DipRecord :=
  { seq := s.acu.nextSeq, jobId := d.job.id, recipe := d.job.recipe, station := s.ownNumber, epoch := s.inv.epoch
    startTime := d.startTime, immersion := d.immersionTime s.sck, holdTime := d.holdTime
    dry := d.dry, exitWeight := d.exitWeight, drained := d.drained, steel := d.steel
    drawn := (drawnOf d.dry d.drained).1, dripBack := (dripBackOf d.exitWeight d.drained).1
    pickup := pickupOf d.dry d.drained d.steel, endStage := d.endStage
    faultCode := if d.flags.faulted then some s.dcc.faultCode else none
    flags := d.flags, negDraw := (drawnOf d.dry d.drained).2, negDrip := (dripBackOf d.exitWeight d.drained).2 }

/-- Place a record in the reserved slot, with RECORD_STORED, and LOG_FULL at 32 records (R102, R109). -/
def logRecord (r : DipRecord) (s : State) : State :=
  let t := raiseEvent .recordStored
    (s.onAcu fun a => { a with log := a.log ++ [r], reserved := false, nextSeq := a.nextSeq + 1 })
  if t.acu.log.length = logSlots then raiseEvent .logFull t else t

/-- Store the record of the active dip and hand its drawn mass to the INV (R102, R108). -/
def storeDip (s : State) : State :=
  match s.dcc.active with
  | none => s
  | some d => invArrive (·.draw (recordOf s d).drawn) (logRecord (recordOf s d) s)

end Sys2Proof.Machine
end

