-- ==== Sys2Proof/Machine/ClaimOps.lean ====
section
/-! DEFINITION. What the Zone Claim Unit does of its own: blocking (R162), the changes of the claim and their report to the
DCC (R28, R161), the reviews of a STATE (R165, R167) and the release (R171). -/

namespace Sys2Proof.Machine

/-- The footprint of the active job; empty where no job is active (R159). -/
def State.footprint (s : State) : Mask := (s.job.map Machine.footprint).getD 0

/-- An entry that blocks a claim on a mask (R162). -/
def blocksClaim (mask : Mask) (e : PeerEntry) : Bool :=
  decide (e.presence ≠ .absent) && decide (e.heard.claim ≠ .none) && overlaps e.heard.mask mask

/-- The blocking test: the waiting reason, or `none` where the own claim is not blocked (R162). -/
def State.claimBlocked (s : State) : Option ClaimReason :=
  if s.lineLost then some .line
  else if s.others.any (fun p => blocksClaim s.footprint p.2) then some .zone
  else none

/-- Report a claim state to the DCC: in CLAIM a WAITING claim is a hold, any other state ends it (R28, R35). -/
def reportClaim (s : State) : State :=
  if s.dcc.stage = .claim then
    match s.zcu.claim with
    | .waiting r => waitHold r.hold s
    | _ => endHold s
  else s

/-- Set the claim state and the own mask. The STATE request is raised where the claim as announced changes, and the state
is reported to the DCC in the same step (R161). -/
def setClaim (c : ClaimState) (mask : Mask) (s : State) : State :=
  reportClaim (raiseStateIf (decide (c.status ≠ s.zcu.claim.status))
    (s.onZcu fun z => { z with claim := c, mask := mask }))

/-- Make the blocking test and take its outcome, from NONE or WAITING (R163, R164). -/
def testClaim (s : State) : State :=
  match s.claimBlocked with
  | some r => setClaim (.waiting r) 0 s
  | none => setClaim (.pending none) s.footprint s

/-- Release the claim: NONE, mask emptied, window stopped, conflict flag cleared, yield ended (R171). -/
def releaseClaim (s : State) : State :=
  setClaim .none 0 (s.onZcu fun z => { z with conflict := false, yielding := false })

/-- The setting and the clearing of LINE_LOST at the ZCU (R164, R170): a WAITING claim tests again, a PENDING one falls back
to WAITING where LINE_LOST holds. -/
def zcuLineChanged (s : State) : State :=
  match s.zcu.claim with
  | .waiting _ => testClaim s
  | .pending _ => if s.lineLost then setClaim (.waiting .line) 0 s else s
  | _ => s

/-- The window of the claim starts at the first report of an own STATE that carried it (R165). -/
def zcuCompletion (contents : Announced) (s : State) : State :=
  match s.zcu.claim with
  | .pending none =>
    if contents.claim = .pending ∧ contents.mask = s.zcu.mask then
      s.onZcu fun z => { z with claim := .pending (some s.sck) }
    else s
  | _ => s

/-- The review of a STATE stored in an entry by a PENDING claim (R165). -/
def reviewPending (i : StationIx) (s : State) : State :=
  let e := s.peers.get i
  if overlaps e.heard.mask s.zcu.mask then
    match e.heard.claim with
    | .held => setClaim (.waiting .zone) 0 s
    | .pending => if i < s.own then setClaim (.waiting .zone) 0 s else raiseState s
    | .none => s
  else s

/-- The review of a STATE stored in an entry by a HELD claim: an overlapping PENDING raises the STATE request (R167). -/
def reviewHeld (i : StationIx) (s : State) : State :=
  let e := s.peers.get i
  raiseStateIf (overlaps e.heard.mask s.zcu.mask && decide (e.heard.claim = .pending)) s

/-- A conflicting entry: another PRESENT or STALE entry that shows an overlapping HELD claim (R168). -/
def conflictsWith (mask : Mask) (e : PeerEntry) : Bool :=
  decide (e.presence ≠ .absent) && decide (e.heard.claim = .held) && overlaps e.heard.mask mask

/-- The conflicting entries, while the own claim is HELD (R168). -/
def State.conflicting (s : State) : List (StationIx × PeerEntry) :=
  if s.zcu.claim = .held then s.others.filter (fun p => conflictsWith s.zcu.mask p.2) else []

/-- The conditions of the yield, with a list of conflicting entries (R169). -/
def State.yieldsTo (s : State) (conflicting : List (StationIx × PeerEntry)) : Bool :=
  s.dcc.stage.yields && conflicting.any (fun p => decide (p.1 < s.own))

/-- The conflict flag from clear to set: ZONE_CONFLICT, the STATE request, and CONFLICT_SEEN if a dip is active (R37,
R168). -/
def beginConflict (s : State) : State :=
  raiseState (raiseEvent .zoneConflict
    ((s.onZcu fun z => { z with conflict := true }).onFlags fun f => { f with conflictSeen := true }))

end Sys2Proof.Machine
end

