-- ==== Sys2Proof/Machine/SegmentOps.lean ====
section
/-! DEFINITION. The dip's own course: weigh requests (R91, R92), markers (R62), legs and segments (R53 to R61), the walk of
the Segment Executor over the recipe and the stages of the Dip Cycle Controller (R26 to R34, R51 to R54), release (R34),
faults (R43, R44, R64), the end of a dip by abort (R40 to R42, R63). -/

namespace Sys2Proof.Machine

/-! ### Weighing -/

/-- The load is still: the window holds 16 samples and their spread is within the stillness band (R91). -/
def State.still (s : State) : Bool :=
  decide (s.wgu.window.length = windowSize
    ∧ (s.wgu.window.map (·.gross)).foldl max 0 ≤
        (s.wgu.window.map (·.gross)).foldl min maxWeight + s.settings.stillBand)

/-- A weigh operation as a request makes it: its phase by the stillness test on the window as it stands, the settle timer at
0, the list empty (R92). -/
def State.newWeighing (s : State) : WeighOp :=
  { phase := if s.still then .averaging else .settling, settleTimer := 0, samples := [] }

/-- A request for a weigh operation (R92). -/
def weighRequest (s : State) : State := s.onWgu fun w => { w with op := some s.newWeighing }

/-- A weigh operation in progress ends without delivery (R98). -/
def dropWeigh (s : State) : State := s.onWgu fun w => { w with op := none }

/-! ### Markers (R62) -/

/-- A marker action applied to a latch (R62). -/
def MarkerLatch.act (a : MarkerAction) (m : MarkerLatch) : MarkerLatch :=
  match a with
  | .keep => m
  | .set => { high := true, pulse := none }
  | .clear => { high := false, pulse := none }
  | .pulse => { high := true, pulse := some pulsePeriod }

/-- Both latches low and both pulse timers stopped (R62). -/
def markersLow (s : State) : State :=
  s.onSgx fun x => { x with m0 := { high := false, pulse := none }, m1 := { high := false, pulse := none } }

/-- The marker actions of a segment, at its start (R53, R62). -/
def applyMarkers (seg : Segment) (s : State) : State :=
  s.onSgx fun x => { x with m0 := x.m0.act seg.m0, m1 := x.m1.act seg.m1 }

/-! ### Segments -/

/-- A segment of the pool; `none` for an unsupplied index (R48). -/
def segmentAt (c : Settings) (i : Nat) : Option Segment := c.segments[i]?

/-- A recipe head; `none` for FFh (R48). -/
def headOf (c : Settings) (recipe : Nat) : Option Nat := c.heads.getD recipe none

/-- The cursor on a next index (R49: FFh ends the chain). -/
def Cursor.ofNext (next : Option Nat) : Cursor :=
  match next with
  | Option.none => Cursor.chainEnd
  | some i => Cursor.seg i

/-- The hook target of a load-bottom height: plus the hang length, replaced by the nearer travel bound outside the
bounds; and whether that clamp acted (R56). -/
def clampHook (c : Settings) (bottom : Int) (hang : Nat) : Nat × Bool :=
  if bottom + hang < c.travelLow then (c.travelLow, true)
  else if (c.travelHigh : Int) < bottom + hang then (c.travelHigh, true)
  else ((bottom + hang).toNat, false)

/-- The hang length of the active job. -/
def State.hang (s : State) : Nat := (s.job.map (·.hang)).getD 0

/-- The frozen target of a segment at its start (R56). -/
def State.freeze (s : State) (r : Reference) (target : Int) : Int :=
  match r with
  | .abs => target
  | .surf => (s.adm.surface / 10 : Nat) + target

/-- The leg has arrived: the hook is within the arrival band of its target (R58). -/
def State.inBand (s : State) (target : Nat) : Bool := decide (hookDistance s.hif.hook target ≤ s.settings.arrivalBand)

/-- A clamp of the hook target or of the speed sets its flag (R56, R57). -/
def noteClamps (depth speed : Bool) (s : State) : State :=
  s.onFlags fun f => { f with depthClamped := f.depthClamped || depth, speedClamped := f.speedClamped || speed }

/-- A leg starts: it becomes what is running, and its motion limit count starts from 0 (R58, R79, R80). -/
def startLeg (r : Running) (s : State) : State :=
  match r.leg with
  | none => s
  | some (target, speed) =>
    (s.onSgx fun x => { x with current := some r }).onHif fun h =>
      { h with motion := some { count := 0, limit := motionLimit (hookDistance h.hook target) speed } }

/-- A motion segment starts: the DRIVE_LOST timer starts with it where drive-ready is already negated (R82). -/
def startMotion (s : State) : State :=
  s.onHif fun h => { h with driveLost := if s.driveReady then none else some 0 }

/-- What ends with a segment: nothing is running, the repeat counter is 0, the segment's timers, the motion limit count and
the DRIVE_LOST timer are stopped (R54, R60, R63, R64, R80, R82). -/
def dropSegment (s : State) : State :=
  (s.onSgx fun x => { x with current := none, repeats := 0, dwell := none, wait := none }).onHif fun h =>
    { h with motion := none, driveLost := none }

/-- A MOVE starts (R56 to R58). It ends at once where it starts within the arrival band. -/
def startMove (r : Reference) (target : Int) (speed : Nat) (s : State) : State :=
  let c := s.settings
  let frozen := s.freeze r target
  let hook := clampHook c frozen s.hang
  let t := noteClamps hook.2 (decide (c.maxSpeed < speed)) s
  if t.inBand hook.1 then dropSegment t
  else startMotion (startLeg (.move frozen hook.1 (min speed c.maxSpeed)) t)

/-- A SHAKE starts (R60). Where both hook targets are within the arrival band every leg arrives at once; where only the
lower is, the first leg arrives at once and the up leg runs. -/
def startShake (r : Reference) (target : Int) (speed amplitude count : Nat) (s : State) : State :=
  let c := s.settings
  let frozen := s.freeze r target
  let lower := clampHook c frozen s.hang
  let upper := clampHook c (frozen + amplitude) s.hang
  let t := noteClamps (lower.2 || upper.2) (decide (c.maxSpeed < speed)) s
  let legSpeed := min speed c.maxSpeed
  if t.inBand lower.1 then
    if t.inBand upper.1 then dropSegment t
    else startMotion (startLeg (.shake frozen lower.1 upper.1 legSpeed count .up)
      (t.onSgx fun x => { x with repeats := count }))
  else startMotion (startLeg (.shake frozen lower.1 upper.1 legSpeed count .first) t)

/-- A DWELL starts; a time of 0 ends it at once (R59). -/
def startDwell (time : Nat) (s : State) : State :=
  if time = 0 then dropSegment s
  else s.onSgx fun x => { x with current := some .dwell, dwell := some time }

/-- Clear both marks of a trigger's edge latch (R61, R84). -/
def clearLatch (t : Trigger) (s : State) : State :=
  s.onHif fun h =>
    match t with
    | .t0 => { h with latch0 := { rising := false, falling := false } }
    | .t1 => { h with latch1 := { rising := false, falling := false } }

/-- A WAIT_INPUT starts (R61). -/
def startWait (input : Trigger) (edge : EdgeChoice) (time : Nat) (s : State) : State :=
  clearLatch input (s.onSgx fun x => { x with current := some (.wait input edge), wait := some time })

/-- The work of a segment that is no CALL starts (R53). Afterwards nothing is running exactly where it ended at once. -/
def startWork (w : Work) (s : State) : State :=
  match w with
  | .move r target speed => startMove r target speed s
  | .dwell time => startDwell time s
  | .shake r target speed amplitude count => startShake r target speed amplitude count s
  | .waitInput input edge time => startWait input edge time s
  | .call _ => s

/-! ### The end of a dip (R34, R46, R64) -/

/-- The SGX drops the recipe: cursor none, return index cleared, no stage in hand, nothing running (R64). -/
def dropRecipe (s : State) : State :=
  (dropSegment s).onSgx fun x => { x with cursor := .none, returnIndex := none, stage := none }

/-- The steps that RELEASE and an accepted RECOVER share (R34 steps 1 to 6, R46 steps 1 to 5). -/
def finishDip (s : State) : State :=
  clearFull ((raiseEvent .dipDone (storeDip (dropRecipe (markersLow (releaseResv (releaseClaim s)))))).onDcc fun d =>
    { d with active := none })

/-- RELEASE, entered and left in the same step (R26, R34). -/
def releaseDip (s : State) : State := setStage .idle (finishDip (setStage .release (endHold s)))

/-! ### Stages -/

/-- The dip enters WEIGH_EXIT: EXIT_WET is set where surface clear has not yet been seen (R32). -/
def enterWeighExit (s : State) : State :=
  weighRequest (setStage .weighExit (s.onDip fun d =>
    { d with flags := { d.flags with exitWet := d.flags.exitWet || d.immersionEnd.isNone } }))

/-- The dip enters WEIGH_DRAINED (R32). -/
def enterWeighDrained (s : State) : State := weighRequest (setStage .weighDrained s)

/-- The dip enters ADMIT and asks for admission of F (R30, R175). -/
def enterAdmit (s : State) : State := testResv (setStage .admitting s)

/-- The DCC hands a motion stage to the SGX; for APPROACH the cursor is set to the recipe head (R51). -/
def handStage (p : Phase) (s : State) : State :=
  (setStage (phaseStage p) s).onSgx fun x =>
    match p with
    | .approach =>
      { x with
        stage := some p
        cursor := Cursor.ofNext (headOf s.settings ((s.job.map (·.recipe)).getD 0))
        returnIndex := none }
    | _ => { x with stage := some p }

/-- The next motion stage after a phase is done, where it follows at once (R26, R31). -/
def phaseFollowing (p : Phase) : Option Phase :=
  match p with
  | .immerse => some .soak
  | .soak => some .withdraw
  | _ => none

/-- The SGX reports phase done, and no stage is in hand; the DCC enters the next stage, which the SGX does not run: ADMIT
after APPROACH, WEIGH_EXIT after WITHDRAW, WEIGH_DRAINED after DRAIN, RELEASE after DEPART (R26). -/
def leavePhase (p : Phase) (s : State) : State :=
  let t := s.onSgx fun x => { x with stage := none }
  match p with
  | .approach => enterAdmit t
  | .withdraw => enterWeighExit t
  | .drain => enterWeighDrained t
  | .depart => releaseDip t
  | .immerse => t
  | .soak => t

/-! ### The walk of the SGX -/

/-- What the SGX finds at its cursor (R52, R54). -/
inductive Find where
  /-- No recipe is in progress, or no stage is in hand, or an index that no loaded recipe holds. -/
  | nothing
  /-- The end of a called chain: the cursor takes the return index. -/
  | back (next : Option Nat)
  /-- The phase is done: a later phase stands at the cursor, or the main chain has ended. -/
  | done (phase : Phase)
  /-- A segment of an earlier phase, which is passed over. -/
  | pass (seg : Segment)
  /-- A segment of the stage in hand. -/
  | start (seg : Segment)
deriving DecidableEq, Repr

/-- The phase test on the cursor (R52, R54). -/
def State.find (s : State) : Find :=
  match s.sgx.stage with
  | none => .nothing
  | some p =>
    match s.sgx.cursor with
    | .none => .nothing
    | .chainEnd =>
      match s.sgx.returnIndex with
      | some next => .back next
      | none => .done p
    | .seg i =>
      match segmentAt s.settings i with
      | none => .nothing
      | some seg =>
        if phaseOrder seg.phase < phaseOrder p then .pass seg
        else if phaseOrder p < phaseOrder seg.phase then .done p
        else .start seg

/-- A CALL is taken: its marker actions, the return index, the cursor on its call target (R53, R55). -/
def takeCall (seg : Segment) (target : Nat) (s : State) : State :=
  (applyMarkers seg s).onSgx fun x => { x with returnIndex := some seg.next, cursor := .seg target }

/-- A segment that is no CALL is started: its marker actions, the cursor on its next index, its work (R53). -/
def startSegment (seg : Segment) (s : State) : State :=
  startWork seg.work ((applyMarkers seg s).onSgx fun x => { x with cursor := Cursor.ofNext seg.next })

/-- The SGX goes on from its cursor until a segment runs, the conflict hold stops it, or the DCC enters a stage that has
no segments (R52 to R55). The number bounds the steps of the walk: a loaded recipe ends within it (R67, R68), and a
recipe that validation never passed stands still when it runs out (assumption log 19). -/
def sgxRun : Nat → State → State
  | 0, s => s
  | n + 1, s =>
    match s.find with
    | .nothing => s
    | .back next => sgxRun n (s.onSgx fun x => { x with cursor := Cursor.ofNext next, returnIndex := none })
    | .pass seg => sgxRun n (s.onSgx fun x => { x with cursor := Cursor.ofNext seg.next })
    | .done p =>
      match phaseFollowing p with
      | some q => sgxRun n (handStage q s)
      | none => leavePhase p s
    | .start seg =>
      if s.dcc.stage = .approach ∧ s.zcu.yielding then waitHold .conflict s
      else
        match seg.work with
        | .call target => sgxRun n (takeCall seg target s)
        | _ =>
          let t := startSegment seg s
          if t.sgx.current.isNone then sgxRun n t else t

/-- More steps than any loaded recipe can take from one arrival: 96 main segments, each with a called chain of 96, each
chain's end, and the changes of phase (R67, R68). -/
def sgxFuel : Nat := 10000

/-- The SGX goes on from its cursor. -/
def sgxGo (s : State) : State := sgxRun sgxFuel s

/-- The dip enters a motion stage and the SGX runs it (R29, R31, R34). -/
def enterMotion (p : Phase) (s : State) : State := sgxGo (handStage p s)

/-- A segment ends by its own end condition and the SGX moves on from the cursor (R54). -/
def endSegment (s : State) : State := sgxGo (dropSegment s)

/-- The arrival test of the running leg at a hook-height update (R58, R60, R78). -/
def sgxHookUpdate (s : State) : State :=
  match s.sgx.current with
  | some (.move _ target _) => if s.inBand target then endSegment s else s
  | some (.shake frozen lower upper speed count leg) =>
    if s.inBand lower ∧ s.inBand upper then endSegment s
    else
      match leg with
      | .first =>
        if s.inBand lower then
          startLeg (.shake frozen lower upper speed count .up) (s.onSgx fun x => { x with repeats := count })
        else s
      | .up => if s.inBand upper then startLeg (.shake frozen lower upper speed count .down) s else s
      | .down =>
        if s.inBand lower then
          if s.sgx.repeats ≤ 1 then endSegment s
          else startLeg (.shake frozen lower upper speed count .up)
            (s.onSgx fun x => { x with repeats := x.repeats - 1 })
        else s
  | _ => s

/-! ### Delivery of a weight (R27, R32, R97) -/

/-- The dry weight is kept with its flags, S and F are computed, and the dip enters CLAIM, where the ZCU is asked for the
footprint (R27, R28, R163). -/
def deliverDry (mass : Nat) (unsettled overrange : Bool) (s : State) : State :=
  let steel := steelMass mass ((s.job.map (·.tare)).getD 0)
  let t := s.onDip fun d =>
    { d with
      dry := some mass
      steel := some steel
      flags := { d.flags with dryUnsettled := unsettled, overrange := d.flags.overrange || overrange } }
  testClaim (setStage .claim (formFull steel t))

/-- The exit weight is kept with its flags; the dip enters DRAIN, or WEIGH_DRAINED with the abort-pending flag set
(R32). -/
def deliverExit (mass : Nat) (unsettled overrange : Bool) (s : State) : State :=
  let t := s.onDip fun d =>
    { d with
      exitWeight := some mass
      flags := { d.flags with exitUnsettled := unsettled, overrange := d.flags.overrange || overrange } }
  if (t.dcc.active.map (·.abortPending)).getD false then enterWeighDrained t else enterMotion .drain t

/-- The drained weight is kept with its flags and the dip enters DEPART (R32). -/
def deliverDrained (mass : Nat) (unsettled overrange : Bool) (s : State) : State :=
  enterMotion .depart (s.onDip fun d =>
    { d with
      drained := some mass
      flags := { d.flags with drainedUnsettled := unsettled, overrange := d.flags.overrange || overrange } })

/-- A weigh operation ends settled or by timeout: the record becomes absent and the result is handed to the DCC (R97). -/
def deliverWeight (mass : Nat) (unsettled overrange : Bool) (s : State) : State :=
  let t := dropWeigh s
  match t.dcc.stage with
  | .weighDry => deliverDry mass unsettled overrange t
  | .weighExit => deliverExit mass unsettled overrange t
  | .weighDrained => deliverDrained mass unsettled overrange t
  | _ => t

/-- The weight of a list of samples and its OVERRANGE flag, delivered (R94 to R97). -/
def deliverSamples (samples : List Sample) (unsettled : Bool) (s : State) : State :=
  deliverWeight (averageWeight (Config.emptyMean s.freeCount) samples) unsettled (samples.any (·.overrange)) s.nextFree

/-! ### Faults (R43, R44, R64) -/

/-- The dip enters FAULT with a code (R43, R64, R98). -/
def enterFault (code : FaultCode) (s : State) : State :=
  let stage := s.dcc.stage
  let t := (s.onDcc fun d => { d with faultCode := code, secondFaults := 0 }).onDip fun d =>
    { d with faultStage := some stage, flags := { d.flags with faulted := true } }
  raiseEvent .fault (setStage .fault (dropWeigh (markersLow (dropSegment (endHold t)))))

/-- A further occurrence of a fault cause in FAULT (R44). -/
def secondFault (s : State) : State :=
  s.onDcc fun d => { d with secondFaults := saturate 255 (d.secondFaults + 1) }

/-- A fault cause detected by the HIF: it enters FAULT from WEIGH_DRY through DEPART, counts in FAULT, and does nothing in
IDLE (R43, R44, R75, R83). -/
def faultCause (code : FaultCode) (s : State) : State :=
  if s.dcc.stage.faults then enterFault code s
  else if s.dcc.stage = .fault then secondFault s
  else s

end Sys2Proof.Machine
end

