-- ==== Sys2Proof/Machine/TableOps.lean ====
section
/-! DEFINITION. What a change of the peer table, of LINE_LOST or of the restart does across the blocks: the conflict check and
the yield (R168, R169), the table change (R141), a peer's STATE and its going (R135 to R138), LINE_LOST (R128 to R130), the
outcome of an own attempt (R118, R124, R127), and the clear of RESTART (R131, R197). -/

namespace Sys2Proof.Machine

/-! ### Conflict and yield (R37, R168, R169, R180) -/

/-- The yield has come into effect: the gate closes, and in APPROACH with no segment running the conflict hold begins at
once (R37, R169; assumption log 23). -/
def beginYield (s : State) : State :=
  let t := closeGate (s.onZcu fun z => { z with yielding := true })
  if t.dcc.stage = .approach ∧ t.sgx.current.isNone then waitHold .conflict t else t

/-- The yield has ended: the gate opens, and in APPROACH a conflict hold in effect lifts and the SGX goes on (R37, R169;
assumption log 23). -/
def endYield (s : State) : State :=
  let t := openGate (s.onZcu fun z => { z with yielding := false })
  if t.dcc.stage = .approach ∧ t.dcc.hold.isSome ∧ t.sgx.current.isNone then sgxGo (endHold t) else t

/-- The conflict flag after a conflict check (R168). -/
def checkFlag (conflicting : List (StationIx × PeerEntry)) (s : State) : State :=
  if conflicting.isEmpty then s.onZcu fun z => { z with conflict := false }
  else if s.zcu.conflict then s
  else beginConflict s

/-- The conflict check (R168) and the yield that follows from it (R169). -/
def conflictCheck (s : State) : State :=
  let conflicting := s.conflicting
  let t := checkFlag conflicting s
  if s.yieldsTo conflicting then
    if s.zcu.yielding then t else beginYield t
  else if s.zcu.yielding ∧ s.dcc.stage.yields then endYield t
  else t

/-! ### Table changes (R141) -/

/-- What the ZCU does at a table change; `stored` names the entry where the change is a STATE stored in it (R164, R165, R167,
R168). -/
def zcuTableChange (stored : Option StationIx) (s : State) : State :=
  match s.zcu.claim with
  | .none => s
  | .waiting _ => testClaim s
  | .pending _ =>
    match stored with
    | some i => reviewPending i s
    | none => s
  | .held =>
    match stored with
    | some i => conflictCheck (reviewHeld i s)
    | none => conflictCheck s

/-- A table change, with the ADM's surface figures refreshed before the ZCU acts or after it (R56, R141, R181). The
reservation is tested or reviewed on what the ZCU left (R136, R176, R178; assumption log 23). -/
def tableChangeWith (admFirst : Bool) (stored : Option StationIx) (s : State) : State :=
  if admFirst then reviewResv (zcuTableChange stored (refreshSurface s))
  else reviewResv (refreshSurface (zcuTableChange stored s))

/-- A table change; which block acts first is a free value (assumption log 5). -/
def tableChange (stored : Option StationIx) (s : State) : State :=
  tableChangeWith (Config.blockOrder s.freeCount) stored s.nextFree

/-- The entry after a STATE is stored in it (R133, R135, R137). -/
def PeerEntry.store (zones : Nat) (now : Word) (a : Announced) (e : PeerEntry) : PeerEntry :=
  { presence := .present, heard := { a with mask := a.mask &&& zonesBelow zones }, time := now
    firstHeard := decide (e.presence = .absent) }

/-- A valid STATE of another station at the PTB, in the order of R136. -/
def storeState (i : StationIx) (a : Announced) (s : State) : State :=
  let e := s.peers.get i
  let first := decide (e.presence = .absent)
  let t := s.setPeer i (e.store s.settings.zoneCount s.sck a)
  let u := tableChange (some i) (invPeerState first a e.heard t)
  if first then raiseEvent .peerNew u else u

/-- An entry becomes ABSENT by LEAVE or FORGET_PEER, and the change is reported (R138, R142). -/
def dropPeer (i : StationIx) (s : State) : State := tableChange none (s.setPeer i PeerEntry.empty)

/-- A valid LEAVE of another station at the PTB (R138). -/
def storeLeave (i : StationIx) (s : State) : State :=
  if (s.peers.get i).presence = .absent then s else dropPeer i s

/-- An entry becomes STALE, with PEER_STALE, and the change is reported (R139). -/
def agePeer (i : StationIx) (s : State) : State :=
  tableChange none (raiseEvent .peerStale (s.setPeer i { s.peers.get i with presence := .stale }))

/-! ### LINE_LOST (R128 to R130) -/

/-- LINE_LOST is set from clear (R128, R130). -/
def beginLineLost (cause : LineLostCause) (s : State) : State :=
  let t := raiseState (raiseEvent .lineLost (s.onKli fun k => { k with lineLost := cause }))
  (admLineLost (zcuLineChanged t)).onFlags fun f => { f with lineLostSeen := true }

/-- An occurrence of a cause of LINE_LOST (R128). While it is set, FAILURES and UNSENT change nothing, and DUPLICATE replaces
the cause and raises the event again (assumption log 15). -/
def lineLostOccurs (cause : LineLostCause) (s : State) : State :=
  if s.lineLost then
    if cause = .duplicate then raiseEvent .lineLost (s.onKli fun k => { k with lineLost := .duplicate }) else s
  else beginLineLost cause s

/-- A successful own STATE clears LINE_LOST of cause FAILURES or UNSENT (R129). -/
def lineBack (s : State) : State :=
  if s.kli.lineLost = .failures ∨ s.kli.lineLost = .unsent then
    admLineBack (zcuLineChanged (raiseState (raiseEvent .lineBack (s.onKli fun k => { k with lineLost := .none }))))
  else s

/-! ### The clear of RESTART (R131, R145, R197) -/

/-- The KLI at the clear of RESTART (R131). -/
def Kli.restart (now : Word) (k : Kli) : Kli :=
  { k with
    stateRequest := some now
    lateRaise := if k.sendingState then some now else none
    leaveRequest := false
    attempt := k.attempt.map fun a => { a with reported := false }
    heartbeat := none
    lineLost := .none }

/-- The table with every entry but the self entry ABSENT (R145). The self entry keeps its time, that of the last own STATE
success; R134 read by itself would put the count of the mode change there (DESIGN CHOICE, assumption log 30). -/
def clearPeers (own : StationIx) (peers : Vector PeerEntry 16) : Vector PeerEntry 16 :=
  Vector.ofFn fun i => if i = own then peers.get i else PeerEntry.empty

/-- The clear of RESTART, in one step (R197). -/
def restartClear (s : State) : State :=
  let t := (s.onKli (·.restart s.sck)).onDcc fun d => { d with queue := [] }
  let u := tableChange none { markersLow t with peers := clearPeers s.own s.peers }
  u.onCpt fun c =>
    { c with
      mode := .listen
      listenTimer := some listenPeriod
      restartPending := false
      restartTimer := none
      events := 0 }

/-! ### Own attempts (R118, R121, R124, R127) -/

/-- The contents of a STATE notice begun now (R121). -/
def State.announce (s : State) : Announced :=
  { stage := s.dcc.stage.code
    claim := s.zcu.claim.status
    mask := if s.zcu.claim.status = .none then 0 else s.zcu.mask &&& zonesBelow s.settings.zoneCount
    resv := s.adm.resv.status
    reserved := if s.adm.resv.status = .none then 0 else s.adm.full
    actual := s.adm.actual
    epoch := s.inv.epoch
    origin := s.inv.origin
    inventory := s.inv.mass
    drawn := s.inv.drawn
    added := s.inv.added
    removed := s.inv.removed
    lineLost := s.lineLost
    fault := decide (s.dcc.stage = .fault)
    hold := s.dcc.hold.isSome }

/-- The self entry as it reads (R134). -/
def State.selfEntry (s : State) : PeerEntry :=
  { presence := (s.peers.get s.own).presence, heard := s.announce, time := (s.peers.get s.own).time
    firstHeard := false }

/-- An own attempt has failed: the count rises, and at 16 LINE_LOST is set with cause FAILURES where it is clear (R118,
R128). -/
def attemptFailed (s : State) : State :=
  let t := s.onKli fun k => { k with failures := saturate 255 (k.failures + 1) }
  if failureLimit ≤ t.kli.failures ∧ !t.lineLost then lineLostOccurs .failures t else t

/-- The attempt in progress is over without success: both requests and the raise time stay as they are (R124). -/
def dropAttempt (s : State) : State := s.onKli fun k => { k with attempt := none, lateRaise := none }

/-- An own LEAVE has gone out (R124, R131). -/
def leaveSent (reported : Bool) (s : State) : State :=
  let t := dropAttempt (s.onKli fun k => { k with failures := 0 })
  if reported then
    let u := t.onKli fun k => { k with leaveRequest := false }
    if u.cpt.restartPending then restartClear u else u
  else t

/-- An own STATE has gone out: the count, the request with a late raise kept, the heartbeat, the self entry's time; then the
report to the ZCU and the ADM, then the end of LINE_LOST (R118, R124, R125, R127, R129, R134; assumption log 14). -/
def stateSent (contents : Announced) (reported : Bool) (s : State) : State :=
  let t := s.onKli fun k =>
    { k with
      failures := 0, attempt := none, stateRequest := k.lateRaise, lateRaise := none, heartbeat := some 0 }
  let u := t.setPeer t.own { t.peers.get t.own with time := t.sck }
  lineBack (if reported then admCompletion contents (zcuCompletion contents u) else u)

/-- An own attempt has succeeded (R118). -/
def attemptSucceeded (a : Attempt) (s : State) : State :=
  match a.sending with
  | .leave => leaveSent a.reported s
  | .state contents => stateSent contents a.reported s

/-! ### Receiving (R122, R123) -/

/-- What is done with a notice that the own transmitter did not send whole (R116, R122, R123). -/
def receiveNotice (bytes : List Byte) (spoiled : Bool) (s : State) : State :=
  if s.online then
    match checkNotice bytes spoiled with
    | none => s.onKli fun k => { k with discards := saturate 65535 (k.discards + 1) }
    | some n =>
      if n.station = s.own then lineLostOccurs .duplicate s
      else
        match n.content with
        | .leave => storeLeave n.station s
        | .state a => storeState n.station a s
  else s

/-- The end of a notice (R115, R118, R122, R123). While the receiver hunts, it is only the end it waited for. -/
def endNotice (bytes : List Byte) (spoiled : Bool) (s : State) : State :=
  if s.kli.hunting then s.onKli fun k => { k with hunting := false }
  else
    match s.kli.attempt with
    | none => receiveNotice bytes spoiled s
    | some a =>
      match a.status with
      | .driving =>
        match judgeAtEnd (noticeBytes s.own a.sending) bytes spoiled with
        | .driving => attemptSucceeded a s
        | .lost => receiveNotice bytes spoiled (dropAttempt s)
        | .failed => receiveNotice bytes spoiled (attemptFailed (dropAttempt s))
      | _ => receiveNotice bytes spoiled (dropAttempt s)

end Sys2Proof.Machine
end

