-- ==== Sys2Proof/Machine/Load.lean ====
section
/-! DEFINITION. The configuration image: its layout (12, Image header layout; 03, Segment record layout), the checks of a
validation in their order (R191, R192), recipe validation (R65 to R70), and what a validation's end does (R193). -/

namespace Sys2Proof.Machine

/-! ### Raw segments -/

/-- A segment record with its codes as numbers, before validation (03, Segment record layout). -/
structure RawSegment where
  kind       : Nat
  phase      : Nat
  next       : Nat
  reference  : Nat
  target     : Int
  speed      : Nat
  time       : Nat
  amplitude  : Nat
  count      : Nat
  m1         : Nat
  m0         : Nat
  input      : Nat
  edge       : Nat
  callTarget : Nat
deriving DecidableEq, Repr

/-- A segment record from its 16 bytes (03, Segment record layout). -/
def rawSegment (b : List Byte) : RawSegment :=
  let flags := beField b 14 1
  { kind := beField b 0 1, phase := beField b 1 1, next := beField b 2 1, reference := beField b 3 1
    target := signed16 (beField b 4 2), speed := beField b 6 2, time := beField b 8 3, amplitude := beField b 11 2
    count := beField b 13 1, m1 := flags / 64, m0 := flags / 16 % 4, input := flags / 8 % 2, edge := flags % 8
    callTarget := beField b 15 1 }

/-- The recipe part of an image: the recipe heads and the segment records, as numbers (FFh = 255 is none). -/
structure RawRecipes where
  heads    : List Nat
  segments : List RawSegment
deriving DecidableEq, Repr

/-- The recipe heads (image field 23) and the supplied segments of an image. -/
def rawRecipes (image : List Byte) : RawRecipes :=
  { heads := (List.range 16).map fun r => beField image (43 + r) 1
    segments := (List.range (beField image 59 1)).map fun i => rawSegment ((image.drop (60 + 16 * i)).take 16) }

/-- A CALL, by its kind code; a code above 04h counts as no CALL (R65). -/
def RawSegment.isCall (g : RawSegment) : Bool := g.kind == 4

/-! ### Recipe validation (R65 to R70) -/

/-- A recipe failure: step code, segment index and recipe number (R65, R191). -/
def recipeFailure (code segment recipe : Nat) : LoadResult :=
  { code := BitVec.ofNat 8 code, field := 0xFF, segment := BitVec.ofNat 8 segment, recipe := BitVec.ofNat 8 recipe }

/-- The heads that name a segment, with their recipe numbers, in order from 0 to 15 (R65). -/
def RawRecipes.recipes (w : RawRecipes) : List (Nat × Nat) :=
  (w.heads.zipIdx.map fun p => (p.2, p.1)).filter fun p => p.2 != 255

/-- Every supplied segment with its index, in index order (R65). -/
def RawRecipes.indexed (w : RawRecipes) : List (Nat × RawSegment) := w.segments.zipIdx.map fun p => (p.2, p.1)

/-- An index fails step 1 where it is not FFh and not below the segment count (R66). -/
def outOfPool (count index : Nat) : Bool := index != 255 && decide (count ≤ index)

/-- Step 1, BOUND (R66). -/
def stepBound (w : RawRecipes) : Option LoadResult :=
  let count := w.segments.length
  match w.recipes.find? fun p => outOfPool count p.2 with
  | some p => some (recipeFailure 0x06 255 p.1)
  | none =>
    match w.indexed.find? fun p =>
      outOfPool count p.2.next
        || (p.2.isCall && (outOfPool count p.2.callTarget || p.2.callTarget == 255)) with
    | some p => some (recipeFailure 0x06 p.1 255)
    | none => none

/-- The 97th segment visited by a walk along next indexes, if it is reached (R67). -/
def chainOverrun (segments : List RawSegment) : Nat → Nat → Option Nat
  | 0, i => if i = 255 then none else some i
  | n + 1, i =>
    if i = 255 then none
    else match segments[i]? with
      | none => none
      | some g => chainOverrun segments n g.next

/-- The walk of a main chain with the called chain of each CALL walked where it is met (R67). -/
def recipeOverrun (segments : List RawSegment) : Nat → Nat → Option Nat
  | 0, i => if i = 255 then none else some i
  | n + 1, i =>
    if i = 255 then none
    else match segments[i]? with
      | none => none
      | some g =>
        match (if g.isCall then chainOverrun segments 96 g.callTarget else none) with
        | some j => some j
        | none => recipeOverrun segments n g.next

/-- The first failure of a test on recipes, in the order of the recipe numbers (R65). -/
def firstRecipe (w : RawRecipes) (code : Nat) (test : Nat → Option Nat) : Option LoadResult :=
  w.recipes.findSome? fun p => (test p.2).map fun i => recipeFailure code i p.1

/-- Step 2, LOOP (R67). -/
def stepLoop (w : RawRecipes) : Option LoadResult := firstRecipe w 0x07 (recipeOverrun w.segments 96)

/-- The segments of a chain, at most 96, with their indices. -/
def chainFrom (segments : List RawSegment) : Nat → Nat → List (Nat × RawSegment)
  | 0, _ => []
  | n + 1, i =>
    if i = 255 then []
    else match segments[i]? with
      | none => []
      | some g => (i, g) :: chainFrom segments n g.next

/-- The chain that starts at an index (R49); after step 2 it is whole. -/
def RawRecipes.chain (w : RawRecipes) (start : Nat) : List (Nat × RawSegment) := chainFrom w.segments 96 start

/-- The CALLs of a main chain, in order. -/
def RawRecipes.calls (w : RawRecipes) (head : Nat) : List (Nat × RawSegment) := (w.chain head).filter fun p => p.2.isCall

/-- Step 3, NEST: the first CALL within a called chain (R68). -/
def stepNest (w : RawRecipes) : Option LoadResult :=
  firstRecipe w 0x08 fun head =>
    (w.calls head).findSome? fun c => ((w.chain c.2.callTarget).find? fun p => p.2.isCall).map fun p => p.1

/-- Step 4, CALL_PHASE: the first segment of a called chain whose phase is not its CALL's (R68). -/
def stepCallPhase (w : RawRecipes) : Option LoadResult :=
  firstRecipe w 0x09 fun head =>
    (w.calls head).findSome? fun c =>
      ((w.chain c.2.callTarget).find? fun p => p.2.phase != c.2.phase).map fun p => p.1

/-- The first segment of a chain whose phase is earlier than that of the one before it (R69). -/
def firstEarlier : List (Nat × RawSegment) → Option Nat
  | [] => none
  | [_] => none
  | a :: b :: rest => if b.2.phase < a.2.phase then some b.1 else firstEarlier (b :: rest)

/-- Step 5, ORDER (R69). -/
def stepOrder (w : RawRecipes) : Option LoadResult := firstRecipe w 0x0A fun head => firstEarlier (w.chain head)

/-- Step 6, MISSING: no segment of phase IMMERSE, WITHDRAW or DEPART in the main chain (R69). -/
def stepMissing (w : RawRecipes) : Option LoadResult :=
  firstRecipe w 0x0B fun head =>
    let phases := (w.chain head).map fun p => p.2.phase
    if phases.contains 1 && phases.contains 3 && phases.contains 5 then none else some head

/-- A MOVE or a SHAKE, by its kind code. -/
def RawSegment.isMotion (g : RawSegment) : Bool := g.kind == 0 || g.kind == 2

/-- Step 7, RANGE: an ABS target outside 0–20,000 mm (R70). -/
def RawSegment.rangeFails (g : RawSegment) : Bool :=
  g.isMotion && g.reference == 0
    && (decide (g.target < 0 ∨ g.target > 20000) || (g.kind == 2 && decide (g.target + g.amplitude > 20000)))

/-- Step 8, FIELD: a field that the segment's kind uses lies outside its range (R70). -/
def RawSegment.fieldFails (g : RawSegment) : Bool :=
  decide (g.kind > 4) || decide (g.phase > 5)
    || (g.isMotion && (decide (g.reference > 1) || !decide (1 ≤ g.speed ∧ g.speed ≤ 2000)))
    || (g.kind == 2 && (!decide (1 ≤ g.amplitude ∧ g.amplitude ≤ 5000) || !decide (1 ≤ g.count ∧ g.count ≤ 255)))
    || (g.kind == 1 && decide (g.time > 3600000))
    || (g.kind == 3 && (!decide (1 ≤ g.time ∧ g.time ≤ 3600000) || decide (g.edge > 2)))

/-- The first supplied segment that fails a test (R65). -/
def firstSegment (w : RawRecipes) (code : Nat) (fails : RawSegment → Bool) : Option LoadResult :=
  (w.indexed.find? fun p => fails p.2).map fun p => recipeFailure code p.1 255

/-- The eight steps of recipe validation, in order; the first failure found ends it (R65). -/
def recipeSteps : List (RawRecipes → Option LoadResult) :=
  [stepBound, stepLoop, stepNest, stepCallPhase, stepOrder, stepMissing,
   fun w => firstSegment w 0x0C RawSegment.rangeFails, fun w => firstSegment w 0x0D RawSegment.fieldFails]

/-- Recipe validation: the first failure, or `none` where all eight steps pass (R65). -/
def recipeCheck (w : RawRecipes) : Option LoadResult := recipeSteps.findSome? fun step => step w

/-! ### The header (R192) -/

/-- The header fields with a stated range, by their numbers, and whether each lies within it (R192). -/
def headerFields (b : List Byte) (declared : Nat) : List (Nat × Bool) :=
  let f := beField b
  [ (2, decide (1 ≤ f 2 1 ∧ f 2 1 ≤ 16)), (3, decide (1 ≤ f 3 1 ∧ f 3 1 ≤ 16)),
    (4, decide (100 ≤ f 4 2 ∧ f 4 2 ≤ 10000)), (7, decide (f 10 4 ≤ 8000000)), (8, decide (f 14 2 ≤ 20000)),
    (9, decide (f 14 2 < f 16 2 ∧ f 16 2 ≤ 20000)), (10, decide (1 ≤ f 18 2 ∧ f 18 2 ≤ 2000)),
    (11, decide (1 ≤ f 20 2 ∧ f 20 2 ≤ f 18 2)), (12, decide (f 22 2 ≤ 20000)), (13, decide (f 24 2 ≤ 1000)),
    (14, decide (f 26 2 ≤ 5000)), (15, decide (f 28 2 ≤ 20000)), (16, decide (10 ≤ f 30 2 ∧ f 30 2 ≤ 600)),
    (17, decide (1 ≤ f 32 1 ∧ f 32 1 ≤ 100)), (18, decide (f 33 2 ≤ 20000)),
    (19, decide (1000 ≤ f 35 2 ∧ f 35 2 ≤ 20000)), (21, decide (1 ≤ f 40 2)), (22, decide (f 42 1 < 16)),
    (24, decide (f 59 1 ≤ 96 ∧ 64 + 16 * f 59 1 = declared)) ]

/-- The first header field that fails its range (R192). -/
def headerCheck (b : List Byte) (declared : Nat) : Option LoadResult :=
  ((headerFields b declared).find? fun p => !p.2).map fun p => LoadResult.header p.1

/-! ### The settings of a valid image -/

/-- The phase of a code (03, Segment record layout). -/
def phaseOf (n : Nat) : Option Phase :=
  match n with
  | 0 => some .approach | 1 => some .immerse | 2 => some .soak | 3 => some .withdraw | 4 => some .drain
  | 5 => some .depart | _ => none

/-- The marker action of a code (03, Segment record layout). -/
def markerActionOf (n : Nat) : MarkerAction :=
  match n with
  | 0 => .keep | 1 => .set | 2 => .clear | _ => .pulse

/-- The reference of a code that passed step 8. -/
def referenceOf (n : Nat) : Reference := if n = 0 then .abs else .surf

/-- The edge of a code that passed step 8. -/
def edgeOf (n : Nat) : EdgeChoice :=
  match n with
  | 0 => .rising | 1 => .falling | _ => .either

/-- The event edge of two bits (image field 22). -/
def eventEdgeOf (n : Nat) : EventEdge :=
  match n with
  | 0 => .none | 1 => .rising | 2 => .falling | _ => .either

/-- An index with FFh as none. -/
def indexOf (n : Nat) : Option Nat := if n = 255 then none else some n

/-- What a segment does, with the fields its kind uses (R49); `none` for a kind code above 04h. -/
def workOf (g : RawSegment) : Option Work :=
  match g.kind with
  | 0 => some (.move (referenceOf g.reference) g.target g.speed)
  | 1 => some (.dwell g.time)
  | 2 => some (.shake (referenceOf g.reference) g.target g.speed g.amplitude g.count)
  | 3 => some (.waitInput (if g.input = 0 then .t0 else .t1) (edgeOf g.edge) g.time)
  | 4 => some (.call g.callTarget)
  | _ => none

/-- A segment of the pool from a record that passed step 8. -/
def segmentOf (g : RawSegment) : Option Segment :=
  match phaseOf g.phase, workOf g with
  | some phase, some work => some
      { phase := phase, next := indexOf g.next, m0 := markerActionOf g.m0, m1 := markerActionOf g.m1, work := work }
  | _, _ => none

/-- The index of a station number 1–16. -/
def stationIxOf (n : Nat) : StationIx := Fin.ofNat 16 (n - 1)

/-- The settings that a valid image holds (12, Image header layout). -/
def settingsOf (b : List Byte) : Settings :=
  let f := beField b
  { station := stationIxOf (f 2 1), zoneCount := f 3 1, area := f 4 2, overflowLimit := f 6 2, minLevel := f 8 2
    initialInventory := f 10 4, travelLow := f 14 2, travelHigh := f 16 2, maxSpeed := f 18 2, creepSpeed := f 20 2
    slowBand := f 22 2, arrivalBand := f 24 2, exitClearance := f 26 2, safeHeight := f 28 2, holdLimit := f 30 2
    divider := f 32 1, stillBand := f 33 2, settleTime := f 35 2, weighZero := signed24 (f 37 3)
    weighGain := f 40 2, event0 := eventEdgeOf (f 42 1 % 4), event1 := eventEdgeOf (f 42 1 / 4 % 4)
    heads := (rawRecipes b).heads.map indexOf, segments := (rawRecipes b).segments.filterMap segmentOf }

/-! ### Validation (R191, R193) -/

/-- The checks of a validation in their order: the load result of the first that fails, or `none` (R191). -/
def validateLoad (l : Load) : Option LoadResult :=
  if l.overflow ∨ l.received ≠ l.declared then some LoadResult.length
  else if (crc32 (l.buffer.take (l.declared - 4))).toNat ≠ beField l.buffer (l.declared - 4) 4 then some LoadResult.crc
  else if beField l.buffer 0 2 ≠ 1 then some LoadResult.version
  else
    match headerCheck l.buffer l.declared with
    | some r => some r
    | none => recipeCheck (rawRecipes l.buffer)

/-- The load buffer as it is while no load is in progress (R189, R198; assumption log 17). -/
def Load.discarded : Load := { buffer := [], declared := 0, received := 0, overflow := false }

/-- A validation that fails: the buffer is discarded, the mode becomes BOOT, the load result is kept (R193). -/
def loadFails (r : LoadResult) (s : State) : State :=
  respond .loadFailed r.bytes (s.onCpt fun t =>
    { t with mode := .boot, validating := false, load := Load.discarded, loadResult := r })

/-- The CPT at a validation that passes (R193 steps 2 and 3). -/
def Cpt.listenFromLoad (t : Cpt) : Cpt :=
  { t with
    mode := .listen, validating := false, load := Load.discarded, loadResult := LoadResult.ok
    listenTimer := some listenPeriod }

/-- The INV's start values for LISTEN; the counters are unchanged (R147). -/
def Inv.load (c : Settings) (v : Inv) : Inv :=
  { v with
    mass := c.initialInventory, level := levelOf c.area c.initialInventory, epoch := 0
    origin := c.station.val + 1 }

/-- A validation that passes, in one step (R193). -/
def loadPasses (c : Settings) (s : State) : State :=
  let t := { s with cfs := some c }.onCpt Cpt.listenFromLoad
  let u := (t.onInv (Inv.load c)).setPeer c.station
    { presence := .present, heard := Announced.zero, time := s.sck, firstHeard := false }
  let w := raiseState (refreshSurface (lowTest u))
  respond .ok LoadResult.ok.bytes (raiseEvent .loadDone (w.onWgu fun g => { g with divider := 0 }))

end Sys2Proof.Machine
end

