-- ==== Sys2Proof/Machine/PortCommands.lean ====
section
/-! DEFINITION. The meanings of the cell-port frames that concern the port, the load, the status, the log, the peers, the
inventory, the events and RESTART (R110, R111, R142, R143, R150, R156, R185 to R196), and of the arrivals that end a load or a
restart. -/

namespace Sys2Proof.Machine

/-- The argument length is checked before every other check of a command's rule (R187). -/
def withArgs (n : Nat) (args : List Byte) (s : State) (k : Host.Outcome State Fault Refusal) :
    Host.Outcome State Fault Refusal :=
  if args.length = n then k else refuse .badArg s

/-! ### Frames without an effect, and the capture of the response (R185, R186) -/

/-- CSN_FALLING_EDGE: the response buffer is captured for the transaction (R185). -/
def execCsnFallingEdge (s : State) : Host.Outcome State Fault Refusal :=
  .next (s.onCpt fun c => { c with captured := c.response })

/-- IDLE_FRAME: it is not taken, and the response buffer keeps its contents (R185). -/
def execIdleFrame (s : State) : Host.Outcome State Fault Refusal := unchanged s

/-- UNKNOWN_COMMAND: BUSY, BAD_FRAME or BAD_CMD (R186). A code that is in Table 12.1, or is the idle code, makes the term
ill formed. -/
def execUnknownCommand (code : Byte) (tail : List Byte) (s : State) : Host.Outcome State Fault Refusal :=
  if unlistedCode code then
    if s.cpt.validating then refuse .busy s
    else
      match frameArgs tail with
      | none => refuse .badFrame s
      | some _ => refuse .badCmd s
  else .refused (.illFormed "UNKNOWN_COMMAND")

/-! ### Load (R189 to R193) -/

/-- LOAD_BEGIN with its declared length and its timeout in seconds (R189). -/
def beginLoad (declared timeout : Nat) (s : State) : State :=
  s.onCpt fun c =>
    { c with
      load := { buffer := [], declared := declared, received := 0, overflow := false }
      loadResult := LoadResult.none
      loadTimer := some (1000 * timeout)
      mode := .loading }

/-- LOAD_BEGIN (R189). -/
def execLoadBegin (tail : List Byte) (s : State) : Host.Outcome State Fault Refusal :=
  takeFrame .bootLoading tail s fun args =>
    withArgs 3 args s
      (let declared := beField args 0 2
       let timeout := beField args 2 1
       if 64 ≤ declared ∧ declared ≤ 1600 ∧ 1 ≤ timeout ∧ timeout ≤ 60 then accept [] (beginLoad declared timeout s)
       else refuse .badArg s)

/-- Bytes appended to the load buffer; bytes beyond the declared length are dropped and marked (R190). -/
def Load.append (bytes : List Byte) (l : Load) : Load :=
  { l with
    buffer := (l.buffer ++ bytes).take l.declared
    received := l.received + bytes.length
    overflow := l.overflow || decide (l.declared < l.buffer.length + bytes.length) }

/-- LOAD_DATA (R190). -/
def execLoadData (tail : List Byte) (s : State) : Host.Outcome State Fault Refusal :=
  takeFrame .loading tail s fun args =>
    if 1 ≤ args.length ∧ args.length ≤ 60 then accept [] (s.onCpt fun c => { c with load := c.load.append args })
    else refuse .badArg s

/-- LOAD_END stops the load timer and starts the validation; the response buffer holds BUSY while it runs (R191). -/
def execLoadEnd (tail : List Byte) (s : State) : Host.Outcome State Fault Refusal :=
  takeFrame .loading tail s fun args =>
    withArgs 0 args s
      (settle (respond .busy [] (s.onCpt fun c => { c with loadTimer := none, validating := true })))

/-- VALIDATION_END: the checks of R191 are complete (R193). -/
def execValidationEnd (s : State) : Host.Outcome State Fault Refusal :=
  if s.cpt.validating then
    match validateLoad s.cpt.load with
    | some r => settle (loadFails r s)
    | none => settle (loadPasses (settingsOf s.cpt.load.buffer) s)
  else unchanged s

/-- LOAD_TIMER_EXPIRY: in LOADING the load buffer is discarded and the mode becomes BOOT (R189). -/
def execLoadTimerExpiry (s : State) : Host.Outcome State Fault Refusal :=
  if s.cpt.mode = .loading ∧ s.cpt.loadTimer = some 0 then
    settle (s.onCpt fun c =>
      { c with mode := .boot, loadTimer := none, load := Load.discarded, loadResult := LoadResult.timeout })
  else unchanged s

/-- LISTEN_TIMER_EXPIRY: the mode becomes READY (R188). -/
def execListenTimerExpiry (s : State) : Host.Outcome State Fault Refusal :=
  if s.cpt.mode = .listen ∧ s.cpt.listenTimer = some 0 then
    settle (s.onCpt fun c => { c with mode := .ready, listenTimer := none })
  else unchanged s

/-! ### Status (R194) -/

/-- The 42 bytes of the status (12, Status layout). -/
def statusBytes (s : State) : List Byte :=
  beBytes 1 s.cpt.mode.code ++ beBytes 1 (flagBit 0 s.cpt.validating + flagBit 1 s.cpt.restartPending)
    ++ beBytes 1 s.dcc.stage.code ++ beBytes 1 ((s.dcc.hold.map fun h => h.reason.code).getD 0)
    ++ beBytes 1 (flagBit 0 s.logWait + flagBit 1 s.driveWait) ++ beBytes 1 s.dcc.queue.length
    ++ beBytes 1 s.acu.log.length ++ beBytes 2 s.inv.level ++ beBytes 4 s.inv.mass ++ beBytes 2 s.inv.epoch
    ++ beBytes 1 s.inv.origin ++ beBytes 2 s.adm.surface ++ beBytes 1 s.zcu.claim.code
    ++ beBytes 2 s.zcu.mask.toNat ++ beBytes 1 s.adm.resv.code ++ beBytes 1 s.dcc.faultCode.code
    ++ beBytes 1 s.dcc.secondFaults ++ beBytes 1 s.kli.lineLost.code ++ beBytes 2 s.kli.discards
    ++ s.cpt.loadResult.bytes ++ beBytes 2 s.cpt.events.toNat ++ beBytes 4 s.sck.toNat ++ beBytes 2 s.hif.hook
    ++ beBytes 1 (flagBit 0 s.hif.hookValid + flagBit 1 s.haltAsserted + flagBit 2 s.driveReady
        + flagBit 3 s.driveFault)
    ++ beBytes 2 s.cpt.enables.toNat

/-- GET_STATUS: taken in every mode and during a validation; it changes nothing but the response buffer (R186, R194). -/
def execGetStatus (tail : List Byte) (s : State) : Host.Outcome State Fault Refusal :=
  answerFrame .always tail s fun args => withArgs 0 args s (.next (respond .ok (statusBytes s) s))

/-! ### Inventory (R150, R156) -/

/-- SET_LEVEL: a sounding (R156). -/
def execSetLevel (tail : List Byte) (s : State) : Host.Outcome State Fault Refusal :=
  takeFrame .listenReady tail s fun args =>
    withArgs 2 args s
      (if s.inv.epoch = 65535 then refuse .epochLimit s
       else accept [] (invArrive (·.sound s.settings.area s.ownNumber (beField args 0 2)) s))

/-- ADD_ZINC (R150). -/
def execAddZinc (tail : List Byte) (s : State) : Host.Outcome State Fault Refusal :=
  takeFrame .listenReady tail s fun args =>
    withArgs 4 args s
      (if 1 ≤ beField args 0 4 ∧ beField args 0 4 ≤ 50000 then accept [] (invArrive (·.add (beField args 0 4)) s)
       else refuse .badArg s)

/-- REMOVE_DROSS (R150). -/
def execRemoveDross (tail : List Byte) (s : State) : Host.Outcome State Fault Refusal :=
  takeFrame .listenReady tail s fun args =>
    withArgs 4 args s
      (if 1 ≤ beField args 0 4 ∧ beField args 0 4 ≤ 20000 then accept [] (invArrive (·.remove (beField args 0 4)) s)
       else refuse .badArg s)

/-! ### Dip log (R110, R111) -/

/-- READ_RECORD: the oldest record leaves the log and is returned (R110). -/
def execReadRecord (tail : List Byte) (s : State) : Host.Outcome State Fault Refusal :=
  takeFrame .listenReady tail s fun args =>
    withArgs 0 args s
      (match s.acu.log with
       | [] => refuse .empty s
       | r :: rest => accept (recordBytes r) (s.onAcu fun a => { a with log := rest }))

/-- PEEK_RECORD: the oldest record is returned and the log is not changed (R111). -/
def execPeekRecord (tail : List Byte) (s : State) : Host.Outcome State Fault Refusal :=
  takeFrame .listenReady tail s fun args =>
    withArgs 0 args s
      (match s.acu.log with
       | [] => refuse .empty s
       | r :: _ => accept (recordBytes r) s)

/-! ### Peer table (R142, R143) -/

/-- An entry as it is read: the self entry from the owning blocks (R134). -/
def State.readEntry (s : State) (i : StationIx) : PeerEntry := if i = s.own then s.selfEntry else s.peers.get i

/-- The 35 bytes of an entry as READ_PEER returns them; an ABSENT entry reads 0 after its station number (R143). -/
def entryBytes (s : State) (i : StationIx) : List Byte :=
  if (s.readEntry i).presence = .absent then beBytes 1 (i.val + 1) ++ List.replicate 34 0
  else peerBytes i (s.readEntry i) (decide (i = s.own))

/-- The index of a station number of an argument byte; `none` outside 1–16. -/
def stationArg (args : List Byte) : Option StationIx :=
  let n := beField args 0 1
  if 1 ≤ n ∧ n ≤ 16 then some (stationIxOf n) else none

/-- READ_PEER (R143). -/
def execReadPeer (tail : List Byte) (s : State) : Host.Outcome State Fault Refusal :=
  takeFrame .listenReady tail s fun args =>
    withArgs 1 args s
      (match stationArg args with
       | none => refuse .badArg s
       | some i => accept (entryBytes s i) s)

/-- FORGET_PEER (R142). -/
def execForgetPeer (tail : List Byte) (s : State) : Host.Outcome State Fault Refusal :=
  takeFrame .listenReady tail s fun args =>
    withArgs 1 args s
      (match stationArg args with
       | none => refuse .badArg s
       | some i =>
         match (s.peers.get i).presence with
         | .absent => refuse .badArg s
         | .present => refuse .notStale s
         | .stale => accept [] (dropPeer i s))

/-! ### Events (R195) -/

/-- SET_EVENT_ENABLE (R195). -/
def execSetEventEnable (tail : List Byte) (s : State) : Host.Outcome State Fault Refusal :=
  takeFrame .always tail s fun args =>
    withArgs 2 args s (accept [] (s.onCpt fun c => { c with enables := BitVec.ofNat 16 (beField args 0 2) }))

/-- CLEAR_EVENTS (R195). -/
def execClearEvents (tail : List Byte) (s : State) : Host.Outcome State Fault Refusal :=
  takeFrame .always tail s fun args =>
    withArgs 2 args s
      (accept [] (s.onCpt fun c => { c with events := c.events &&& ~~~ (BitVec.ofNat 16 (beField args 0 2)) }))

/-! ### RESTART (R196, R197) -/

/-- An accepted RESTART: pending, its timer started, and the LEAVE request raised (R196). -/
def beginRestart (s : State) : State :=
  (s.onCpt fun c => { c with restartPending := true, restartTimer := some restartPeriod }).onKli fun k =>
    { k with leaveRequest := true }

/-- The station is clear: IDLE, with neither a claim nor a reservation (R196 case 2). -/
def State.stationClear (s : State) : Bool :=
  decide (s.dcc.stage = .idle ∧ s.zcu.claim = .none ∧ s.adm.resv = .none)

/-- RESTART (R196). -/
def execRestart (tail : List Byte) (s : State) : Host.Outcome State Fault Refusal :=
  takeFrame .ready tail s fun args =>
    withArgs 0 args s
      (if s.cpt.restartPending then refuse .already s
       else if s.stationClear then accept [] (beginRestart s)
       else refuse .notClear s)

/-- RESTART_TIMER_EXPIRY: the clear of RESTART, where no LEAVE success came first (R196, R197). -/
def execRestartTimerExpiry (s : State) : Host.Outcome State Fault Refusal :=
  if s.cpt.restartPending ∧ s.cpt.restartTimer = some 0 then settle (restartClear s) else unchanged s

/-- HARDWARE_RESET: every block takes its value after hardware reset (R188). What waits in the queue is not the part's, and
the counter of the free values goes on. -/
def execHardwareReset (s : State) : Host.Outcome State Fault Refusal :=
  .next { State.reset with pending := s.pending, freeCount := s.freeCount }

end Sys2Proof.Machine
end

