-- ==== Sys2Proof/Machine/DipCommands.lean ====
section
/-! DEFINITION. The meanings of the commands and arrivals of the dip cycle: DIP, CANCEL_JOB, ABORT_DIP, RECOVER, JOB_START,
HOLD_LIMIT_EXPIRY (R21 to R46), and of the windows of claim and admission (R166, R179). -/

namespace Sys2Proof.Machine

/-! ### DIP (R21) -/

/-- The segments of a chain that starts at an index, at most 96 (R49, R67). -/
def poolChain (c : Settings) : Nat → Option Nat → List Segment
  | 0, _ => []
  | _ + 1, none => []
  | n + 1, some i =>
    match segmentAt c i with
    | none => []
    | some seg => seg :: poolChain c n seg.next

/-- The segments of a recipe in the order the SGX runs them, a CALL followed by its called chain (R21 check 6). -/
def recipeSegments (c : Settings) (head : Nat) : List Segment :=
  (poolChain c 96 (some head)).flatMap fun seg =>
    match seg.work with
    | .call target => seg :: poolChain c 96 (some target)
    | _ => [seg]

/-- A hook target lies outside the travel bounds (R21 check 6). -/
def hookOutside (c : Settings) (hang : Nat) (bottom : Int) : Bool :=
  decide (bottom + hang < c.travelLow ∨ (c.travelHigh : Int) < bottom + hang)

/-- A segment with an absolute target outside the travel bounds (R21 check 6). -/
def absoluteOutside (c : Settings) (hang : Nat) (seg : Segment) : Bool :=
  match seg.work with
  | .move .abs target _ => hookOutside c hang target
  | .shake .abs target _ amplitude _ => hookOutside c hang target || hookOutside c hang (target + amplitude)
  | _ => false

/-- The ids of the queued jobs and of the active job. -/
def State.jobIds (s : State) : List Word := s.dcc.queue.map (·.id) ++ (s.job.map (·.id)).toList

/-- The first check of R21 from the second on that a job fails; `none` where it passes every check. -/
def dipRefusal (args : List Byte) (s : State) : Option ResultCode :=
  let c := s.settings
  let j := jobOfArgs args
  if args.length ≠ 13 ∨ !jobInRange c.zoneCount j then some .badArg
  else
    match headOf c j.recipe with
    | none => some .noRecipe
    | some head =>
      if s.jobIds.contains j.id then some .duplicateJob
      else if queueSlots ≤ s.dcc.queue.length then some .queueFull
      else if (recipeSegments c head).any (absoluteOutside c j.hang) then some .outOfBounds
      else none

/-- DIP (R21). A pending RESTART is part of its first check (assumption log 16). -/
def execDip (tail : List Byte) (s : State) : Host.Outcome State Fault Refusal :=
  takeFrame .listenReady tail s fun args =>
    if s.cpt.restartPending then refuse .mode s
    else
      match dipRefusal args s with
      | some r => refuse r s
      | none =>
        let queue := s.dcc.queue ++ [jobOfArgs args]
        accept (beBytes 1 queue.length) (s.onDcc fun d => { d with queue := queue })

/-- CANCEL_JOB (R23). -/
def execCancelJob (tail : List Byte) (s : State) : Host.Outcome State Fault Refusal :=
  takeFrame .listenReady tail s fun args =>
    withArgs 4 args s
      (let id := BitVec.ofNat 32 (beField args 0 4)
       if s.dcc.queue.any (fun j => j.id == id) then
         accept [] (s.onDcc fun d => { d with queue := d.queue.filter fun j => j.id != id })
       else if (s.job.map (·.id)) = some id then refuse .active s
       else refuse .noSuchJob s)

/-! ### ABORT_DIP (R39 to R42, R63) -/

/-- What an accepted abort sets: the abort-pending flag, ABORTED, and the stage it was accepted in (R39, R106). -/
def markAbort (s : State) : State :=
  s.onDip fun d =>
    { d with abortPending := true, abortStage := some s.dcc.stage, flags := { d.flags with aborted := true } }

/-- The abort of the stage (R40 to R42, R63). -/
def routeAbort (s : State) : State :=
  match s.dcc.stage with
  | .weighDry => releaseDip (dropWeigh s)
  | .claim => releaseDip s
  | .approach => enterMotion .depart (endHold (dropSegment s))
  | .admitting => enterMotion .depart (raiseState (releaseResv (endHold s)))
  | .immerse => enterMotion .withdraw (dropSegment s)
  | .soak => enterMotion .withdraw (dropSegment s)
  | .drain => enterWeighDrained ((dropSegment s).onSgx fun x => { x with stage := none })
  | _ => s

/-- The stages in which an abort comes too late (R39 case 5). -/
def Stage.tooLate (st : Stage) : Bool :=
  match st with
  | .weighDrained | .depart | .release => true
  | _ => false

/-- ABORT_DIP (R39). -/
def execAbortDip (tail : List Byte) (s : State) : Host.Outcome State Fault Refusal :=
  takeFrame .listenReady tail s fun args =>
    withArgs 0 args s
      (match s.dcc.active with
       | none => refuse .noJob s
       | some d =>
         if s.dcc.stage = .fault then refuse .mode s
         else if d.abortPending then refuse .already s
         else if s.dcc.stage.tooLate then refuse .late s
         else accept [] (routeAbort (markAbort s)))

/-! ### RECOVER (R45, R46) -/

/-- The test of a RECOVER without force: a valid hook height and a load bottom at or above the safe height (R45). -/
def State.clearOfKettle (s : State) : Bool :=
  s.hif.hookValid && decide ((s.settings.safeHeight : Int) ≤ loadBottom s.hif.hook s.hang)

/-- An accepted RECOVER ends the faulted dip (R46). -/
def recoverDip (s : State) : State :=
  setStage .idle ((finishDip s).onDcc fun d => { d with faultCode := .none })

/-- RECOVER (R45). -/
def execRecover (tail : List Byte) (s : State) : Host.Outcome State Fault Refusal :=
  takeFrame .listenReady tail s fun args =>
    withArgs 1 args s
      (let force := beField args 0 1
       if 1 < force then refuse .badArg s
       else if s.dcc.stage ≠ .fault then refuse .mode s
       else if force = 0 ∧ !s.clearOfKettle then refuse .notClear s
       else accept [] (recoverDip s))

/-! ### JOB_START (R24) -/

/-- The conditions under which the head job starts (R24); the queue is not empty where there is a head. -/
def State.mayStart (s : State) : Bool :=
  decide (s.cpt.mode = .ready ∧ s.dcc.stage = .idle ∧ s.acu.log.length < logSlots) && s.driveReady
    && !s.cpt.restartPending

/-- A dip as it is at job start (R24, R38). -/
def newDip (j : Job) (now : Word) (lineLost : Bool) : Dip :=
  { job := j, startTime := now, dry := none, exitWeight := none, drained := none, steel := none
    immersionStart := none, immersionEnd := none, holdTime := 0
    flags := { DipFlags.clear with lineLostSeen := lineLost }, abortPending := false, abortStage := none
    faultStage := none }

/-- The start of a job: the slot, the active job, WEIGH_DRY (R24, R27, R101). -/
def startJob (j : Job) (rest : List Job) (s : State) : State :=
  weighRequest (setStage .weighDry
    ((s.onAcu fun a => { a with reserved := true }).onDcc fun d =>
      { d with queue := rest, active := some (newDip j s.sck s.lineLost) }))

/-- The fault of a job start, if one: DRIVE_FAULT before ENCODER (R24, R43). -/
def faultAtStart (s : State) : State :=
  if s.driveFault then enterFault .driveFault s
  else if s.hif.hookValid then s
  else enterFault .encoder s

/-- JOB_START (R24). -/
def execJobStart (s : State) : Host.Outcome State Fault Refusal :=
  match s.dcc.queue with
  | [] => unchanged s
  | j :: rest => if s.mayStart then settle (faultAtStart (startJob j rest s)) else unchanged s

/-! ### Holds and windows -/

/-- HOLD_LIMIT_EXPIRY: HOLD_LONG, once for the hold (R36). -/
def execHoldLimitExpiry (s : State) : Host.Outcome State Fault Refusal :=
  match s.dcc.hold with
  | none => unchanged s
  | some h =>
    if !h.longRaised ∧ 1000 * s.settings.holdLimit < h.elapsed then
      settle (raiseEvent .holdLong (s.onDcc fun d => { d with hold := some { h with longRaised := true } }))
    else unchanged s

/-- The claim becomes HELD at the end of its window; in CLAIM the dip enters APPROACH; then the conflict check (R166). -/
def holdClaim (s : State) : State :=
  let t := setClaim .held s.zcu.mask s
  conflictCheck (if t.dcc.stage = .claim then enterMotion .approach t else t)

/-- A window has run its time (R166, R179). -/
def State.windowDue (s : State) (window : Option Word) : Bool :=
  match window with
  | none => false
  | some t => decide (windowPeriod ≤ s.since t)

/-- CLAIM_WINDOW_EXPIRY (R166). -/
def execClaimWindowExpiry (s : State) : Host.Outcome State Fault Refusal :=
  match s.zcu.claim with
  | .pending window => if s.windowDue window then settle (holdClaim s) else unchanged s
  | _ => unchanged s

/-- The reservation at the end of its window: ADMITTED, and in ADMIT the dip enters IMMERSE; or withdrawn where the committed
sum no longer fits (R179, R184). -/
def admitResv (s : State) : State :=
  if s.committedFits then
    let t := setResv .admitted s
    if t.dcc.stage = .admitting then enterMotion .immerse t else t
  else setResv (.waiting s.withdrawReason) s

/-- ADMISSION_WINDOW_EXPIRY (R179). -/
def execAdmissionWindowExpiry (s : State) : Host.Outcome State Fault Refusal :=
  match s.adm.resv with
  | .pending window => if s.windowDue window then settle (admitResv s) else unchanged s
  | _ => unchanged s

end Sys2Proof.Machine
end

