-- ==== Sys2Proof/Machine/HoistCommands.lean ====
section
/-! DEFINITION. The meanings of the arrivals at the hoist signals: the encoder read (R72 to R75), the edges and the first levels
of the discrete inputs (R71, R81 to R85), and the expiries of the motion limit, the DRIVE_LOST timer, the dwell and wait
timers and the marker pulses (R58, R59, R61, R62, R80, R82). -/

namespace Sys2Proof.Machine

/-! ### The encoder (R72 to R75) -/

/-- The number of ones among the bits of a word. -/
def onesCount (n : Nat) (w : BitVec n) : Nat := ((List.range n).map fun i => (w.getLsbD i).toNat).sum

/-- The largest hook height, mm (R72). -/
def maxHook : Nat := 20000

/-- A good read: the start bit seen low, odd parity over the height and parity bits, and the height in range (R72). -/
def goodRead (start : Bool) (height : BitVec 16) (parity : Bool) : Bool :=
  !start && decide ((onesCount 16 height + parity.toNat) % 2 = 1 ∧ height.toNat ≤ maxHook)

/-- The DCC's immersion start at a hook-height update in IMMERSE (R33). -/
def testImmersion (s : State) : State :=
  if s.dcc.stage = .immerse then
    s.onDip fun d =>
      { d with
        immersionStart :=
          if d.immersionStart.isNone ∧ belowSurface s.adm.without s.hif.hook d.job.hang then some s.sck
          else d.immersionStart }
  else s

/-- Surface clear has been seen for the active dip (R32, R33). -/
def State.clearSeen (s : State) : Bool := (s.dcc.active.map fun d => d.immersionEnd.isSome).getD false

/-- EXIT_WET is set for the active dip. -/
def State.exitWet (s : State) : Bool := (s.dcc.active.map fun d => d.flags.exitWet).getD false

/-- EXIT_WET is not set at an entry into WEIGH_EXIT whose own hook-height update reported surface clear after it (R32). -/
def mendExitWet (before after : State) : State :=
  if !before.exitWet && !before.clearSeen && after.clearSeen then
    after.onFlags fun f => { f with exitWet := false }
  else after

/-- A hook-height update at its receivers (R74), with the ADM before the SGX or after it. -/
def hookUpdateWith (admFirst : Bool) (s : State) : State :=
  let t := testImmersion s
  if admFirst then sgxHookUpdate (admHookUpdate t) else mendExitWet t (admHookUpdate (sgxHookUpdate t))

/-- A hook-height update; which of the ADM and the SGX acts first is a free value (R74, assumption log 5). -/
def hookUpdate (s : State) : State := hookUpdateWith (Config.blockOrder s.freeCount) s.nextFree

/-- A good read becomes the hook height, valid, and clears the failure count (R73). -/
def takeHeight (height : Nat) (s : State) : State :=
  s.onHif fun h => { h with hook := height, hookValid := true, readFailures := 0 }

/-- A failed read: the count rises, and at 3 the height becomes invalid (R73). -/
def countFailedRead (s : State) : State :=
  s.onHif fun h =>
    { h with
      readFailures := saturate 255 (h.readFailures + 1)
      hookValid := h.hookValid && decide (h.readFailures + 1 < readFailureLimit) }

/-- A failed read at the blocks: the one that raises the count to 3 is a fault cause (R75). -/
def failedRead (s : State) : State :=
  if s.hif.readFailures + 1 = readFailureLimit then faultCause .encoder (countFailedRead s) else countFailedRead s

/-- ENCODER_READ (R72). -/
def execEncoderRead (start : Bool) (height : BitVec 16) (parity : Bool) (s : State) :
    Host.Outcome State Fault Refusal :=
  if goodRead start height parity then settle (hookUpdate (takeHeight height.toNat s))
  else settle (failedRead s)

/-! ### The discrete inputs (R71) -/

/-- The edge that two consecutive samples make against a filtered level: the new level, `true` for rising. None where the
samples differ, where they agree with the level, and where no level has been set yet (R71). -/
def edgeOfSamples (filtered : Option Bool) (first second : Bool) : Option Bool :=
  if first = second ∧ filtered = some (!second) then some second else none

/-- The first filtered level after hardware reset, where the two samples agree (R71). -/
def firstLevel (filtered : Option Bool) (first second : Bool) : Option Bool :=
  if first = second ∧ filtered = none then some second else none

/-- A motion segment, a MOVE or a SHAKE, is current at the SGX (R82). -/
def State.inMotion (s : State) : Bool := s.leg.isSome

/-- The motion limit count where halt is asserted or drive-ready negated before the expiry of the limit was taken: it
stands short of expiry (R80). -/
def MotionTimer.stand (m : MotionTimer) : MotionTimer := { m with count := min m.count m.limit }

/-- Drive-ready at its new level: the rising edge discards the DRIVE_LOST timer, the falling edge starts it where a motion
segment is running, and the motion limit count then stands short of expiry (R80, R82). -/
def setDriveReady (level : Bool) (s : State) : State :=
  s.onHif fun h =>
    { h with
      driveReady := some level
      driveLost := if level then none else if s.inMotion then some 0 else none
      motion := if level then h.motion else h.motion.map (·.stand) }

/-- DRIVE_READY_EDGE (R82). -/
def execDriveReadyEdge (first second : Bool) (s : State) : Host.Outcome State Fault Refusal :=
  match edgeOfSamples s.hif.driveReady first second with
  | none => unchanged s
  | some level => settle (setDriveReady level s)

/-- Drive-fault at its new level: its rising edge is a fault cause (R83). -/
def setDriveFault (level : Bool) (s : State) : State :=
  let t := s.onHif fun h => { h with driveFault := some level }
  if level then faultCause .driveFault t else t

/-- DRIVE_FAULT_EDGE (R83). -/
def execDriveFaultEdge (first second : Bool) (s : State) : Host.Outcome State Fault Refusal :=
  match edgeOfSamples s.hif.driveFault first second with
  | none => unchanged s
  | some level => settle (setDriveFault level s)

/-- The halt input at its new level, low being asserted: at its assertion the motion limit count stands short of expiry
(R80, R81). -/
def setHalt (level : Bool) (s : State) : State :=
  s.onHif fun h => { h with halt := some level, motion := if level then h.motion else h.motion.map (·.stand) }

/-- HALT_EDGE: the speed command is derived again, and the motion limit count stands or goes on by the level (R80, R81). -/
def execHaltEdge (first second : Bool) (s : State) : Host.Outcome State Fault Refusal :=
  match edgeOfSamples s.hif.halt first second with
  | none => unchanged s
  | some level => settle (setHalt level s)

/-- The filtered level of a trigger input. -/
def State.triggerLevel (s : State) (t : Trigger) : Option Bool :=
  match t with
  | .t0 => s.hif.t0
  | .t1 => s.hif.t1

/-- The mark that an edge sets in a latch (R84). -/
def EdgeLatch.mark (rising : Bool) (l : EdgeLatch) : EdgeLatch :=
  if rising then { l with rising := true } else { l with falling := true }

/-- A trigger input takes its new level and its latch the mark of the edge (R71, R84). -/
def latchEdge (t : Trigger) (level : Bool) (s : State) : State :=
  s.onHif fun h =>
    match t with
    | .t0 => { h with t0 := some level, latch0 := h.latch0.mark level }
    | .t1 => { h with t1 := some level, latch1 := h.latch1.mark level }

/-- An edge matches a configured event edge (R85). -/
def eventTakes (e : EventEdge) (rising : Bool) : Bool :=
  match e with
  | .none => false
  | .rising => rising
  | .falling => !rising
  | .either => true

/-- An edge is of the kind that ends a WAIT_INPUT (R61, R84). -/
def edgeTakes (e : EdgeChoice) (rising : Bool) : Bool :=
  match e with
  | .rising => rising
  | .falling => !rising
  | .either => true

/-- The event edge configured for a trigger input (R85). -/
def State.eventEdge (s : State) (t : Trigger) : EventEdge :=
  match t with
  | .t0 => s.settings.event0
  | .t1 => s.settings.event1

/-- The event of a trigger input (R85). -/
def triggerEvent (t : Trigger) : Event :=
  match t with
  | .t0 => .trigger0
  | .t1 => .trigger1

/-- The trigger event of an edge, raised in LISTEN and READY (R85). -/
def raiseTrigger (t : Trigger) (rising : Bool) (s : State) : State :=
  if s.online && eventTakes (s.eventEdge t) rising then raiseEvent (triggerEvent t) s else s

/-- A running WAIT_INPUT ends at an edge of this kind on this input (R84). -/
def State.waitEnds (s : State) (t : Trigger) (rising : Bool) : Bool :=
  match s.sgx.current with
  | some (.wait input edge) => decide (input = t) && edgeTakes edge rising
  | _ => false

/-- An edge of a trigger input (R84, R85). -/
def takeEdge (t : Trigger) (rising : Bool) (s : State) : State :=
  let u := raiseTrigger t rising (latchEdge t rising s)
  if s.waitEnds t rising then endSegment u else u

/-- TRIGGER_EDGE (R84, R85). -/
def execTriggerEdge (input : Trigger) (first second : Bool) (s : State) : Host.Outcome State Fault Refusal :=
  match edgeOfSamples (s.triggerLevel input) first second with
  | none => unchanged s
  | some rising => settle (takeEdge input rising s)

/-- The filtered level of a discrete input. -/
def State.inputLevel (s : State) (i : DiscreteInput) : Option Bool :=
  match i with
  | .driveReady => s.hif.driveReady
  | .driveFault => s.hif.driveFault
  | .halt => s.hif.halt
  | .t0 => s.hif.t0
  | .t1 => s.hif.t1

/-- Set the filtered level of a discrete input, with nothing beside it. -/
def setInput (i : DiscreteInput) (level : Bool) (s : State) : State :=
  s.onHif fun h =>
    match i with
    | .driveReady => { h with driveReady := some level }
    | .driveFault => { h with driveFault := some level }
    | .halt => { h with halt := some level }
    | .t0 => { h with t0 := some level }
    | .t1 => { h with t1 := some level }

/-- FIRST_FILTERED_LEVEL: the first level after hardware reset is a state and no edge (R71). -/
def execFirstFilteredLevel (input : DiscreteInput) (first second : Bool) (s : State) :
    Host.Outcome State Fault Refusal :=
  match firstLevel (s.inputLevel input) first second with
  | none => unchanged s
  | some level => settle (setInput input level s)

/-! ### Expiries -/

/-- MOTION_LIMIT_EXPIRY: the count of the leg exceeds its limit, and the dip enters FAULT with MOTION_TIMEOUT (R58, R80).
While halt is asserted or drive-ready negated the count stands short of expiry, so the limit has not expired (R80). -/
def execMotionLimitExpiry (s : State) : Host.Outcome State Fault Refusal :=
  match s.hif.motion with
  | none => unchanged s
  | some m =>
    if m.limit < m.count ∧ !s.haltAsserted ∧ s.driveReady then settle (faultCause .motionTimeout s) else unchanged s

/-- DRIVE_LOST_EXPIRY: the timer exceeds 2,000 ms, and the dip enters FAULT with DRIVE_LOST (R82). -/
def execDriveLostExpiry (s : State) : Host.Outcome State Fault Refusal :=
  match s.hif.driveLost with
  | none => unchanged s
  | some t => if driveLostLimit < t then settle (faultCause .driveLost s) else unchanged s

/-- DWELL_EXPIRY: the dwell timer has run its time and the segment ends (R59). -/
def execDwellExpiry (s : State) : Host.Outcome State Fault Refusal :=
  if s.sgx.current = some .dwell ∧ s.sgx.dwell = some 0 then settle (endSegment s) else unchanged s

/-- A WAIT_INPUT is current at the SGX (R61). -/
def State.inWait (s : State) : Bool :=
  match s.sgx.current with
  | some (.wait _ _) => true
  | _ => false

/-- WAIT_TIMEOUT: WAIT_EXPIRED is set and the segment ends (R61). -/
def execWaitTimeout (s : State) : Host.Outcome State Fault Refusal :=
  if s.inWait ∧ s.sgx.wait = some 0 then
    settle (endSegment (s.onFlags fun f => { f with waitExpired := true }))
  else unchanged s

/-- The latch of a marker (R62). -/
def State.latch (s : State) (m : Marker) : MarkerLatch :=
  match m with
  | .m0 => s.sgx.m0
  | .m1 => s.sgx.m1

/-- A latch low with its pulse timer stopped (R62). -/
def lowerMarker (m : Marker) (s : State) : State :=
  s.onSgx fun x =>
    match m with
    | .m0 => { x with m0 := { high := false, pulse := none } }
    | .m1 => { x with m1 := { high := false, pulse := none } }

/-- PULSE_EXPIRY: the latch goes low (R62). -/
def execPulseExpiry (marker : Marker) (s : State) : Host.Outcome State Fault Refusal :=
  if (s.latch marker).pulse = some 0 then settle (lowerMarker marker s) else unchanged s

end Sys2Proof.Machine
end

