-- ==== Sys2Proof/Machine/WeighCommands.lean ====
section
/-! DEFINITION. The meanings of RAW_SAMPLE and SETTLE_TIMEOUT: the divider, the stillness window and the weigh operation
(R88 to R97). -/

namespace Sys2Proof.Machine

/-- A weigh sample enters the stillness window, replacing the oldest of 16 (R90). -/
def pushWindow (x : Sample) (s : State) : State :=
  s.onWgu fun w => { w with window := (w.window ++ [x]).drop (w.window.length + 1 - windowSize) }

/-- A weigh operation in SETTLING after a weigh sample: the load has come still, the settle timer stops where it stands and the
list is emptied, or the sample joins the list of the latest 32 (R93). -/
def WeighOp.settleWith (still : Bool) (x : Sample) (op : WeighOp) : WeighOp :=
  if still then { op with phase := .averaging, samples := [] }
  else { op with samples := (op.samples ++ [x]).drop (op.samples.length + 1 - averageSize) }

/-- A weigh sample at an operation in SETTLING (R93). -/
def settleSample (op : WeighOp) (x : Sample) (s : State) : State :=
  s.onWgu fun w => { w with op := some (op.settleWith s.still x) }

/-- A weigh sample at an operation in AVERAGING: with the 32nd the operation ends settled (R94). -/
def averageSample (op : WeighOp) (x : Sample) (s : State) : State :=
  if averageSize ≤ op.samples.length + 1 then deliverSamples (op.samples ++ [x]) false s
  else s.onWgu fun w => { w with op := some { op with samples := op.samples ++ [x] } }

/-- A weigh sample: the window takes it first, then the weigh operation in progress (R89). -/
def takeSample (x : Sample) (s : State) : State :=
  let t := pushWindow x s
  match t.wgu.op with
  | none => t
  | some op =>
    match op.phase with
    | .settling => settleSample op x t
    | .averaging => averageSample op x t

/-- A raw sample at the divider: every N-th is retained and converted (R88, R89). -/
def takeRaw (raw : BitVec 24) (s : State) : State :=
  if s.settings.divider ≤ s.wgu.divider + 1 then
    takeSample (weighSample s.settings.weighZero s.settings.weighGain raw) (s.onWgu fun w => { w with divider := 0 })
  else s.onWgu fun w => { w with divider := w.divider + 1 }

/-- RAW_SAMPLE: counted in LISTEN and READY, read and discarded in BOOT and LOADING (R88). -/
def execRawSample (raw : BitVec 24) (s : State) : Host.Outcome State Fault Refusal :=
  if s.online then settle (takeRaw raw s) else unchanged s

/-- SETTLE_TIMEOUT: the settle timer has reached the settle time in SETTLING, and the operation ends by timeout (R93, R95). -/
def execSettleTimeout (s : State) : Host.Outcome State Fault Refusal :=
  match s.wgu.op with
  | none => unchanged s
  | some op =>
    match op.phase with
    | .averaging => unchanged s
    | .settling =>
      if s.settings.settleTime ≤ op.settleTimer then settle (deliverSamples op.samples true s) else unchanged s

end Sys2Proof.Machine
end

