-- ==== Sys2Proof/Machine/LineCommands.lean ====
section
/-! DEFINITION. The meanings of the arrivals at the kettle line and the peer table: TRANSMIT_ATTEMPT_START,
BIT_READ_BACK_MISMATCH, NOTICE_END, HEARTBEAT_TIMER_EXPIRY, UNSENT_EXPIRY and PEER_AGEING (R115 to R125, R128, R139). -/

namespace Sys2Proof.Machine

/-- What an attempt begun now sends: a LEAVE where its request is set, otherwise a STATE with the contents of this moment
(R121, R124). -/
def State.nextSending (s : State) : Sending := if s.kli.leaveRequest then .leave else .state s.announce

/-- An attempt may begin: LISTEN or READY, the receiver not hunting, no attempt in progress, a request set (R115, R124,
R131). -/
def State.mayTransmit (s : State) : Bool :=
  s.online && !s.kli.hunting && s.kli.attempt.isNone && (s.kli.leaveRequest || s.kli.stateRequest.isSome)

/-- TRANSMIT_ATTEMPT_START at a permitted start (R117, R121, R124). -/
def execTransmitAttemptStart (s : State) : Host.Outcome State Fault Refusal :=
  if s.mayTransmit then
    settle (s.onKli fun k =>
      { k with attempt := some { sending := s.nextSending, status := .driving, reported := true }, lateRaise := none })
  else unchanged s

/-- The last bit time of a notice that is sent dominant (R114). -/
def lastDominant (bytes : List Byte) : Nat :=
  (((List.range (10 * bytes.length)).filter (sentDominant bytes)).getLast?).getD 0

/-- The bit times of an attempt: to its last dominant bit time and the 11 recessive ones that end the notice (R115). -/
def attemptBits (bytes : List Byte) : Nat := lastDominant bytes + 12

/-- A bit time of the attempt is read back at a level other than the one sent (R117, R118). -/
def State.mismatch (s : State) (sending : Sending) (bitTime : Nat) (dominant : Bool) : Bool :=
  let bytes := noticeBytes s.own sending
  decide (bitTime < attemptBits bytes) && (sentDominant bytes bitTime != dominant)

/-- The attempt stops driving, lost or failed; a failure is counted at once (R117, R118; assumption log 13). -/
def stopAttempt (a : Attempt) (bitTime : Nat) (dominant : Bool) (s : State) : State :=
  let t := s.onKli fun k => { k with attempt := some { a with status := judgeMismatch bitTime dominant } }
  if judgeMismatch bitTime dominant = .failed then attemptFailed t else t

/-- BIT_READ_BACK_MISMATCH: the first one of an attempt judges it (R118). -/
def execBitReadBackMismatch (bitTime : Nat) (dominant : Bool) (s : State) : Host.Outcome State Fault Refusal :=
  match s.kli.attempt with
  | none => unchanged s
  | some a =>
    if a.status = .driving ∧ s.mismatch a.sending bitTime dominant then settle (stopAttempt a bitTime dominant s)
    else unchanged s

/-- NOTICE_END: the end of a notice (R115, R118, R122, R123). -/
def execNoticeEnd (bytes : List Byte) (spoiled : Bool) (s : State) : Host.Outcome State Fault Refusal :=
  settle (endNotice bytes spoiled s)

/-- HEARTBEAT_TIMER_EXPIRY: the STATE request is raised, and the timer stands until the next success (R125). -/
def execHeartbeatTimerExpiry (s : State) : Host.Outcome State Fault Refusal :=
  match s.kli.heartbeat with
  | none => unchanged s
  | some t =>
    if s.online ∧ heartbeatPeriod ≤ t then settle (raiseState (s.onKli fun k => { k with heartbeat := none }))
    else unchanged s

/-- UNSENT_EXPIRY: the STATE request has stayed set for 1,000 ms since its raise time (R128). -/
def execUnsentExpiry (s : State) : Host.Outcome State Fault Refusal :=
  match s.kli.stateRequest with
  | none => unchanged s
  | some t => if s.online ∧ unsentPeriod ≤ s.since t then settle (lineLostOccurs .unsent s) else unchanged s

/-- In LISTEN and READY, an entry of another station is PRESENT and 1,000 ms old (R139). -/
def State.aged (s : State) (i : StationIx) : Bool :=
  s.online && decide (i ≠ s.own ∧ (s.peers.get i).presence = .present ∧ staleAge ≤ s.since (s.peers.get i).time)

/-- PEER_AGEING (R139). -/
def execPeerAgeing (station : StationIx) (s : State) : Host.Outcome State Fault Refusal :=
  if s.aged station then settle (agePeer station s) else unchanged s

end Sys2Proof.Machine
end

