-- ==== Sys2Proof/Machine/ClockCommands.lean ====
section
/-! DEFINITION. The meaning of STATION_CLOCK_TICK: the millisecond count (R1), every timer that the part counts in milliseconds,
and the speed command word sent each millisecond (R76). A timer's expiry is an arrival of its own (assumption log 2). -/

namespace Sys2Proof.Machine

/-- A timer that runs down stands at 0 until its expiry is taken (assumption log 2). -/
def countDown (t : Option Nat) : Option Nat := t.map (· - 1)

/-- The Cell Port's timers at a millisecond (R188, R189, R196). -/
def Cpt.tick (c : Cpt) : Cpt :=
  { c with
    loadTimer := countDown c.loadTimer, listenTimer := countDown c.listenTimer
    restartTimer := countDown c.restartTimer }

/-- The heartbeat timer at a millisecond; at 200 ms it stands (R125). -/
def Kli.tick (k : Kli) : Kli := { k with heartbeat := k.heartbeat.map fun t => min heartbeatPeriod (t + 1) }

/-- The hold timer at a millisecond (R36). -/
def Dcc.tick (d : Dcc) : Dcc := { d with hold := d.hold.map fun h => { h with elapsed := h.elapsed + 1 } }

/-- A marker's pulse timer at a millisecond (R62). -/
def MarkerLatch.tick (m : MarkerLatch) : MarkerLatch := { m with pulse := countDown m.pulse }

/-- The Segment Executor's timers at a millisecond; they run under halt (R59, R61, R62). -/
def Sgx.tick (x : Sgx) : Sgx :=
  { x with dwell := countDown x.dwell, wait := countDown x.wait, m0 := x.m0.tick, m1 := x.m1.tick }

/-- The motion limit count at a millisecond: it counts only where the hoist may move (R80). -/
def MotionTimer.tick (counts : Bool) (m : MotionTimer) : MotionTimer :=
  if counts then { m with count := m.count + 1 } else m

/-- The Hoist Interface at a millisecond: the motion limit count, the DRIVE_LOST timer, and the word sent on SPD_DAT (R76, R80,
R82). -/
def Hif.tick (counts : Bool) (h : Hif) : Hif :=
  { h with
    motion := h.motion.map (·.tick counts)
    driveLost := h.driveLost.map (· + 1)
    speedWord := BitVec.ofInt 16 h.speed }

/-- The settle timer at a millisecond: 0 to the configured settle time, running in SETTLING (R92). -/
def WeighOp.tick (settleTime : Nat) (op : WeighOp) : WeighOp :=
  match op.phase with
  | .settling => { op with settleTimer := min settleTime (op.settleTimer + 1) }
  | .averaging => op

/-- The Weighing Unit at a millisecond (R92). -/
def Wgu.tick (settleTime : Nat) (w : Wgu) : Wgu := { w with op := w.op.map (·.tick settleTime) }

/-- One millisecond of the Station Clock. -/
def tickAll (s : State) : State :=
  { s with
    sck := s.sck + 1
    cpt := s.cpt.tick
    kli := s.kli.tick
    dcc := s.dcc.tick
    sgx := s.sgx.tick
    hif := s.hif.tick (!s.haltAsserted && s.driveReady)
    wgu := s.wgu.tick s.settings.settleTime }

/-- STATION_CLOCK_TICK: the count rises by 1 modulo 2^32 (R1), and the timers with it. -/
def execStationClockTick (s : State) : Host.Outcome State Fault Refusal := settle (tickAll s)

end Sys2Proof.Machine
end

