-- ==== Sys2Proof/Machine/Dispatch.lean ====
section
/-! DEFINITION. One arm per command, each the direct call of its meaning. -/

namespace Sys2Proof.Machine

/-- The effect of a command on everything but the queue. -/
def exec (i : Instr) (s : State) : Host.Outcome State Fault Refusal :=
  match i with
  | .hardwareReset => Sys2Proof.Machine.execHardwareReset s
  | .loadBegin tail => Sys2Proof.Machine.execLoadBegin tail s
  | .loadData tail => Sys2Proof.Machine.execLoadData tail s
  | .loadEnd tail => Sys2Proof.Machine.execLoadEnd tail s
  | .validationEnd => Sys2Proof.Machine.execValidationEnd s
  | .loadTimerExpiry => Sys2Proof.Machine.execLoadTimerExpiry s
  | .listenTimerExpiry => Sys2Proof.Machine.execListenTimerExpiry s
  | .getStatus tail => Sys2Proof.Machine.execGetStatus tail s
  | .dip tail => Sys2Proof.Machine.execDip tail s
  | .cancelJob tail => Sys2Proof.Machine.execCancelJob tail s
  | .abortDip tail => Sys2Proof.Machine.execAbortDip tail s
  | .recover tail => Sys2Proof.Machine.execRecover tail s
  | .setLevel tail => Sys2Proof.Machine.execSetLevel tail s
  | .addZinc tail => Sys2Proof.Machine.execAddZinc tail s
  | .removeDross tail => Sys2Proof.Machine.execRemoveDross tail s
  | .readRecord tail => Sys2Proof.Machine.execReadRecord tail s
  | .peekRecord tail => Sys2Proof.Machine.execPeekRecord tail s
  | .readPeer tail => Sys2Proof.Machine.execReadPeer tail s
  | .forgetPeer tail => Sys2Proof.Machine.execForgetPeer tail s
  | .setEventEnable tail => Sys2Proof.Machine.execSetEventEnable tail s
  | .clearEvents tail => Sys2Proof.Machine.execClearEvents tail s
  | .restart tail => Sys2Proof.Machine.execRestart tail s
  | .idleFrame => Sys2Proof.Machine.execIdleFrame s
  | .unknownCommand code tail => Sys2Proof.Machine.execUnknownCommand code tail s
  | .restartTimerExpiry => Sys2Proof.Machine.execRestartTimerExpiry s
  | .jobStart => Sys2Proof.Machine.execJobStart s
  | .rawSample raw => Sys2Proof.Machine.execRawSample raw s
  | .settleTimeout => Sys2Proof.Machine.execSettleTimeout s
  | .encoderRead start height parity => Sys2Proof.Machine.execEncoderRead start height parity s
  | .driveReadyEdge first second => Sys2Proof.Machine.execDriveReadyEdge first second s
  | .driveFaultEdge first second => Sys2Proof.Machine.execDriveFaultEdge first second s
  | .haltEdge first second => Sys2Proof.Machine.execHaltEdge first second s
  | .triggerEdge input first second => Sys2Proof.Machine.execTriggerEdge input first second s
  | .motionLimitExpiry => Sys2Proof.Machine.execMotionLimitExpiry s
  | .driveLostExpiry => Sys2Proof.Machine.execDriveLostExpiry s
  | .dwellExpiry => Sys2Proof.Machine.execDwellExpiry s
  | .waitTimeout => Sys2Proof.Machine.execWaitTimeout s
  | .pulseExpiry marker => Sys2Proof.Machine.execPulseExpiry marker s
  | .holdLimitExpiry => Sys2Proof.Machine.execHoldLimitExpiry s
  | .transmitAttemptStart => Sys2Proof.Machine.execTransmitAttemptStart s
  | .noticeEnd bytes spoiled => Sys2Proof.Machine.execNoticeEnd bytes spoiled s
  | .heartbeatTimerExpiry => Sys2Proof.Machine.execHeartbeatTimerExpiry s
  | .unsentExpiry => Sys2Proof.Machine.execUnsentExpiry s
  | .peerAgeing station => Sys2Proof.Machine.execPeerAgeing station s
  | .claimWindowExpiry => Sys2Proof.Machine.execClaimWindowExpiry s
  | .admissionWindowExpiry => Sys2Proof.Machine.execAdmissionWindowExpiry s
  | .stationClockTick => Sys2Proof.Machine.execStationClockTick s
  | .firstFilteredLevel input first second => Sys2Proof.Machine.execFirstFilteredLevel input first second s
  | .bitReadBackMismatch bitTime dominant => Sys2Proof.Machine.execBitReadBackMismatch bitTime dominant s
  | .csnFallingEdge => Sys2Proof.Machine.execCsnFallingEdge s

end Sys2Proof.Machine
end

