-- ==== Sys2Proof/Safety.lean ====
section
/-! DEFINITION. What a sound state of the part is, in the terms the statements use: the conditions the spec says hold in every
state of a run, and Table 12.1 as a function. -/

namespace Sys2Proof.Machine

/-- The output pins and the speed command are what the state of the blocks makes them (R76, R86, R195). -/
def PinsFollow (s : State) : Prop :=
  s.hif.speed = s.speedCommand ∧ s.hif.m0Out = s.sgx.m0.high ∧ s.hif.m1Out = s.sgx.m1.high
    ∧ s.cpt.irq = s.irqAsserted

/-- The inventory estimate is within its range and the level estimate is the one R7 computes from it (R147, R148). -/
def InventoryWf (s : State) : Prop :=
  s.inv.mass ≤ maxInventory ∧ s.inv.level = levelOf s.settings.area s.inv.mass

/-- The slot is reserved exactly while a dip is active, and records and slot together never exceed 32 (R101). -/
def LogWf (s : State) : Prop :=
  s.acu.reserved = s.dcc.active.isSome ∧ s.acu.log.length + s.acu.reserved.toNat ≤ logSlots

/-- The queue never holds more than 4 jobs, and no job id appears twice among the queued jobs and the active job (R22). -/
def QueueWf (s : State) : Prop :=
  s.dcc.queue.length ≤ queueSlots ∧ s.jobIds.Nodup

/-- The surface figures are those of R11 and R14 on the table, the level estimate and the own actual displacement (R181). -/
def SurfaceWf (s : State) : Prop :=
  s.adm.without = s.surfaceWithout ∧ s.adm.surface = surfaceEstimate s.adm.without s.adm.actual

/-- A dip stage from APPROACH through DEPART (R26). -/
def inKettle (st : Stage) : Bool :=
  match st with
  | .approach | .admitting | .immerse | .soak | .withdraw | .weighExit | .drain | .weighDrained | .depart => true
  | _ => false

/-- A claim state in which the own zone mask is empty (R160). -/
def claimQuiet (c : ClaimState) : Bool :=
  match c with
  | .none => true
  | .waiting _ => true
  | _ => false

/-- The Zone Claim Unit's own conditions (R160, R169): an empty mask in NONE and WAITING; the conflict flag only while HELD;
the yield only under the conflict flag and in APPROACH or ADMIT. -/
def ZcuWf (s : State) : Prop :=
  (claimQuiet s.zcu.claim = true → s.zcu.mask = 0)
    ∧ (s.zcu.conflict = true → s.zcu.claim = .held)
    ∧ (s.zcu.yielding = true → s.zcu.conflict = true ∧ s.dcc.stage.yields = true)

/-- The claim and the reservation by the stage (R26, R163, R175). -/
def StageWf (s : State) : Prop :=
  (inKettle s.dcc.stage = true → s.zcu.claim = .held)
    ∧ (s.dcc.stage = .idle ∨ s.dcc.stage = .weighDry → s.zcu.claim = .none)
    ∧ (s.dcc.stage = .immerse ∨ s.dcc.stage = .soak → s.adm.resv = .admitted)
    ∧ (s.dcc.stage = .idle ∨ s.dcc.stage = .weighDry ∨ s.dcc.stage = .claim ∨ s.dcc.stage = .approach →
        s.adm.resv = .none)

/-- The Segment Executor works on the stage of the Dip Cycle Controller: the stage in hand is that stage, but for a dip in
FAULT, and a segment runs in its motion stage only (R51, R52, R64). -/
def SgxWf (s : State) : Prop :=
  (∀ p, s.sgx.stage = some p → s.dcc.stage = phaseStage p ∨ s.dcc.stage = .fault)
    ∧ (s.sgx.current.isSome = true → ∃ p, s.sgx.stage = some p ∧ s.dcc.stage = phaseStage p)

/-- A job is active exactly while the stage is not IDLE (R20, R26, R34). -/
def ActiveWf (s : State) : Prop := s.dcc.active.isSome = true ↔ s.dcc.stage ≠ .idle

/-- The conditions that tie the blocks of the dip cycle together; each needs the others to be kept by a step. -/
def CycleWf (s : State) : Prop := ZcuWf s ∧ StageWf s ∧ SgxWf s ∧ ActiveWf s ∧ s.dcc.stage ≠ .release

/-- The weigh samples in hand are within their range and their numbers (R89, R90, R92, R94). -/
def WeighWf (s : State) : Prop :=
  s.wgu.window.length ≤ windowSize ∧ (∀ x ∈ s.wgu.window, x.gross ≤ maxWeight)
    ∧ ∀ op, s.wgu.op = some op → op.samples.length ≤ averageSize ∧ ∀ x ∈ op.samples, x.gross ≤ maxWeight

/-- The header ranges that a configuration in force has passed (R192). -/
def SettingsOk (c : Settings) : Prop :=
  (1 ≤ c.zoneCount ∧ c.zoneCount ≤ 16) ∧ (100 ≤ c.area ∧ c.area ≤ 10000) ∧ c.initialInventory ≤ maxInventory
    ∧ (c.travelLow < c.travelHigh ∧ c.travelHigh ≤ 20000) ∧ (1 ≤ c.maxSpeed ∧ c.maxSpeed ≤ 2000)
    ∧ (1 ≤ c.creepSpeed ∧ c.creepSpeed ≤ c.maxSpeed) ∧ c.arrivalBand ≤ 1000 ∧ c.exitClearance ≤ 5000
    ∧ (10 ≤ c.holdLimit ∧ c.holdLimit ≤ 600) ∧ (1 ≤ c.divider ∧ c.divider ≤ 100) ∧ c.stillBand ≤ 20000
    ∧ (1000 ≤ c.settleTime ∧ c.settleTime ≤ 20000) ∧ 1 ≤ c.weighGain ∧ c.slowBand ≤ 20000 ∧ c.safeHeight ≤ 20000

/-- A configuration in force has passed the header ranges (R192, R193). -/
def ConfigWf (s : State) : Prop := ∀ c, s.cfs = some c → SettingsOk c

/-- An event is pending (R195). -/
def State.pendingEvent (s : State) (e : Event) : Bool := decide (s.cpt.events &&& e.bit ≠ 0)

/-- The hold time of a dip once a hold in effect has ended: its length is added, saturating; without one it stays (R36,
R104). -/
def holdTimeAfter (hold : Option Hold) (d : Dip) : Nat :=
  match hold with
  | none => d.holdTime
  | some h => min 4294967295 (d.holdTime + h.elapsed)

/-- The dip has entered FAULT with a code (R43, R64): what FAULT is, and what the entry keeps. -/
def EnteredFault (code : FaultCode) (s t : State) : Prop :=
  t.dcc.stage = .fault ∧ t.dcc.faultCode = code ∧ t.dcc.secondFaults = 0 ∧ t.dcc.hold = none
    ∧ t.dcc.queue = s.dcc.queue ∧ t.pendingEvent .fault = true
    ∧ t.sgx.current = none ∧ t.sgx.m0.high = false ∧ t.sgx.m1.high = false ∧ t.sgx.cursor = s.sgx.cursor
    ∧ t.hif.speed = 0 ∧ t.hif.m0Out = false ∧ t.hif.m1Out = false ∧ t.hif.motion = none ∧ t.hif.driveLost = none
    ∧ t.wgu.op = none ∧ t.wgu.window = s.wgu.window
    ∧ t.zcu.claim = s.zcu.claim ∧ t.zcu.mask = s.zcu.mask ∧ t.adm = s.adm ∧ t.inv = s.inv ∧ t.acu = s.acu
    ∧ t.peers = s.peers ∧ t.sck = s.sck ∧ t.cfs = s.cfs
    ∧ ∀ d, s.dcc.active = some d → ∃ e, t.dcc.active = some e ∧ e.faultStage = some s.dcc.stage
        ∧ e.flags.faulted = true ∧ e.flags.aborted = d.flags.aborted ∧ e.job = d.job ∧ e.startTime = d.startTime
        ∧ e.dry = d.dry ∧ e.exitWeight = d.exitWeight ∧ e.drained = d.drained ∧ e.steel = d.steel
        ∧ e.holdTime = holdTimeAfter s.dcc.hold d

/-- What a command that does not touch the dip, the peers, the weighing or the log leaves as it was. -/
def KeepsTheDip (s t : State) : Prop :=
  t.sck = s.sck ∧ t.cfs = s.cfs ∧ t.peers = s.peers ∧ t.pending = s.pending ∧ t.zcu = s.zcu ∧ t.sgx = s.sgx
    ∧ t.wgu = s.wgu ∧ t.acu = s.acu ∧ t.dcc.stage = s.dcc.stage ∧ t.dcc.queue = s.dcc.queue
    ∧ t.dcc.faultCode = s.dcc.faultCode ∧ t.dcc.secondFaults = s.dcc.secondFaults
    ∧ t.dcc.active.map (·.job) = s.dcc.active.map (·.job) ∧ t.cpt.mode = s.cpt.mode

/-- A frame's arguments are at hand and the port takes frames: no validation is in progress (R186, cases 1 and 2). -/
def FrameOpen (s : State) (tail args : List Byte) : Prop := s.cpt.validating = false ∧ frameArgs tail = some args

/-- The response buffer replaced and nothing else changed: the state after a refusal (R186). -/
def refusedWith (code : ResultCode) (s : State) : State :=
  { s with cpt := { s.cpt with response := { code := code, data := [] } } }

/-- The modes in which Table 12.1 takes the command of a frame; no mode for an arrival that is no frame of the table. -/
def takenIn (i : Instr) (m : Mode) : Bool :=
  match i with
  | .loadBegin _ => decide (m = .boot ∨ m = .loading)
  | .loadData _ => decide (m = .loading)
  | .loadEnd _ => decide (m = .loading)
  | .getStatus _ => true
  | .dip _ => decide (m = .listen ∨ m = .ready)
  | .cancelJob _ => decide (m = .listen ∨ m = .ready)
  | .abortDip _ => decide (m = .listen ∨ m = .ready)
  | .recover _ => decide (m = .listen ∨ m = .ready)
  | .setLevel _ => decide (m = .listen ∨ m = .ready)
  | .addZinc _ => decide (m = .listen ∨ m = .ready)
  | .removeDross _ => decide (m = .listen ∨ m = .ready)
  | .readRecord _ => decide (m = .listen ∨ m = .ready)
  | .peekRecord _ => decide (m = .listen ∨ m = .ready)
  | .readPeer _ => decide (m = .listen ∨ m = .ready)
  | .forgetPeer _ => decide (m = .listen ∨ m = .ready)
  | .setEventEnable _ => true
  | .clearEvents _ => true
  | .restart _ => decide (m = .ready)
  | _ => false

/-- The argument lengths that the rule of a frame command takes (R187, Table 12.1); none for an arrival that is no frame of the
table. -/
def lengthTaken (i : Instr) (n : Nat) : Bool :=
  match i with
  | .loadBegin _ => decide (n = 3)
  | .loadData _ => decide (1 ≤ n ∧ n ≤ 60)
  | .loadEnd _ => decide (n = 0)
  | .getStatus _ => decide (n = 0)
  | .dip _ => decide (n = 13)
  | .cancelJob _ => decide (n = 4)
  | .abortDip _ => decide (n = 0)
  | .recover _ => decide (n = 1)
  | .setLevel _ => decide (n = 2)
  | .addZinc _ => decide (n = 4)
  | .removeDross _ => decide (n = 4)
  | .readRecord _ => decide (n = 0)
  | .peekRecord _ => decide (n = 0)
  | .readPeer _ => decide (n = 1)
  | .forgetPeer _ => decide (n = 1)
  | .setEventEnable _ => decide (n = 2)
  | .clearEvents _ => decide (n = 2)
  | .restart _ => decide (n = 0)
  | _ => false

/-- A command with which a weigh operation ends and its samples are averaged: settled, with the 32nd sample of AVERAGING
(R94), or by timeout, where at least one sample is at hand (R95; the mean of none is open, assumption log 6). -/
def DeliversWeight (s : State) (c : Instr) (samples : List Sample) (unsettled : Bool) : Prop :=
  (∃ raw earlier, c = .rawSample raw ∧ s.online = true ∧ s.settings.divider ≤ s.wgu.divider + 1
      ∧ (∃ timer, s.wgu.op = some { phase := .averaging, settleTimer := timer, samples := earlier }) ∧ earlier.length = 31
      ∧ samples = earlier ++ [weighSample s.settings.weighZero s.settings.weighGain raw] ∧ unsettled = false)
    ∨ (∃ timer, c = .settleTimeout ∧ s.wgu.op = some { phase := .settling, settleTimer := timer, samples := samples }
      ∧ samples ≠ [] ∧ s.settings.settleTime ≤ timer ∧ unsettled = true)

/-- A command that changes the entry of another station, and the entry named where a STATE is stored in it (R141): a valid
STATE or LEAVE heard, an entry grown old, an accepted FORGET_PEER. -/
def TableArrival (s : State) (c : Instr) (stored : Option StationIx) : Prop :=
  s.online = true ∧ ∃ i : StationIx, i ≠ s.own ∧
    ((∃ bytes a, c = .noticeEnd bytes false ∧ s.kli.hunting = false ∧ s.kli.attempt = none
        ∧ checkNotice bytes false = some ⟨i, .state a⟩ ∧ stored = some i)
      ∨ (∃ bytes, c = .noticeEnd bytes false ∧ s.kli.hunting = false ∧ s.kli.attempt = none
        ∧ checkNotice bytes false = some ⟨i, .leave⟩ ∧ (s.peers.get i).presence ≠ .absent ∧ stored = none)
      ∨ (c = .peerAgeing i ∧ (s.peers.get i).presence = .present
        ∧ 1000 ≤ (s.sck - (s.peers.get i).time).toNat ∧ stored = none)
      ∨ (∃ tail args, c = .forgetPeer tail ∧ FrameOpen s tail args ∧ args.length = 1 ∧ beNat args = i.val + 1
        ∧ (s.peers.get i).presence = .stale ∧ stored = none))

/-- An entry of another station that shows a HELD claim on a zone of the own mask (R168). -/
def ConflictsWith (s : State) (i : StationIx) : Prop :=
  i ≠ s.own ∧ (s.peers.get i).presence ≠ .absent ∧ (s.peers.get i).heard.claim = .held
    ∧ (s.peers.get i).heard.mask &&& s.zcu.mask ≠ 0

end Sys2Proof.Machine
end

