-- ==== Sys2Proof/Certificates/Slice0/Obligations.lean ====
section
/-! DEFINITION. The statements about the model, one proposition each. "log n" is notes/assumptions/n.md. -/

open Sys2Proof Sys2Proof.Machine

/-! ### The step, the queue and the frames -/

/-- A step takes the command at the front of the queue and is `exec` of it on the state with the queue's rest; on an
empty queue the block idles. The queue is the model's own (log 3). -/
def Obligations.StepRunsTheFrontCommand : Prop :=
  (∀ s : State, s.pending = [] → step s = .next s)
    ∧ ∀ (s : State) (c : Instr) (rest : List Instr), s.pending = c :: rest →
        step s = exec c { s with pending := rest }

/-- Every well-formed command answers a next state from every state, and leaves the queue of waiting commands as it
was. -/
def Obligations.EveryWellFormedCommandCompletes : Prop :=
  ∀ (c : Instr) (s : State), c.wellFormed = true → ∃ t, exec c s = .next t ∧ t.pending = s.pending

/-- Frame decoding and encoding agree (R185, Table 12.1): a well-formed frame command decodes from the bytes it is
encoded as; every decoded frame is well formed; and the bytes of a frame other than the idle frame are those its
command is encoded as. -/
def Obligations.FrameDecodingInvertsEncoding : Prop :=
  (∀ (i : Instr) (bytes : List Byte), i.wellFormed = true → encodeFrame i = some bytes → decodeFrame bytes = some i)
    ∧ (∀ (i : Instr) (bytes : List Byte), decodeFrame bytes = some i → i.wellFormed = true)
    ∧ (∀ (code : Byte) (tail : List Byte), code ≠ 0 → encodeFrame (decodeCode code tail) = some (code :: tail))
    ∧ decodeFrame [] = none

/-- The receiver reads from the bytes of a notice exactly what was put into them (R119 to R122): a LEAVE, and a STATE
whose fields fit their places. -/
def Obligations.NoticeCheckInvertsNoticeBytes : Prop :=
  (∀ station : StationIx, checkNotice (noticeBytes station .leave) false = some ⟨station, .leave⟩)
    ∧ ∀ (station : StationIx) (a : Announced), a.stage < 256 → a.reserved < 65536 → a.actual < 65536 →
        a.epoch < 65536 → a.origin < 256 → a.inventory < 4294967296 →
        checkNotice (noticeBytes station (.state a)) false = some ⟨station, .state a⟩

/-! ### The answering of frames (R185 to R187) -/

/-- The first four cases of R186, in their order, for every frame but the idle frame, with Table 12.1 as `takenIn`:
BUSY during a validation unless the code is GET_STATUS's, BAD_FRAME, BAD_CMD for a code not listed, MODE; and then, for
every command of the table, BAD_ARG for an argument length that `lengthTaken` does not give it (R187), but for a DIP while
a RESTART is pending, which is MODE first (the model's reading, log 16). Nothing but the response buffer changes. -/
def Obligations.FramesAreAnsweredInOrder : Prop :=
  ∀ (code : Byte) (tail : List Byte) (s : State), code ≠ 0 →
    (s.cpt.validating = true → code ≠ 0x04 → exec (decodeCode code tail) s = .next (refusedWith .busy s))
      ∧ (s.cpt.validating = false ∨ code = 0x04 → frameArgs tail = none →
          exec (decodeCode code tail) s = .next (refusedWith .badFrame s))
      ∧ (s.cpt.validating = false → frameArgs tail ≠ none → listedCode code = false →
          exec (decodeCode code tail) s = .next (refusedWith .badCmd s))
      ∧ (s.cpt.validating = false → frameArgs tail ≠ none → listedCode code = true →
          takenIn (decodeCode code tail) s.cpt.mode = false →
          exec (decodeCode code tail) s = .next (refusedWith .mode s))
      ∧ (∀ args, s.cpt.validating = false ∨ code = 0x04 → frameArgs tail = some args → listedCode code = true →
          takenIn (decodeCode code tail) s.cpt.mode = true → code ≠ 0x05 ∨ s.cpt.restartPending = false →
          lengthTaken (decodeCode code tail) args.length = false →
          exec (decodeCode code tail) s = .next (refusedWith .badArg s))

/-- A frame that is answered with a result other than OK changes nothing but the response buffer, and its response
carries no data. LOAD_END is left out: its response is held BUSY while its validation runs (R191). -/
def Obligations.RefusalsChangeOnlyTheResponse : Prop :=
  ∀ (code : Byte) (tail : List Byte) (s t : State), code ≠ 0 → code ≠ 0x03 →
    exec (decodeCode code tail) s = .next t → t.cpt.response.code ≠ .ok → t = refusedWith t.cpt.response.code s

/-- UNKNOWN_COMMAND with an unlisted code is answered BAD_CMD where the frame is whole; the idle frame changes
nothing; the falling edge of CSn captures the response buffer, and the bytes shifted out are the response frame and
then 00h. A term with a listed code is no UNKNOWN_COMMAND and is refused (the model's choice, log 20). GET_STATUS is
taken in every mode and during a validation, returns the 42 status bytes, and changes nothing but the response buffer;
an argument is BAD_ARG (R186, R194). -/
def Obligations.FramesThatOnlyAnswer : Prop :=
  ((∀ (code : Byte) (tail args : List Byte) (s : State), unlistedCode code = true → FrameOpen s tail args →
        exec (.unknownCommand code tail) s = .next (refusedWith .badCmd s))
      ∧ (∀ (code : Byte) (tail : List Byte) (s : State), unlistedCode code = false →
          exec (.unknownCommand code tail) s = .refused (.illFormed "UNKNOWN_COMMAND"))
      ∧ (∀ s : State, exec .idleFrame s = .next s)
      ∧ (∀ s : State, exec .csnFallingEdge s = .next { s with cpt := { s.cpt with captured := s.cpt.response } })
      ∧ ∀ (r : Response) (n : Nat),
          (n < r.data.length + 2 → (responseFrame r)[n]? = some (misoByte r n))
            ∧ (r.data.length + 2 ≤ n → misoByte r n = 0))
    ∧ (∀ (s : State) (tail args : List Byte), frameArgs tail = some args →
      (args = [] → exec (.getStatus tail) s
          = .next { s with cpt := { s.cpt with response := { code := .ok, data := statusBytes s } } })
        ∧ (args ≠ [] → exec (.getStatus tail) s = .next (refusedWith .badArg s))
        ∧ (statusBytes s).length = 42)

/-- SET_EVENT_ENABLE replaces all sixteen enables, CLEAR_EVENTS clears the pending flags of its mask, both with OK; a
length other than 2 is BAD_ARG (R195). IRQ is asserted exactly while at least one event is both pending and enabled.
The sixteen events have the bits 0 to 15 in the order of R195, LOAD_DONE the lowest and TRIGGER1 the highest; there are
no others, and raising one sets no other. -/
def Obligations.EventsEnablesAndIrq : Prop :=
  (∀ (s : State) (tail args : List Byte), FrameOpen s tail args →
      (args.length = 2 →
          exec (.setEventEnable tail) s = .next (drivePins
            { s with cpt := { s.cpt with response := { code := .ok, data := [] }, enables := BitVec.ofNat 16 (beNat args) } })
          ∧ exec (.clearEvents tail) s = .next (drivePins
            { s with cpt := { s.cpt with
                response := { code := .ok, data := [] }
                events := s.cpt.events &&& ~~~ (BitVec.ofNat 16 (beNat args)) } }))
        ∧ (args.length ≠ 2 →
          exec (.setEventEnable tail) s = .next (refusedWith .badArg s)
          ∧ exec (.clearEvents tail) s = .next (refusedWith .badArg s)))
    ∧ ((∀ s : State, (drivePins s).cpt.irq = true ↔
        ∃ e : Event, s.cpt.events &&& e.bit ≠ 0 ∧ s.cpt.enables &&& e.bit ≠ 0)
      ∧ [Event.loadDone, .dipDone, .recordStored, .logFull, .holdBegin, .holdLong, .zoneConflict, .peerNew, .peerStale,
          .epochAdopted, .lowZinc, .lineLost, .lineBack, .fault, .trigger0, .trigger1].map Event.bit
        = [0x0001, 0x0002, 0x0004, 0x0008, 0x0010, 0x0020, 0x0040, 0x0080, 0x0100, 0x0200, 0x0400, 0x0800, 0x1000,
          0x2000, 0x4000, 0x8000]
      ∧ (∀ e : Event, e ∈ [Event.loadDone, .dipDone, .recordStored, .logFull, .holdBegin, .holdLong, .zoneConflict,
          .peerNew, .peerStale, .epochAdopted, .lowZinc, .lineLost, .lineBack, .fault, .trigger0, .trigger1])
      ∧ (∀ e e' : Event, e.bit = e'.bit → e = e')
      ∧ ∀ (s : State) (e e' : Event), (raiseEvent e s).pendingEvent e' = (s.pendingEvent e' || decide (e = e')))

/-! ### The load (R188 to R193) -/

/-- LOAD_BEGIN, LOAD_DATA and LOAD_END where they are taken: what each does to the load, and that nothing else changes
but the response (R189, R190, R191); and their refusals with BAD_ARG: a LOAD_BEGIN of another length, of a declared
length outside 64 to 1,600 or of a timeout outside 1 to 60 s, which leaves a load in progress as it is, an empty
LOAD_DATA, a LOAD_END with an argument. -/
def Obligations.LoadCommandsFillTheBuffer : Prop :=
  ∀ (s : State) (tail args : List Byte), FrameOpen s tail args →
    (s.cpt.mode = .boot ∨ s.cpt.mode = .loading → args.length = 3 → 64 ≤ beField args 0 2 → beField args 0 2 ≤ 1600 →
        1 ≤ beField args 2 1 → beField args 2 1 ≤ 60 →
        exec (.loadBegin tail) s = .next (drivePins { s with cpt := { s.cpt with
          response := { code := .ok, data := [] }
          load := { buffer := [], declared := beField args 0 2, received := 0, overflow := false }
          loadResult := { code := 0x00, field := 0xFF, segment := 0xFF, recipe := 0xFF }
          loadTimer := some (1000 * beField args 2 1)
          mode := .loading } }))
      ∧ (s.cpt.mode = .loading → 1 ≤ args.length →
        exec (.loadData tail) s = .next (drivePins { s with cpt := { s.cpt with
          response := { code := .ok, data := [] }
          load := { s.cpt.load with
            buffer := (s.cpt.load.buffer ++ args).take s.cpt.load.declared
            received := s.cpt.load.received + args.length
            overflow := s.cpt.load.overflow || decide (s.cpt.load.declared < s.cpt.load.buffer.length + args.length) } } }))
      ∧ (s.cpt.mode = .loading → args = [] →
        exec (.loadEnd tail) s = .next (drivePins { s with cpt := { s.cpt with
          response := { code := .busy, data := [] }, loadTimer := none, validating := true } }))
      ∧ (s.cpt.mode = .boot ∨ s.cpt.mode = .loading →
          args.length ≠ 3 ∨ beField args 0 2 < 64 ∨ 1600 < beField args 0 2 ∨ beField args 2 1 = 0
            ∨ 60 < beField args 2 1 →
          exec (.loadBegin tail) s = .next (refusedWith .badArg s))
      ∧ (s.cpt.mode = .loading → args = [] → exec (.loadData tail) s = .next (refusedWith .badArg s))
      ∧ (s.cpt.mode = .loading → args ≠ [] → exec (.loadEnd tail) s = .next (refusedWith .badArg s))

/-- VALIDATION_END of a validation that fails: the buffer is discarded, the mode becomes BOOT, the load result is kept
and returned with LOAD_FAILED, no event is raised, and nothing else changes. Without a validation in progress nothing
happens (log 2). The expiry of the load timer in LOADING discards the buffer, sets LOAD_TIMEOUT and returns to BOOT;
the expiry of the listen timer makes the mode READY (R188, R189). Before they are due nothing happens (log 2). The rules
discard the buffer; that the declared length and the received count become 0 and the overflow mark clears with it is the
model's choice (log 17). -/
def Obligations.LoadEndsAndTimersChangeTheMode : Prop :=
  ((∀ (s : State) (r : LoadResult), s.cpt.validating = true → validateLoad s.cpt.load = some r →
        exec .validationEnd s = .next (drivePins { s with cpt := { s.cpt with
          response := { code := .loadFailed, data := [r.code, r.field, r.segment, r.recipe] }
          mode := .boot, validating := false, loadResult := r
          load := { buffer := [], declared := 0, received := 0, overflow := false } } }))
      ∧ ∀ s : State, s.cpt.validating = false → exec .validationEnd s = .next s)
    ∧ ((∀ s : State, s.cpt.mode = .loading → s.cpt.loadTimer = some 0 →
        exec .loadTimerExpiry s = .next (drivePins { s with cpt := { s.cpt with
          mode := .boot, loadTimer := none
          load := { buffer := [], declared := 0, received := 0, overflow := false }
          loadResult := { code := 0x0E, field := 0xFF, segment := 0xFF, recipe := 0xFF } } }))
      ∧ (∀ s : State, s.cpt.mode ≠ .loading ∨ s.cpt.loadTimer ≠ some 0 → exec .loadTimerExpiry s = .next s)
      ∧ (∀ s : State, s.cpt.mode = .listen → s.cpt.listenTimer = some 0 →
          exec .listenTimerExpiry s = .next (drivePins { s with cpt := { s.cpt with mode := .ready, listenTimer := none } }))
      ∧ (∀ s : State, s.cpt.mode ≠ .listen ∨ s.cpt.listenTimer ≠ some 0 → exec .listenTimerExpiry s = .next s))

/-- VALIDATION_END of a validation that passes: the six things of R193 and the start values of R147, R134, R181 and
R131, with what it leaves alone. A validation passes only a header within its ranges (R192). -/
def Obligations.PassedValidationEntersListen : Prop :=
  (∀ s : State, s.cpt.validating = true → validateLoad s.cpt.load = none →
      ∃ t, exec .validationEnd s = .next t
        ∧ t.cfs = some (settingsOf s.cpt.load.buffer)
        ∧ t.cpt.mode = .listen ∧ t.cpt.listenTimer = some 2000 ∧ t.cpt.validating = false
        ∧ t.cpt.loadResult = { code := 0x01, field := 0xFF, segment := 0xFF, recipe := 0xFF }
        ∧ t.cpt.response = { code := .ok, data := [0x01, 0xFF, 0xFF, 0xFF] }
        ∧ t.pendingEvent .loadDone = true
        ∧ t.inv.mass = (settingsOf s.cpt.load.buffer).initialInventory
        ∧ t.inv.level = levelOf t.settings.area t.inv.mass ∧ t.inv.epoch = 0 ∧ t.inv.origin = t.ownNumber
        ∧ t.inv.low = decide (t.inv.level < t.settings.minLevel)
        ∧ t.inv.drawn = s.inv.drawn ∧ t.inv.added = s.inv.added ∧ t.inv.removed = s.inv.removed
        ∧ (t.peers.get t.own).presence = .present ∧ (t.peers.get t.own).time = s.sck
        ∧ (∀ i, i ≠ t.own → t.peers.get i = s.peers.get i)
        ∧ t.adm.without = t.surfaceWithout ∧ t.adm.surface = surfaceEstimate t.adm.without t.adm.actual
        ∧ t.kli.stateRequest.isSome = true ∧ t.wgu.divider = 0
        ∧ t.sck = s.sck ∧ t.zcu = s.zcu ∧ t.dcc = s.dcc ∧ t.sgx = s.sgx ∧ t.acu = s.acu ∧ t.cpt.enables = s.cpt.enables)
    ∧ (∀ l : Load, validateLoad l = none →
      SettingsOk (settingsOf l.buffer) ∧ l.overflow = false ∧ l.received = l.declared ∧ beField l.buffer 0 2 = 1
        ∧ (crc32 (l.buffer.take (l.declared - 4))).toNat = beField l.buffer (l.declared - 4) 4
        ∧ recipeCheck (rawRecipes l.buffer) = none)

/-! ### Hardware reset and RESTART (R188, R196 to R198) -/

/-- Hardware reset takes every block to its value after hardware reset; the queue of waiting commands and the counter
of the free values are the model's own and stay (log 3, log 5). Values after hardware reset that the chapters state
(R1, R47, R48, R50, R73, R87, R99, R100, R132, R145, R147, R160, R172, R198). -/
def Obligations.HardwareResetSetsEveryBlock : Prop :=
  (∀ s : State, exec .hardwareReset s = .next { State.reset with pending := s.pending, freeCount := s.freeCount })
    ∧ (State.reset.sck = 0 ∧ State.reset.cfs = none ∧ State.reset.cpt.mode = .boot
      ∧ State.reset.cpt.response = { code := .ok, data := [] } ∧ State.reset.cpt.events = 0 ∧ State.reset.cpt.enables = 0
      ∧ State.reset.cpt.irq = false ∧ State.reset.cpt.restartPending = false ∧ State.reset.cpt.validating = false
      ∧ State.reset.kli.hunting = true ∧ State.reset.kli.failures = 0 ∧ State.reset.kli.lineLost = .none
      ∧ State.reset.kli.discards = 0 ∧ State.reset.kli.stateRequest = none ∧ State.reset.kli.leaveRequest = false
      ∧ (∀ i, State.reset.peers.get i = PeerEntry.empty)
      ∧ State.reset.inv = { mass := 0, level := 0, epoch := 0, origin := 0, drawn := 0, added := 0, removed := 0, low := false }
      ∧ State.reset.zcu = { claim := .none, mask := 0, conflict := false, yielding := false }
      ∧ State.reset.adm = { resv := .none, full := 0, gateClosed := false, without := 0, actual := 0, surface := 0 }
      ∧ State.reset.dcc.stage = .idle ∧ State.reset.dcc.active = none ∧ State.reset.dcc.queue = []
      ∧ State.reset.dcc.faultCode = .none ∧ State.reset.dcc.secondFaults = 0
      ∧ State.reset.sgx.cursor = .none ∧ State.reset.sgx.current = none ∧ State.reset.sgx.m0.high = false
      ∧ State.reset.sgx.m1.high = false ∧ State.reset.hif.hook = 0 ∧ State.reset.hif.hookValid = false
      ∧ State.reset.hif.readFailures = 0 ∧ State.reset.hif.speed = 0 ∧ State.reset.haltAsserted = true
      ∧ State.reset.driveReady = false ∧ State.reset.driveFault = false ∧ State.reset.hif.t0 = none
      ∧ State.reset.wgu = { divider := 0, window := [], op := none }
      ∧ State.reset.acu = { log := [], reserved := false, nextSeq := 0 })

/-- RESTART in READY (R196): ALREADY while one is pending, NOT_CLEAR where the station is not clear, otherwise
pending, with its timer at 1,000 ms and the LEAVE request raised. The clear of RESTART at the expiry of its timer, in
the state in which RESTART is taken (R197, R131, R145, R172): the six things of R197, and what is kept. That the self
entry keeps its time with the rest of it is the model's choice (log 30). -/
def Obligations.RestartIsAcceptedAndCleared : Prop :=
  (∀ (s : State) (tail : List Byte), FrameOpen s tail [] → s.cpt.mode = .ready →
      (s.cpt.restartPending = true → exec (.restart tail) s = .next (refusedWith .already s))
        ∧ (s.cpt.restartPending = false →
            s.dcc.stage ≠ .idle ∨ s.zcu.claim ≠ .none ∨ s.adm.resv ≠ .none →
            exec (.restart tail) s = .next (refusedWith .notClear s))
        ∧ (s.cpt.restartPending = false → s.dcc.stage = .idle → s.zcu.claim = .none → s.adm.resv = .none →
            exec (.restart tail) s = .next (drivePins
              { s with
                cpt := { s.cpt with
                  response := { code := .ok, data := [] }, restartPending := true, restartTimer := some 1000 }
                kli := { s.kli with leaveRequest := true } })))
    ∧ (∀ s : State, s.cpt.restartPending = true → s.cpt.restartTimer = some 0 → s.dcc.stage = .idle →
      s.zcu.claim = .none → s.adm.resv = .none →
      ∃ t, exec .restartTimerExpiry s = .next t
        ∧ t.cpt.restartPending = false ∧ t.cpt.restartTimer = none
        ∧ t.kli.leaveRequest = false ∧ t.kli.lineLost = .none ∧ t.kli.stateRequest = some s.sck ∧ t.kli.heartbeat = none
        ∧ t.kli.discards = s.kli.discards ∧ t.kli.failures = s.kli.failures
        ∧ t.peers.get s.own = s.peers.get s.own ∧ (∀ i, i ≠ s.own → t.peers.get i = PeerEntry.empty)
        ∧ t.dcc = { s.dcc with queue := [] }
        ∧ t.sgx.m0.high = false ∧ t.sgx.m1.high = false ∧ t.hif.m0Out = false ∧ t.hif.m1Out = false
        ∧ t.cpt.events = 0 ∧ t.cpt.irq = false ∧ t.cpt.enables = s.cpt.enables ∧ t.cpt.response = s.cpt.response
        ∧ t.cpt.loadResult = s.cpt.loadResult ∧ t.cpt.mode = .listen ∧ t.cpt.listenTimer = some 2000
        ∧ t.adm.without = min 65535 s.inv.level
        ∧ t.acu = s.acu ∧ t.inv = s.inv ∧ t.cfs = s.cfs ∧ t.wgu = s.wgu ∧ t.zcu = s.zcu ∧ t.sck = s.sck
        ∧ t.hif.hook = s.hif.hook ∧ t.hif.hookValid = s.hif.hookValid ∧ t.hif.readFailures = s.hif.readFailures)

/-! ### The zinc inventory (R147 to R157) -/

/-- A sounding becomes the new M by floor and clamp, and the level estimate then reads the sounded level where neither
the clamp nor the saturation acted, for every area of 100 or more; a sounding of 0 gives M = 0 and L = 0 (R8). -/
def Obligations.SoundingReadsBack : Prop :=
  (∀ area level : Nat, 100 ≤ area → level ≤ 65535 → level * (33 * area) / 500 ≤ 8000000 →
      levelOf area (level * (33 * area) / 500) = level)
    ∧ ∀ (s : State) (tail args : List Byte), FrameOpen s tail args → s.online = true → args.length = 2 →
        s.inv.epoch ≠ 65535 →
        ∃ t, exec (.setLevel tail) s = .next t
          ∧ t.inv.mass = min 8000000 (beNat args * (33 * s.settings.area) / 500)
          ∧ (100 ≤ s.settings.area → beNat args * (33 * s.settings.area) / 500 ≤ 8000000 → t.inv.level = beNat args)
          ∧ (beNat args = 0 → t.inv.mass = 0 ∧ t.inv.level = 0)

/-- SET_LEVEL (R156): EPOCH_LIMIT at epoch 65,535; otherwise the epoch rises by 1, the origin is the own number, M is
the sounding's, L is recomputed, the low test is made, the STATE request is raised; the counters and the dip are not
changed. -/
def Obligations.SetLevelTakesASounding : Prop :=
  ∀ (s : State) (tail args : List Byte), FrameOpen s tail args → s.online = true → args.length = 2 →
    (s.inv.epoch = 65535 → exec (.setLevel tail) s = .next (refusedWith .epochLimit s))
      ∧ (s.inv.epoch ≠ 65535 → ∃ t, exec (.setLevel tail) s = .next t
          ∧ t.cpt.response = { code := .ok, data := [] }
          ∧ t.inv.epoch = s.inv.epoch + 1 ∧ t.inv.origin = s.ownNumber
          ∧ t.inv.mass = massOfSounding s.settings.area (beNat args)
          ∧ t.inv.level = levelOf s.settings.area t.inv.mass
          ∧ t.inv.low = decide (t.inv.level < s.settings.minLevel)
          ∧ (s.inv.low = false → t.inv.low = true → t.pendingEvent .lowZinc = true)
          ∧ t.inv.drawn = s.inv.drawn ∧ t.inv.added = s.inv.added ∧ t.inv.removed = s.inv.removed
          ∧ t.kli.stateRequest.isSome = true ∧ KeepsTheDip s t)

/-- ADD_ZINC and REMOVE_DROSS (R149, R150): MODE in BOOT and LOADING; a mass out of range or an argument of another length
is BAD_ARG; an accepted mass raises its counter by the full mass, changes M under the clamp, recomputes L, and raises
the STATE request; the epoch pair and the other counters stay, and no event is raised but
LOW_ZINC, and HOLD_BEGIN where a withdrawn reservation begins a hold. -/
def Obligations.ZincCommandsCountTheirMass : Prop :=
  (∀ (s : State) (tail args : List Byte), FrameOpen s tail args → s.online = false →
      exec (.addZinc tail) s = .next (refusedWith .mode s) ∧ exec (.removeDross tail) s = .next (refusedWith .mode s))
    ∧ ∀ (s : State) (tail args : List Byte), FrameOpen s tail args → s.online = true →
      (args.length ≠ 4 ∨ beNat args = 0 ∨ 50000 < beNat args → exec (.addZinc tail) s = .next (refusedWith .badArg s))
      ∧ (args.length ≠ 4 ∨ beNat args = 0 ∨ 20000 < beNat args →
          exec (.removeDross tail) s = .next (refusedWith .badArg s))
      ∧ (args.length = 4 → 1 ≤ beNat args → beNat args ≤ 50000 → ∃ t, exec (.addZinc tail) s = .next t
          ∧ t.cpt.response = { code := .ok, data := [] }
          ∧ t.inv.added = s.inv.added + BitVec.ofNat 32 (beNat args)
          ∧ t.inv.mass = min 8000000 (s.inv.mass + beNat args) ∧ t.inv.level = levelOf s.settings.area t.inv.mass
          ∧ t.inv.drawn = s.inv.drawn ∧ t.inv.removed = s.inv.removed
          ∧ t.inv.epoch = s.inv.epoch ∧ t.inv.origin = s.inv.origin
          ∧ (∀ e, e ≠ .lowZinc → e ≠ .holdBegin → t.pendingEvent e = s.pendingEvent e)
          ∧ t.kli.stateRequest.isSome = true ∧ KeepsTheDip s t)
      ∧ (args.length = 4 → 1 ≤ beNat args → beNat args ≤ 20000 → ∃ t, exec (.removeDross tail) s = .next t
          ∧ t.cpt.response = { code := .ok, data := [] }
          ∧ t.inv.removed = s.inv.removed + BitVec.ofNat 32 (beNat args)
          ∧ t.inv.mass = min 8000000 (s.inv.mass - beNat args) ∧ t.inv.level = levelOf s.settings.area t.inv.mass
          ∧ t.inv.drawn = s.inv.drawn ∧ t.inv.added = s.inv.added
          ∧ t.inv.epoch = s.inv.epoch ∧ t.inv.origin = s.inv.origin
          ∧ (∀ e, e ≠ .lowZinc → e ≠ .holdBegin → t.pendingEvent e = s.pendingEvent e)
          ∧ t.kli.stateRequest.isSome = true ∧ KeepsTheDip s t)

/-- The own epoch pair never decreases in the order of R153, whatever command is taken, but at hardware reset and at
the load that follows it. -/
def Obligations.EpochPairNeverDecreases : Prop :=
  ∀ (c : Instr) (s t : State), c ≠ .hardwareReset → c ≠ .validationEnd → exec c s = .next t →
    pairGreater s.inv.epoch s.inv.origin t.inv.epoch t.inv.origin = false

/-- The registers named here, and only by the commands named for each, change, hardware reset apart: the clock (R1), the
configuration (R48), the own counters (R149), the enables (R195), the captured and the held response (R185), the load
(R189 to R193), the mode (R188), the hook height (R73), the filtered levels (R71), the attempt and its counts (R118,
R122), the peer table (R133), the stillness window (R90), the job queue (R20). The queue of waiting commands is no
command's (log 3). -/
def Obligations.NamedRegistersHaveTheirCauses : Prop :=
  ∀ (c : Instr) (s t : State), c ≠ .hardwareReset → exec c s = .next t →
    (t.inv.added = s.inv.added ∨ ∃ tail, c = .addZinc tail)
      ∧ (t.inv.removed = s.inv.removed ∨ ∃ tail, c = .removeDross tail)
      ∧ (t.inv.drawn = s.inv.drawn
          ∨ ∃ r, t.acu.log = s.acu.log ++ [r] ∧ t.inv.drawn = s.inv.drawn + BitVec.ofNat 32 r.drawn)
      ∧ (t.sck = s.sck ∨ c = .stationClockTick)
      ∧ (t.cfs = s.cfs ∨ c = .validationEnd)
      ∧ (t.cpt.enables = s.cpt.enables ∨ ∃ tail, c = .setEventEnable tail)
      ∧ (t.cpt.captured = s.cpt.captured ∨ c = .csnFallingEdge)
      ∧ (t.cpt.response = s.cpt.response ∨ (encodeFrame c).isSome = true ∨ c = .validationEnd)
      ∧ (t.cpt.load = s.cpt.load ∨ c = .validationEnd ∨ c = .loadTimerExpiry
          ∨ ∃ tail, c = .loadBegin tail ∨ c = .loadData tail)
      ∧ (t.cpt.mode = s.cpt.mode ∨ c = .validationEnd ∨ c = .loadTimerExpiry ∨ c = .listenTimerExpiry
          ∨ c = .restartTimerExpiry ∨ (∃ tail, c = .loadBegin tail) ∨ ∃ bytes spoiled, c = .noticeEnd bytes spoiled)
      ∧ (t.hif.hook = s.hif.hook ∧ t.hif.hookValid = s.hif.hookValid ∧ t.hif.readFailures = s.hif.readFailures
          ∨ ∃ start height parity, c = .encoderRead start height parity)
      ∧ (∀ i, t.inputLevel i = s.inputLevel i ∨ ∃ a b, c = .firstFilteredLevel i a b
          ∨ (i = .driveReady ∧ c = .driveReadyEdge a b) ∨ (i = .driveFault ∧ c = .driveFaultEdge a b)
          ∨ (i = .halt ∧ c = .haltEdge a b) ∨ (i = .t0 ∧ c = .triggerEdge .t0 a b) ∨ (i = .t1 ∧ c = .triggerEdge .t1 a b))
      ∧ (t.kli.attempt = s.kli.attempt ∨ c = .transmitAttemptStart ∨ c = .restartTimerExpiry
          ∨ (∃ n dominant, c = .bitReadBackMismatch n dominant) ∨ ∃ bytes spoiled, c = .noticeEnd bytes spoiled)
      ∧ (t.kli.failures = s.kli.failures
          ∨ (∃ n dominant, c = .bitReadBackMismatch n dominant) ∨ ∃ bytes spoiled, c = .noticeEnd bytes spoiled)
      ∧ (t.kli.discards = s.kli.discards ∧ t.kli.hunting = s.kli.hunting
          ∨ ∃ bytes spoiled, c = .noticeEnd bytes spoiled)
      ∧ (t.peers = s.peers ∨ c = .validationEnd ∨ c = .restartTimerExpiry ∨ (∃ i, c = .peerAgeing i)
          ∨ (∃ tail, c = .forgetPeer tail) ∨ ∃ bytes spoiled, c = .noticeEnd bytes spoiled)
      ∧ (t.wgu.window = s.wgu.window ∨ ∃ raw, c = .rawSample raw)
      ∧ (t.dcc.queue = s.dcc.queue ∨ c = .jobStart ∨ c = .restartTimerExpiry
          ∨ (∃ tail, c = .dip tail ∨ c = .cancelJob tail) ∨ ∃ bytes spoiled, c = .noticeEnd bytes spoiled)
      ∧ t.pending = s.pending

/-- Hardware reset apart, only JOB_START leaves IDLE and only RECOVER leaves FAULT (R24, R26, R44, R45), and the mode
LISTEN is entered only from a validation or from RESTART, READY only from LISTEN (R188). `SgxWf` is part of `CycleWf`,
which every step keeps. -/
def Obligations.IdleFaultAndModesAreLeftOnlySo : Prop :=
  ∀ (c : Instr) (s t : State), c ≠ .hardwareReset → exec c s = .next t →
    (SgxWf s → s.dcc.stage = .idle → t.dcc.stage = .idle ∨ c = .jobStart)
      ∧ (SgxWf s → s.dcc.stage = .fault → t.dcc.stage = .fault ∨ ∃ tail, c = .recover tail)
      ∧ (t.cpt.mode = .ready → s.cpt.mode = .ready ∨ (s.cpt.mode = .listen ∧ c = .listenTimerExpiry))
      ∧ (t.cpt.mode = .listen → s.cpt.mode = .listen ∨ (s.cpt.validating = true ∧ c = .validationEnd)
          ∨ s.cpt.restartPending = true)

/-! ### The dip log and the record (R100 to R113) -/

/-- READ_RECORD (R110): the oldest record leaves the log and is returned in 49 bytes; EMPTY where there is none.
PEEK_RECORD (R111): the oldest record is returned and the log is not changed, with the same refusals; a PEEK_RECORD in
any state with the same log returns the same record. -/
def Obligations.RecordsAreReadAndPeeked : Prop :=
  (∀ (s : State) (tail args : List Byte), FrameOpen s tail args →
    (s.online = false → exec (.readRecord tail) s = .next (refusedWith .mode s))
      ∧ (s.online = true → args ≠ [] → exec (.readRecord tail) s = .next (refusedWith .badArg s))
      ∧ (s.online = true → args = [] → s.acu.log = [] → exec (.readRecord tail) s = .next (refusedWith .empty s))
      ∧ ∀ r rest, s.online = true → args = [] → s.acu.log = r :: rest →
          exec (.readRecord tail) s = .next (drivePins
            { s with
              cpt := { s.cpt with response := { code := .ok, data := recordBytes r } }
              acu := { s.acu with log := rest } })
          ∧ (recordBytes r).length = 49)
    ∧ (∀ (s : State) (tail args : List Byte), FrameOpen s tail args →
    (s.online = false → exec (.peekRecord tail) s = .next (refusedWith .mode s))
      ∧ (s.online = true → args ≠ [] → exec (.peekRecord tail) s = .next (refusedWith .badArg s))
      ∧ (s.online = true → args = [] → s.acu.log = [] → exec (.peekRecord tail) s = .next (refusedWith .empty s))
      ∧ ∀ r rest, s.online = true → args = [] → s.acu.log = r :: rest →
          ∃ t, exec (.peekRecord tail) s = .next t
            ∧ t = drivePins { s with cpt := { s.cpt with response := { code := .ok, data := recordBytes r } } }
            ∧ (recordBytes r).length = 49
            ∧ ∀ (u : State) (tail' : List Byte), FrameOpen u tail' [] → u.online = true → u.acu.log = s.acu.log →
                ∃ v, exec (.peekRecord tail') u = .next v ∧ v.cpt.response = t.cpt.response)

/-- The store of a record (R102, R104, R106, R107, R108, R109): the record joins the tail with the next sequence number, the
slot is freed, RECORD_STORED is raised, LOG_FULL where the log then holds 32 records and not else, and the drawn counter
rises by the record's drawn mass. What the dip brings to its record: its job, its start, its weights, its flags, its hold
time, and the immersion time, to surface clear or, where that was not seen, to the store; absent without an immersion
start. The zinc figures of a record (R18, R19, R105): drawn and NEG_DRAW, drip-back and NEG_DRIP, pickup. -/
def Obligations.StoreKeepsTheAccount : Prop :=
  (∀ (s : State) (d : Dip), s.dcc.active = some d →
      (storeDip s).acu.log = s.acu.log ++ [recordOf s d] ∧ (storeDip s).acu.reserved = false
        ∧ (storeDip s).acu.nextSeq = s.acu.nextSeq + 1
        ∧ (recordOf s d).seq = s.acu.nextSeq ∧ (recordOf s d).epoch = s.inv.epoch ∧ (recordOf s d).station = s.ownNumber
        ∧ (storeDip s).pendingEvent .recordStored = true
        ∧ (s.acu.log.length + 1 = 32 → (storeDip s).pendingEvent .logFull = true)
        ∧ (s.acu.log.length + 1 ≠ 32 → (storeDip s).pendingEvent .logFull = s.pendingEvent .logFull)
        ∧ (recordOf s d).jobId = d.job.id ∧ (recordOf s d).recipe = d.job.recipe ∧ (recordOf s d).startTime = d.startTime
        ∧ (recordOf s d).dry = d.dry ∧ (recordOf s d).exitWeight = d.exitWeight ∧ (recordOf s d).drained = d.drained
        ∧ (recordOf s d).steel = d.steel ∧ (recordOf s d).flags = d.flags ∧ (recordOf s d).holdTime = d.holdTime
        ∧ (d.immersionStart = none → (recordOf s d).immersion = none)
        ∧ (∀ start stop, d.immersionStart = some start → d.immersionEnd = some stop →
            (recordOf s d).immersion = some (stop - start))
        ∧ (∀ start, d.immersionStart = some start → d.immersionEnd = none →
            (recordOf s d).immersion = some (s.sck - start))
        ∧ (storeDip s).inv.drawn = s.inv.drawn + BitVec.ofNat 32 (recordOf s d).drawn
        ∧ (storeDip s).inv.mass = min 8000000 (s.inv.mass - (recordOf s d).drawn)
        ∧ (storeDip s).inv.epoch = s.inv.epoch
        ∧ (d.flags.faulted = true → ∀ st, d.faultStage = some st → (recordOf s d).endStage = st)
        ∧ (d.flags.faulted = false → d.flags.aborted = true → ∀ st, d.abortStage = some st → (recordOf s d).endStage = st)
        ∧ (d.flags.faulted = false → d.flags.aborted = false → (recordOf s d).endStage = .depart)
        ∧ ((recordOf s d).faultCode.isSome = d.flags.faulted))
    ∧ ((∀ dry drained : Nat, drawnOf (some dry) (some drained) = (drained - dry, decide (drained < dry)))
      ∧ (∀ dry drained : Option Nat, dry = none ∨ drained = none → drawnOf dry drained = (0, false))
      ∧ (∀ exitW drained : Nat, dripBackOf (some exitW) (some drained) = (some (exitW - drained), decide (exitW < drained)))
      ∧ (∀ exitW drained : Option Nat, exitW = none ∨ drained = none → dripBackOf exitW drained = (none, false))
      ∧ (∀ dry drained steel : Nat, 0 < steel →
          pickupOf (some dry) (some drained) (some steel) = some ((drained - dry) * 1000 / steel))
      ∧ (∀ dry drained steel : Option Nat, dry = none ∨ drained = none ∨ steel = none ∨ steel = some 0 →
          pickupOf dry drained steel = none))

/-! ### Jobs and the dip cycle (R20 to R47) -/

/-- DIP, check by check in the order of R21; that a pending RESTART comes before the length, which R187 puts first, is
the model's reading (log 16). CANCEL_JOB (R23): a length other than 4 is BAD_ARG; a queued job is removed and the others
keep their order; the active job is ACTIVE; else NO_SUCH_JOB. -/
def Obligations.JobsAreQueuedAndCancelled : Prop :=
  (∀ (s : State) (tail args : List Byte), FrameOpen s tail args → s.online = true →
      exec (.dip tail) s =
        if s.cpt.restartPending = true then .next (refusedWith .mode s)
        else if args.length ≠ 13 ∨ jobInRange s.settings.zoneCount (jobOfArgs args) = false then .next (refusedWith .badArg s)
        else match headOf s.settings (jobOfArgs args).recipe with
          | none => .next (refusedWith .noRecipe s)
          | some head =>
            if (jobOfArgs args).id ∈ s.jobIds then .next (refusedWith .duplicateJob s)
            else if 4 ≤ s.dcc.queue.length then .next (refusedWith .queueFull s)
            else if ∃ seg ∈ recipeSegments s.settings head, absoluteOutside s.settings (jobOfArgs args).hang seg = true then
              .next (refusedWith .outOfBounds s)
            else .next (drivePins
              { s with
                cpt := { s.cpt with response := { code := .ok, data := [BitVec.ofNat 8 (s.dcc.queue.length + 1)] } }
                dcc := { s.dcc with queue := s.dcc.queue ++ [jobOfArgs args] } }))
    ∧ (∀ (s : State) (tail args : List Byte) (id : Word), FrameOpen s tail args → s.online = true → args.length = 4 →
      BitVec.ofNat 32 (beNat args) = id →
      ((∃ j ∈ s.dcc.queue, j.id = id) → exec (.cancelJob tail) s = .next (drivePins
          { s with
            cpt := { s.cpt with response := { code := .ok, data := [] } }
            dcc := { s.dcc with queue := s.dcc.queue.filter fun j => decide (j.id ≠ id) } }))
        ∧ ((∀ j ∈ s.dcc.queue, j.id ≠ id) → (∃ d, s.dcc.active = some d ∧ d.job.id = id) →
            exec (.cancelJob tail) s = .next (refusedWith .active s))
        ∧ ((∀ j ∈ s.dcc.queue, j.id ≠ id) → (∀ d, s.dcc.active = some d → d.job.id ≠ id) →
            exec (.cancelJob tail) s = .next (refusedWith .noSuchJob s)))
    ∧ (∀ (s : State) (tail args : List Byte), FrameOpen s tail args →
      (s.online = false → exec (.cancelJob tail) s = .next (refusedWith .mode s))
        ∧ (s.online = true → args.length ≠ 4 → exec (.cancelJob tail) s = .next (refusedWith .badArg s)))

/-- JOB_START (R24, R27, R101): where every start condition holds, the head job becomes the active job of a dip with
clear flags, its slot is reserved, and the dip enters WEIGH_DRY with a weigh operation in progress, in AVERAGING where the
window as it stands is still, else in SETTLING, its settle timer at 0 and its list empty (R92); or FAULT with code
DRIVE_FAULT before ENCODER, the job active all the same, its dip FAULTED in WEIGH_DRY. That a JOB_START while a start
condition fails changes nothing is the model's reading of a job that starts by itself (log 4). -/
def Obligations.JobStartTakesTheHead : Prop :=
  (∀ s : State, s.dcc.queue = [] ∨ s.mayStart = false → exec .jobStart s = .next s)
    ∧ (∀ s : State, s.mayStart = true ↔ (s.cpt.mode = .ready ∧ s.dcc.stage = .idle ∧ s.acu.log.length < 32
        ∧ s.driveReady = true ∧ s.cpt.restartPending = false))
    ∧ (∀ (s : State) (j : Job) (rest : List Job), s.dcc.queue = j :: rest → s.mayStart = true →
        ∃ t, exec .jobStart s = .next t
          ∧ t.dcc.queue = rest ∧ t.acu = { s.acu with reserved := true }
          ∧ t.inv = s.inv ∧ t.zcu.claim = s.zcu.claim ∧ t.adm = s.adm ∧ t.peers = s.peers ∧ t.sck = s.sck
          ∧ (s.driveFault = false → s.hif.hookValid = true →
              t.dcc.stage = .weighDry ∧ t.dcc.active = some (newDip j s.sck s.lineLost)
              ∧ t.wgu = { s.wgu with op := some ⟨if s.still = true then .averaging else .settling, 0, []⟩ }
              ∧ t.dcc.faultCode = s.dcc.faultCode)
          ∧ (s.driveFault = true → t.dcc.stage = .fault ∧ t.dcc.faultCode = .driveFault)
          ∧ (s.driveFault = false → s.hif.hookValid = false → t.dcc.stage = .fault ∧ t.dcc.faultCode = .encoder)
          ∧ (s.driveFault = true ∨ s.hif.hookValid = false → t.dcc.secondFaults = 0 ∧ t.wgu.op = none
              ∧ t.pendingEvent .fault = true
              ∧ t.dcc.active = some { newDip j s.sck s.lineLost with
                  holdTime := holdTimeAfter s.dcc.hold (newDip j s.sck s.lineLost), faultStage := some .weighDry
                  flags := { (newDip j s.sck s.lineLost).flags with faulted := true } }))

/-- ABORT_DIP (R39): its refusals in their order, and what an accepted abort does in WITHDRAW and WEIGH_EXIT (the dip
goes on) and in the stages whose segments it cuts short or leaves (R40 to R42, R63), the rest in
`AbortCutsTheDipShort`. -/
def Obligations.AbortDipIsAnswered : Prop :=
  ∀ (s : State) (tail : List Byte), FrameOpen s tail [] → s.online = true →
    (s.dcc.active = none → exec (.abortDip tail) s = .next (refusedWith .noJob s))
      ∧ ∀ d, s.dcc.active = some d →
        (s.dcc.stage = .fault → exec (.abortDip tail) s = .next (refusedWith .mode s))
        ∧ (s.dcc.stage ≠ .fault → d.abortPending = true → exec (.abortDip tail) s = .next (refusedWith .already s))
        ∧ (d.abortPending = false → s.dcc.stage = .weighDrained ∨ s.dcc.stage = .depart ∨ s.dcc.stage = .release →
            exec (.abortDip tail) s = .next (refusedWith .late s))
        ∧ (d.abortPending = false → s.dcc.stage = .withdraw ∨ s.dcc.stage = .weighExit →
            exec (.abortDip tail) s = .next (drivePins (respond .ok [] (markAbort s))))
        ∧ (d.abortPending = false → s.dcc.stage = .approach →
            exec (.abortDip tail) s
              = .next (drivePins (respond .ok [] (enterMotion .depart (endHold (dropSegment (markAbort s)))))))
        ∧ (d.abortPending = false → s.dcc.stage = .admitting →
            exec (.abortDip tail) s
              = .next (drivePins (respond .ok [] (enterMotion .depart (raiseState (releaseResv (endHold (markAbort s))))))))
        ∧ (d.abortPending = false → s.dcc.stage = .immerse ∨ s.dcc.stage = .soak →
            exec (.abortDip tail) s
              = .next (drivePins (respond .ok [] (enterMotion .withdraw (dropSegment (markAbort s))))))

/-- An abort accepted in WEIGH_DRY or CLAIM ends the dip at once (R40, R34): the claim and the reservation are
released, the record of the aborted dip is stored, a hold in effect ending with its length added to the hold time (R36,
R104), and the stage is IDLE. An abort accepted in DRAIN ends the segment at once and requests the drained weighing (R42,
R63, R92). -/
def Obligations.AbortCutsTheDipShort : Prop :=
  (∀ (s : State) (tail : List Byte) (d : Dip), FrameOpen s tail [] → s.online = true → s.dcc.active = some d →
      d.abortPending = false → d.flags.faulted = false → s.dcc.stage = .weighDry ∨ s.dcc.stage = .claim →
      ∃ t r, exec (.abortDip tail) s = .next t ∧ t.cpt.response = { code := .ok, data := [] }
        ∧ t.dcc.stage = .idle ∧ t.dcc.active = none ∧ t.dcc.hold = none ∧ t.dcc.queue = s.dcc.queue
        ∧ t.zcu = { claim := .none, mask := 0, conflict := false, yielding := false }
        ∧ t.adm.resv = .none ∧ t.adm.full = 0 ∧ t.adm.actual = 0
        ∧ t.sgx.cursor = .none ∧ t.sgx.stage = none ∧ t.sgx.m0.high = false ∧ t.sgx.m1.high = false
        ∧ t.acu.log = s.acu.log ++ [r] ∧ t.acu.reserved = false
        ∧ r.jobId = d.job.id ∧ r.flags.aborted = true ∧ r.endStage = s.dcc.stage ∧ r.dry = d.dry ∧ r.steel = d.steel
        ∧ r.holdTime = holdTimeAfter s.dcc.hold d
        ∧ t.pendingEvent .dipDone = true ∧ t.pendingEvent .recordStored = true
        ∧ (s.dcc.stage = .weighDry → t.wgu.op = none) ∧ t.wgu.window = s.wgu.window ∧ t.peers = s.peers)
    ∧ (∀ (s : State) (tail : List Byte) (d : Dip), FrameOpen s tail [] → s.online = true → s.dcc.active = some d →
      d.abortPending = false → s.dcc.stage = .drain →
      ∃ t, exec (.abortDip tail) s = .next t ∧ t.cpt.response = { code := .ok, data := [] }
        ∧ t.dcc.stage = .weighDrained ∧ t.sgx.current = none ∧ t.sgx.cursor = s.sgx.cursor ∧ t.hif.speed = 0
        ∧ t.wgu = { s.wgu with op := some ⟨if s.still = true then .averaging else .settling, 0, []⟩ }
        ∧ t.dcc.active = some { d with
            abortPending := true, abortStage := some .drain, flags := { d.flags with aborted := true } }
        ∧ t.zcu.claim = s.zcu.claim ∧ t.adm = s.adm ∧ t.inv = s.inv ∧ t.acu = s.acu ∧ t.peers = s.peers)

/-- RECOVER (R45, R46): BAD_ARG for another length or force flag, MODE outside FAULT, NOT_CLEAR without force where
the hook is not known to be clear; otherwise the dip ends, its record is stored with the stage of the fault, and the
fault code returns to NONE while the second-fault count is kept. -/
def Obligations.RecoverEndsTheFaultedDip : Prop :=
  ∀ (s : State) (tail args : List Byte), FrameOpen s tail args → s.online = true →
    (args.length ≠ 1 ∨ 1 < beNat args → exec (.recover tail) s = .next (refusedWith .badArg s))
      ∧ (args.length = 1 → beNat args ≤ 1 → s.dcc.stage ≠ .fault → exec (.recover tail) s = .next (refusedWith .mode s))
      ∧ (args.length = 1 → beNat args = 0 → s.dcc.stage = .fault →
          (s.hif.hookValid = false ∨ loadBottom s.hif.hook s.hang < (s.settings.safeHeight : Int)) →
          exec (.recover tail) s = .next (refusedWith .notClear s))
      ∧ ∀ d, args.length = 1 → s.dcc.stage = .fault → s.dcc.active = some d →
          (beNat args = 1 ∨ (beNat args = 0 ∧ s.hif.hookValid = true
            ∧ (s.settings.safeHeight : Int) ≤ loadBottom s.hif.hook s.hang)) →
          ∃ t, exec (.recover tail) s = .next t ∧ t.cpt.response = { code := .ok, data := [] }
            ∧ t.dcc.stage = .idle ∧ t.dcc.active = none ∧ t.dcc.faultCode = .none
            ∧ t.dcc.secondFaults = s.dcc.secondFaults ∧ t.dcc.queue = s.dcc.queue
            ∧ t.zcu = { claim := .none, mask := 0, conflict := false, yielding := false }
            ∧ t.adm.resv = .none ∧ t.adm.full = 0 ∧ t.adm.actual = 0 ∧ t.adm.surface = t.adm.without
            ∧ t.acu.log = s.acu.log ++ [recordOf s d] ∧ t.acu.reserved = false
            ∧ t.pendingEvent .dipDone = true ∧ t.pendingEvent .recordStored = true
            ∧ t.wgu = s.wgu ∧ t.peers = s.peers ∧ t.cfs = s.cfs

/-! ### Faults (R43, R44, R75, R80, R82, R83) -/

/-- A fault cause by the stage it meets (R43, R44, R75, R80, R83). From WEIGH_DRY through DEPART the four arrivals enter
FAULT, each with its code, a hold in effect ending with its length added to the dip's hold time (R36, R104): the motion limit exceeded while halt is negated and drive-ready asserted, DRIVE_LOST, a new
assertion of drive-fault, a third failed read. In FAULT a new assertion of drive-fault or a new third failed read raises
the second-fault count, saturating, and leaves the stored code. In IDLE neither does anything to the dip: the level is
taken, and the third failed read makes the height invalid. The negation of drive-fault changes its level only. -/
def Obligations.FaultCausesActByStage : Prop :=
  (∀ s : State, s.dcc.stage.faults = true →
    (∀ m, s.hif.motion = some m → m.limit < m.count → s.haltAsserted = false → s.driveReady = true →
        ∃ t, exec .motionLimitExpiry s = .next t ∧ EnteredFault .motionTimeout s t)
      ∧ (∀ n, s.hif.driveLost = some n → 2000 < n →
        ∃ t, exec .driveLostExpiry s = .next t ∧ EnteredFault .driveLost s t)
      ∧ (s.hif.driveFault = some false →
        ∃ t, exec (.driveFaultEdge true true) s = .next t ∧ EnteredFault .driveFault s t ∧ t.hif.driveFault = some true)
      ∧ (∀ start height parity, goodRead start height parity = false → s.hif.readFailures = 2 →
        ∃ t, exec (.encoderRead start height parity) s = .next t ∧ EnteredFault .encoder s t
          ∧ t.hif.hook = s.hif.hook ∧ t.hif.hookValid = false ∧ t.hif.readFailures = 3))
    ∧ (∀ s : State, s.dcc.stage = .fault →
      (s.hif.driveFault = some false →
        exec (.driveFaultEdge true true) s = .next (drivePins
          { s with
            hif := { s.hif with driveFault := some true }
            dcc := { s.dcc with secondFaults := min 255 (s.dcc.secondFaults + 1) } }))
      ∧ (∀ start height parity, goodRead start height parity = false → s.hif.readFailures = 2 →
        exec (.encoderRead start height parity) s = .next (drivePins
          { s with
            hif := { s.hif with hookValid := false, readFailures := 3 }
            dcc := { s.dcc with secondFaults := min 255 (s.dcc.secondFaults + 1) } })))
    ∧ (∀ s : State, s.dcc.stage = .idle →
      (s.hif.driveFault = some false →
        exec (.driveFaultEdge true true) s = .next (drivePins { s with hif := { s.hif with driveFault := some true } }))
      ∧ (∀ start height parity, goodRead start height parity = false → s.hif.readFailures = 2 →
        exec (.encoderRead start height parity) s = .next (drivePins
          { s with hif := { s.hif with hookValid := false, readFailures := 3 } })))
    ∧ ∀ s : State, s.hif.driveFault = some true →
        exec (.driveFaultEdge false false) s = .next (drivePins { s with hif := { s.hif with driveFault := some false } })

/-! ### The hoist (R71 to R86) -/

/-- Edges and expiries at the hoist. What is no edge changes nothing (R71): samples that differ, samples that agree with the
filtered level; for an input whose level is not yet set there is no edge but a first level, and for one whose level is set
no first level (the two rows are told apart so by the model, log 10). An expiry row that is not due, its timer stopped or
within its limit, or, for the motion limit, with halt asserted or drive-ready negated (R80), changes nothing (the model's
choice, log 2). The edges of halt and of drive-ready (R80 to R82): the level is taken, the speed command follows; at the
assertion of halt and at the falling edge of drive-ready the motion limit count stands short of expiry; the falling edge
of drive-ready starts the DRIVE_LOST timer where a motion segment is running and the rising edge discards it; nothing else
changes. While halt is asserted or drive-ready negated the speed command is 0. -/
def Obligations.EdgesAndExpiriesActWhenDue : Prop :=
  (∀ (s : State) (a b : Bool),
    (a ≠ b ∨ s.hif.driveReady = some b ∨ s.hif.driveReady = none → exec (.driveReadyEdge a b) s = .next s)
      ∧ (a ≠ b ∨ s.hif.driveFault = some b ∨ s.hif.driveFault = none → exec (.driveFaultEdge a b) s = .next s)
      ∧ (a ≠ b ∨ s.hif.halt = some b ∨ s.hif.halt = none → exec (.haltEdge a b) s = .next s)
      ∧ (∀ i, a ≠ b ∨ s.triggerLevel i = some b ∨ s.triggerLevel i = none → exec (.triggerEdge i a b) s = .next s)
      ∧ (∀ i, a ≠ b ∨ s.inputLevel i ≠ none → exec (.firstFilteredLevel i a b) s = .next s))
    ∧ (∀ s : State,
      (s.hif.motion = none ∨ s.haltAsserted = true ∨ s.driveReady = false → exec .motionLimitExpiry s = .next s)
        ∧ (∀ m, s.hif.motion = some m → m.count ≤ m.limit → exec .motionLimitExpiry s = .next s)
        ∧ (s.hif.driveLost = none → exec .driveLostExpiry s = .next s)
        ∧ (∀ n, s.hif.driveLost = some n → n ≤ 2000 → exec .driveLostExpiry s = .next s))
    ∧ ∀ s : State,
      (s.hif.halt = some false →
        exec (.haltEdge true true) s = .next (drivePins { s with hif := { s.hif with halt := some true } }))
      ∧ (s.hif.halt = some true →
        exec (.haltEdge false false) s = .next (drivePins { s with hif := { s.hif with
          halt := some false, motion := s.hif.motion.map fun m => { m with count := min m.count m.limit } } })
        ∧ ∀ h : Hif, h.halt = some false → ({ s with hif := h } : State).speedCommand = 0)
      ∧ (s.hif.driveReady = some true →
        exec (.driveReadyEdge false false) s = .next (drivePins { s with hif := { s.hif with
          driveReady := some false, driveLost := if s.leg.isSome = true then some 0 else none
          motion := s.hif.motion.map fun m => { m with count := min m.count m.limit } } })
        ∧ ∀ h : Hif, h.driveReady = some false → ({ s with hif := h } : State).speedCommand = 0)
      ∧ (s.hif.driveReady = some false →
        exec (.driveReadyEdge true true) s = .next (drivePins
          { s with hif := { s.hif with driveReady := some true, driveLost := none } }))

/-- An edge of a trigger input sets its mark and level and raises its event by the configured event edge in LISTEN and
READY; it ends a WAIT_INPUT on that input for that kind of edge (R84, R85), and otherwise changes nothing else. The
first agreeing samples of an input set its level with nothing beside it (R71). -/
def Obligations.TriggerEdgesAreLatched : Prop :=
  (∀ (s : State) (input : Trigger) (level : Bool), s.triggerLevel input = some (!level) →
      (∀ edge, s.sgx.current = some (.wait input edge) → edgeTakes edge level = false) →
      exec (.triggerEdge input level level) s
        = .next (drivePins (raiseTrigger input level (latchEdge input level s))))
    ∧ (∀ (s : State) (input : Trigger) (level : Bool) (edge : EdgeChoice), s.triggerLevel input = some (!level) →
        s.sgx.current = some (.wait input edge) → edgeTakes edge level = true →
        exec (.triggerEdge input level level) s
          = .next (drivePins (endSegment (raiseTrigger input level (latchEdge input level s)))))
    ∧ (∀ (s : State) (level : Bool),
        (latchEdge .t0 level s).hif = { s.hif with
            t0 := some level
            latch0 := { rising := s.hif.latch0.rising || level, falling := s.hif.latch0.falling || !level } }
        ∧ (latchEdge .t1 level s).hif = { s.hif with
            t1 := some level
            latch1 := { rising := s.hif.latch1.rising || level, falling := s.hif.latch1.falling || !level } })
    ∧ (∀ (s : State) (input : Trigger) (level : Bool) (e : Event),
        (raiseTrigger input level s).pendingEvent e = (s.pendingEvent e
          || (decide (e = triggerEvent input) && s.online && eventTakes (s.eventEdge input) level)))
    ∧ ∀ (s : State) (input : DiscreteInput) (level : Bool), s.inputLevel input = none →
        ∃ t, exec (.firstFilteredLevel input level level) s = .next t ∧ t.inputLevel input = some level
          ∧ (∀ other, other ≠ input → t.inputLevel other = s.inputLevel other)
          ∧ t.hif.latch0 = s.hif.latch0 ∧ t.hif.latch1 = s.hif.latch1 ∧ t.cpt.events = s.cpt.events ∧ t.dcc = s.dcc
          ∧ KeepsTheDip s t

/-- The speed command (R76, R77): 0 unless the mode is READY, the stage moves, halt is negated, drive-ready is
asserted and a leg is running; then the leg speed beyond the slow band and the lesser of creep and leg speed within
it, toward the hook target. Its magnitude never exceeds the leg speed. -/
def Obligations.SpeedCommandOfALeg : Prop :=
  (∀ s : State, s.cpt.mode ≠ .ready ∨ s.dcc.stage.moves = false ∨ s.haltAsserted = true ∨ s.driveReady = false
      ∨ s.leg = none → s.speedCommand = 0)
    ∧ (∀ (s : State) (target speed : Nat), s.cpt.mode = .ready → s.dcc.stage.moves = true → s.haltAsserted = false →
        s.driveReady = true → s.leg = some (target, speed) →
        (s.hif.hook + s.settings.slowBand < target → s.speedCommand = (speed : Int))
        ∧ (target + s.settings.slowBand < s.hif.hook → s.speedCommand = -(speed : Int))
        ∧ (s.hif.hook < target → target ≤ s.hif.hook + s.settings.slowBand →
            s.speedCommand = (min s.settings.creepSpeed speed : Nat))
        ∧ (target < s.hif.hook → s.hif.hook ≤ target + s.settings.slowBand →
            s.speedCommand = -((min s.settings.creepSpeed speed : Nat) : Int))
        ∧ s.speedCommand.natAbs ≤ speed)

/-- ENCODER_READ where no leg runs (R33, R72 to R74, R181, R182): a good read becomes the valid height, the own actual
displacement and the surface estimate are formed from it, the immersion start is recorded in IMMERSE, and surface
clear drops the reservation and is the immersion end; whichever block acts first (log 5). A failed read short of the
third changes the count only. -/
def Obligations.EncoderReadMovesTheFigures : Prop :=
  (∀ (s : State) (height : BitVec 16) (parity : Bool) (d : Dip), goodRead false height parity = true → s.leg = none →
      s.dcc.active = some d → d.steel.isSome = true →
      ∃ t e, exec (.encoderRead false height parity) s = .next t
        ∧ t.hif.hook = height.toNat ∧ t.hif.hookValid = true ∧ t.hif.readFailures = 0
        ∧ t.adm.actual = ownDisplacement s.adm.full
            (immersedDepth s.adm.without height.toNat d.job.hang d.job.height) d.job.height
        ∧ t.adm.surface = surfaceEstimate s.adm.without t.adm.actual
        ∧ t.adm.without = s.adm.without ∧ t.adm.full = s.adm.full
        ∧ t.dcc.active = some e ∧ e.job = d.job
        ∧ e.immersionStart = (if s.dcc.stage = .immerse ∧ d.immersionStart = none
              ∧ belowSurface s.adm.without height.toNat d.job.hang = true then some s.sck else d.immersionStart)
        ∧ (s.adm.resv = .admitted → s.dcc.stage.testsClear = true →
            surfaceClear s.adm.without height.toNat d.job.hang s.settings.exitClearance = true →
            t.adm.resv = .none ∧ e.immersionEnd = some (d.immersionEnd.getD s.sck))
        ∧ (s.adm.resv ≠ .admitted ∨ s.dcc.stage.testsClear = false
            ∨ surfaceClear s.adm.without height.toNat d.job.hang s.settings.exitClearance = false →
            t.adm.resv = s.adm.resv ∧ e.immersionEnd = d.immersionEnd)
        ∧ t.dcc.stage = s.dcc.stage ∧ t.dcc.queue = s.dcc.queue ∧ t.sgx = s.sgx ∧ t.zcu = s.zcu ∧ t.inv = s.inv
        ∧ t.acu = s.acu ∧ t.wgu = s.wgu ∧ t.peers = s.peers ∧ t.sck = s.sck)
    ∧ (∀ (s : State) (start : Bool) (height : BitVec 16) (parity : Bool), goodRead start height parity = false →
        s.hif.readFailures ≠ 2 →
        ∃ t, exec (.encoderRead start height parity) s = .next t
          ∧ t.hif.hook = s.hif.hook ∧ t.hif.readFailures = min 255 (s.hif.readFailures + 1)
          ∧ t.hif.hookValid = (s.hif.hookValid && decide (s.hif.readFailures < 2))
          ∧ t.dcc = s.dcc ∧ t.adm = s.adm ∧ KeepsTheDip s t)

/-- A MOVE that arrives as the last of WITHDRAW (R32, R54, R58, R182): the cursor stands on a segment of a later phase, or at
the end of a called chain whose return index names one, as a validated recipe has it there (R69). The dip enters
WEIGH_EXIT and its weighing is requested (R92), the cursor on that segment; where the same update shows surface clear of an ADMITTED load, the
reservation falls, the update is the immersion end, and EXIT_WET is not set by this entry, whichever of the ADM and the
SGX acts first (log 5). -/
def Obligations.WithdrawalArrivalIsNotWetWhenClear : Prop :=
  ∀ (s : State) (height : BitVec 16) (parity : Bool) (d : Dip) (frozen : Int) (target speed i : Nat) (seg : Segment),
    goodRead false height parity = true → s.dcc.active = some d → d.immersionEnd = none →
    s.dcc.stage = .withdraw → s.sgx.stage = some .withdraw →
    s.sgx.current = some (.move frozen target speed) →
    s.sgx.cursor = .seg i ∨ (s.sgx.cursor = .chainEnd ∧ s.sgx.returnIndex = some (some i)) →
    segmentAt s.settings i = some seg → seg.phase = .drain ∨ seg.phase = .depart →
    hookDistance height.toNat target ≤ s.settings.arrivalBand → s.adm.resv = .admitted →
    ∃ t e, exec (.encoderRead false height parity) s = .next t
      ∧ t.dcc.stage = .weighExit ∧ t.sgx.current = none ∧ t.sgx.stage = none ∧ t.hif.motion = none ∧ t.hif.speed = 0
      ∧ t.sgx.cursor = .seg i ∧ t.dcc.active = some e
      ∧ t.wgu = { s.wgu with op := some ⟨if s.still = true then .averaging else .settling, 0, []⟩ }
      ∧ (surfaceClear s.adm.without height.toNat d.job.hang s.settings.exitClearance = true →
          t.adm.resv = .none ∧ e.immersionEnd = some s.sck ∧ e.flags.exitWet = d.flags.exitWet)
      ∧ (surfaceClear s.adm.without height.toNat d.job.hang s.settings.exitClearance = false →
          t.adm.resv = .admitted ∧ e.immersionEnd = none ∧ e.flags.exitWet = true)

/-- A hook-height update at a leg, and with no dip to move figures for (R33, R58, R60, R74, R79, R181). A leg whose hook
target is farther than the arrival band goes on as it is, with its motion limit count, while the figures of the load
follow; with no active dip, or before S exists, the ADM's figures stay. The legs of a SHAKE: the first at its lower target
sets the repeat counter and runs up; the up leg at its upper target runs down; the down leg at its lower target lowers the
counter and runs up again, each with a limit and a count of its own. A MOVE that has arrived, a SHAKE whose last down leg
has arrived, and one whose both targets are within the band end, and the DWELL at the cursor starts in the same step;
whichever block acts first (log 5). -/
def Obligations.HookUpdateAtARunningLeg : Prop :=
  ∀ (s : State) (height : BitVec 16) (parity : Bool), goodRead false height parity = true →
    ((∀ target speed, s.leg = some (target, speed) → s.settings.arrivalBand < hookDistance height.toNat target) →
      ∃ t, exec (.encoderRead false height parity) s = .next t
        ∧ t.hif.hook = height.toNat ∧ t.hif.hookValid = true ∧ t.hif.readFailures = 0
        ∧ t.sgx = s.sgx ∧ t.hif.motion = s.hif.motion ∧ t.hif.driveLost = s.hif.driveLost
        ∧ t.dcc.stage = s.dcc.stage ∧ t.dcc.queue = s.dcc.queue ∧ t.zcu = s.zcu ∧ t.inv = s.inv ∧ t.acu = s.acu
        ∧ t.wgu = s.wgu ∧ t.peers = s.peers ∧ t.sck = s.sck ∧ t.adm.without = s.adm.without ∧ t.adm.full = s.adm.full
        ∧ (s.dcc.active = none → t.adm = s.adm ∧ t.dcc = s.dcc ∧ t.kli = s.kli)
        ∧ (∀ d, s.dcc.active = some d → d.steel = none → t.adm.actual = s.adm.actual ∧ t.adm.surface = s.adm.surface)
        ∧ (∀ d, s.dcc.active = some d → d.steel.isSome = true →
            t.adm.actual = ownDisplacement s.adm.full
                (immersedDepth s.adm.without height.toNat d.job.hang d.job.height) d.job.height
            ∧ t.adm.surface = surfaceEstimate s.adm.without t.adm.actual)
        ∧ (∀ d, s.dcc.active = some d → ∃ e, t.dcc.active = some e ∧ e.job = d.job ∧ e.flags = d.flags
            ∧ e.immersionStart = (if s.dcc.stage = .immerse ∧ d.immersionStart = none
                ∧ belowSurface s.adm.without height.toNat d.job.hang = true then some s.sck else d.immersionStart)
            ∧ (s.adm.resv = .admitted → s.dcc.stage.testsClear = true →
                surfaceClear s.adm.without height.toNat d.job.hang s.settings.exitClearance = true →
                t.adm.resv = .none ∧ e.immersionEnd = some (d.immersionEnd.getD s.sck))
            ∧ (s.adm.resv ≠ .admitted ∨ s.dcc.stage.testsClear = false
                ∨ surfaceClear s.adm.without height.toNat d.job.hang s.settings.exitClearance = false →
                t.adm.resv = s.adm.resv ∧ e.immersionEnd = d.immersionEnd)))
    ∧ (∀ frozen lower upper speed count,
      (s.sgx.current = some (.shake frozen lower upper speed count .first) →
        hookDistance height.toNat lower ≤ s.settings.arrivalBand → s.settings.arrivalBand < hookDistance height.toNat upper →
        ∃ t, exec (.encoderRead false height parity) s = .next t ∧ t.dcc.stage = s.dcc.stage
          ∧ t.sgx = { s.sgx with current := some (.shake frozen lower upper speed count .up), repeats := count }
          ∧ t.hif.motion = some { count := 0, limit := (2000 * hookDistance height.toNat upper + speed - 1) / speed + 5000 })
      ∧ (s.sgx.current = some (.shake frozen lower upper speed count .up) →
        hookDistance height.toNat upper ≤ s.settings.arrivalBand → s.settings.arrivalBand < hookDistance height.toNat lower →
        ∃ t, exec (.encoderRead false height parity) s = .next t ∧ t.dcc.stage = s.dcc.stage
          ∧ t.sgx = { s.sgx with current := some (.shake frozen lower upper speed count .down) }
          ∧ t.hif.motion = some { count := 0, limit := (2000 * hookDistance height.toNat lower + speed - 1) / speed + 5000 })
      ∧ (s.sgx.current = some (.shake frozen lower upper speed count .down) → 2 ≤ s.sgx.repeats →
        hookDistance height.toNat lower ≤ s.settings.arrivalBand → s.settings.arrivalBand < hookDistance height.toNat upper →
        ∃ t, exec (.encoderRead false height parity) s = .next t ∧ t.dcc.stage = s.dcc.stage
          ∧ t.sgx = { s.sgx with
              current := some (.shake frozen lower upper speed count .up), repeats := s.sgx.repeats - 1 }
          ∧ t.hif.motion = some { count := 0, limit := (2000 * hookDistance height.toNat upper + speed - 1) / speed + 5000 }))
    ∧ ∀ p i seg time, s.sgx.stage = some p → s.sgx.cursor = .seg i → segmentAt s.settings i = some seg → seg.phase = p →
      seg.work = .dwell time → 0 < time → s.dcc.stage = phaseStage p → s.zcu.yielding = false →
      ((∃ frozen target speed, s.sgx.current = some (.move frozen target speed)
          ∧ hookDistance height.toNat target ≤ s.settings.arrivalBand)
        ∨ (∃ frozen lower upper speed count, s.sgx.current = some (.shake frozen lower upper speed count .down)
          ∧ s.sgx.repeats ≤ 1 ∧ hookDistance height.toNat lower ≤ s.settings.arrivalBand)
        ∨ (∃ frozen lower upper speed count leg, s.sgx.current = some (.shake frozen lower upper speed count leg)
          ∧ hookDistance height.toNat lower ≤ s.settings.arrivalBand
          ∧ hookDistance height.toNat upper ≤ s.settings.arrivalBand)) →
      ∃ t, exec (.encoderRead false height parity) s = .next t ∧ t.dcc.stage = s.dcc.stage
        ∧ t.sgx.current = some .dwell ∧ t.sgx.dwell = some time ∧ t.sgx.repeats = 0 ∧ t.hif.motion = none
        ∧ t.hif.driveLost = none ∧ t.hif.speed = 0 ∧ t.sgx.stage = some p
        ∧ t.sgx.cursor = (match seg.next with | none => .chainEnd | some n => .seg n)

/-! ### Segments and markers (R53 to R62) -/

/-- DWELL_EXPIRY and WAIT_TIMEOUT end their segment, WAIT_TIMEOUT with WAIT_EXPIRED; PULSE_EXPIRY lowers its marker (R54,
R59, R61, R62). HOLD_LIMIT_EXPIRY raises HOLD_LONG, once, for a hold that has lasted more than the hold limit (R36). That
nothing happens at such an arrival before it is due, or with its timer stopped, is the model's choice (log 2). -/
def Obligations.SegmentAndHoldTimersExpire : Prop :=
  (∀ s : State,
    (s.sgx.current = some .dwell → s.sgx.dwell = some 0 → exec .dwellExpiry s = .next (drivePins (endSegment s)))
      ∧ (s.sgx.current ≠ some .dwell ∨ s.sgx.dwell ≠ some 0 → exec .dwellExpiry s = .next s)
      ∧ (∀ input edge d, s.sgx.current = some (.wait input edge) → s.sgx.wait = some 0 → s.dcc.active = some d →
          exec .waitTimeout s = .next (drivePins (endSegment { s with dcc := { s.dcc with
            active := some { d with flags := { d.flags with waitExpired := true } } } })))
      ∧ ((∀ input edge, s.sgx.current ≠ some (.wait input edge)) ∨ s.sgx.wait ≠ some 0 →
          exec .waitTimeout s = .next s)
      ∧ (s.sgx.m0.pulse = some 0 → exec (.pulseExpiry .m0) s = .next (drivePins
          { s with sgx := { s.sgx with m0 := { high := false, pulse := none } } }))
      ∧ (s.sgx.m1.pulse = some 0 → exec (.pulseExpiry .m1) s = .next (drivePins
          { s with sgx := { s.sgx with m1 := { high := false, pulse := none } } }))
      ∧ (s.sgx.m0.pulse ≠ some 0 → exec (.pulseExpiry .m0) s = .next s)
      ∧ (s.sgx.m1.pulse ≠ some 0 → exec (.pulseExpiry .m1) s = .next s))
    ∧ (∀ (s : State) (h : Hold), s.dcc.hold = some h → h.longRaised = false → 1000 * s.settings.holdLimit < h.elapsed →
      ∃ t, exec .holdLimitExpiry s = .next t ∧ t.pendingEvent .holdLong = true
        ∧ t.dcc = { s.dcc with hold := some { h with longRaised := true } }
        ∧ exec .holdLimitExpiry t = .next t ∧ KeepsTheDip s t ∧ t.kli = s.kli ∧ t.inv = s.inv ∧ t.adm = s.adm)
    ∧ (∀ s : State, s.dcc.hold = none → exec .holdLimitExpiry s = .next s)
    ∧ ∀ (s : State) (h : Hold), s.dcc.hold = some h →
        h.longRaised = true ∨ h.elapsed ≤ 1000 * s.settings.holdLimit → exec .holdLimitExpiry s = .next s

/-- Where the Segment Executor goes in one step from the end of a segment (R51 to R55, R63): it starts the segment at the
cursor where that is of the stage in hand; a CALL there is taken and the first segment of its called chain started; at the
end of a called chain the segment at the return index; a segment that ends in the step in which it starts is followed by
the next one; at the end of IMMERSE the first segment of SOAK, at the end of SOAK that of WITHDRAW; and where an abort
hands WITHDRAW or DEPART, the segments of earlier phases on the way are passed over without their markers: along the chain
the cursor stands in, or, from within a called chain or at its end, along the rest of it, back to the saved index, which is
then cleared, and on from there. Each is stated where the segment reached then runs (`SegmentsStartByTheirKind` says when)
and is no CALL; with the yield in effect in APPROACH nothing is started and the conflict hold begins (R37). -/
def Obligations.NextSegmentStartsAtOnce : Prop :=
  ∀ (s : State) (p : Phase) (i : Nat) (seg : Segment), s.sgx.stage = some p → segmentAt s.settings i = some seg →
    (s.dcc.stage ≠ .approach ∨ s.zcu.yielding = false →
      ((∀ k, seg.work ≠ .call k) → s.sgx.cursor = .seg i → seg.phase = p →
          (startSegment seg (dropSegment s)).sgx.current.isSome = true →
          endSegment s = startSegment seg (dropSegment s))
        ∧ (∀ k called, seg.work = .call k → s.sgx.cursor = .seg i → seg.phase = p →
          segmentAt s.settings k = some called → called.phase = p → (∀ k', called.work ≠ .call k') →
          (startSegment called (takeCall seg k (dropSegment s))).sgx.current.isSome = true →
          endSegment s = startSegment called (takeCall seg k (dropSegment s))
            ∧ (takeCall seg k (dropSegment s)).sgx = { (dropSegment s).sgx with
                m0 := s.sgx.m0.act seg.m0, m1 := s.sgx.m1.act seg.m1, returnIndex := some seg.next, cursor := .seg k })
        ∧ ((∀ k, seg.work ≠ .call k) → s.sgx.cursor = .chainEnd → s.sgx.returnIndex = some (some i) → seg.phase = p →
          (startSegment seg (dropSegment { s with sgx := { s.sgx with returnIndex := none } })).sgx.current.isSome = true →
          endSegment s = startSegment seg (dropSegment { s with sgx := { s.sgx with returnIndex := none } }))
        ∧ (∀ j after_, (∀ k, seg.work ≠ .call k) → s.sgx.cursor = .seg i → seg.phase = p → seg.next = some j →
          (startSegment seg (dropSegment s)).sgx.current = none →
          segmentAt s.settings j = some after_ → after_.phase = p → (∀ k, after_.work ≠ .call k) →
          (startSegment after_ (startSegment seg (dropSegment s))).sgx.current.isSome = true →
          endSegment s = startSegment after_ (startSegment seg (dropSegment s))))
      ∧ (∀ q, (p = .immerse ∧ q = .soak) ∨ (p = .soak ∧ q = .withdraw) → s.sgx.cursor = .seg i → seg.phase = q →
          (∀ k, seg.work ≠ .call k) → (startSegment seg (handStage q (dropSegment s))).sgx.current.isSome = true →
          endSegment s = startSegment seg (handStage q (dropSegment s))
            ∧ (endSegment s).dcc.stage = phaseStage q ∧ (endSegment s).sgx.stage = some q)
      ∧ (∀ (q : Phase) (path : Nat → Nat) (n : Nat), q = .withdraw ∨ q = .depart → n ≤ 96 → s.sgx.cursor = .seg (path 0) →
          path n = i → (∀ m < n, ∃ passed, segmentAt s.settings (path m) = some passed
            ∧ phaseOrder passed.phase < phaseOrder q ∧ passed.next = some (path (m + 1))) →
          seg.phase = q → (∀ k, seg.work ≠ .call k) → (startSegment seg (handStage q s)).sgx.current.isSome = true →
          enterMotion q s = startSegment seg (handStage q s)
            ∧ (enterMotion q s).sgx.m0 = s.sgx.m0.act seg.m0 ∧ (enterMotion q s).sgx.m1 = s.sgx.m1.act seg.m1)
      ∧ (∀ (q : Phase) (path back : Nat → Nat) (n k : Nat), q = .withdraw ∨ q = .depart → n ≤ 96 → k ≤ 96 →
          s.sgx.cursor = .chainEnd ∨ (s.sgx.cursor = .seg (path 0)
            ∧ (∀ m < n, ∃ passed, segmentAt s.settings (path m) = some passed
              ∧ phaseOrder passed.phase < phaseOrder q ∧ passed.next = some (path (m + 1)))
            ∧ ∃ last, segmentAt s.settings (path n) = some last ∧ phaseOrder last.phase < phaseOrder q ∧ last.next = none) →
          s.sgx.returnIndex = some (some (back 0)) → back k = i →
          (∀ m < k, ∃ passed, segmentAt s.settings (back m) = some passed
            ∧ phaseOrder passed.phase < phaseOrder q ∧ passed.next = some (back (m + 1))) →
          seg.phase = q → (∀ j, seg.work ≠ .call j) →
          (startSegment seg (handStage q { s with sgx := { s.sgx with returnIndex := none } })).sgx.current.isSome = true →
          enterMotion q s = startSegment seg (handStage q { s with sgx := { s.sgx with returnIndex := none } })
            ∧ (enterMotion q s).sgx.returnIndex = none
            ∧ (enterMotion q s).sgx.m0 = s.sgx.m0.act seg.m0 ∧ (enterMotion q s).sgx.m1 = s.sgx.m1.act seg.m1)
      ∧ (s.dcc.stage = .approach → s.zcu.yielding = true → s.sgx.cursor = .seg i → seg.phase = p →
          endSegment s = waitHold .conflict (dropSegment s))

/-- What the start of a segment does by its kind (R53, R56 to R62, R79, R82). Every start applies its markers, sets the
cursor on its next index, and touches no other block but the hoist's timers, the flags of a clamp, and a trigger latch. A
MOVE freezes its target, clamps the hook target and the speed, and runs with its motion limit, or ends within the arrival
band; a SHAKE runs its first leg to the lower target, or its up leg where it stands at the lower one, or ends where it
stands at both; a DWELL runs its time, or ends with 0; a WAIT_INPUT clears the edge latch of its input and runs. -/
def Obligations.SegmentsStartByTheirKind : Prop :=
  (∀ (c : Settings) (bottom : Int) (hang : Nat),
      (bottom + hang < c.travelLow → clampHook c bottom hang = (c.travelLow, true))
        ∧ ((c.travelLow : Int) ≤ bottom + hang → bottom + hang ≤ c.travelHigh →
            clampHook c bottom hang = ((bottom + hang).toNat, false))
        ∧ ((c.travelLow : Int) ≤ bottom + hang → (c.travelHigh : Int) < bottom + hang →
            clampHook c bottom hang = (c.travelHigh, true)))
    ∧ (∀ (s : State) (target : Int), s.freeze .abs target = target
        ∧ s.freeze .surf target = (s.adm.surface / 10 : Nat) + target)
    ∧ ∀ (s t : State) (d : Dip) (seg : Segment), s.sgx.current = none → s.hif.motion = none → s.hif.driveLost = none →
      s.dcc.active = some d → startSegment seg s = t → (∀ k, seg.work ≠ .call k) →
      (t.sgx.m0 = s.sgx.m0.act seg.m0 ∧ t.sgx.m1 = s.sgx.m1.act seg.m1
        ∧ t.sgx.cursor = (match seg.next with | none => .chainEnd | some n => .seg n)
        ∧ t.sgx.returnIndex = s.sgx.returnIndex ∧ t.sgx.stage = s.sgx.stage ∧ t.hif.hook = s.hif.hook
        ∧ t.dcc.stage = s.dcc.stage ∧ t.dcc.queue = s.dcc.queue ∧ t.dcc.hold = s.dcc.hold ∧ t.cpt = s.cpt ∧ t.kli = s.kli
        ∧ t.zcu = s.zcu ∧ t.adm = s.adm ∧ t.inv = s.inv ∧ t.wgu = s.wgu ∧ t.acu = s.acu ∧ t.peers = s.peers)
      ∧ (∀ ref target speed F h v, seg.work = .move ref target speed → s.freeze ref target = F →
          (clampHook s.settings F d.job.hang).1 = h → min speed s.settings.maxSpeed = v →
          t.dcc.active = some { d with flags := { d.flags with
              depthClamped := d.flags.depthClamped || (clampHook s.settings F d.job.hang).2
              speedClamped := d.flags.speedClamped || decide (s.settings.maxSpeed < speed) } }
          ∧ (s.settings.arrivalBand < hookDistance s.hif.hook h → t.sgx.current = some (.move F h v)
              ∧ t.hif.motion = some { count := 0, limit := (2000 * hookDistance s.hif.hook h + v - 1) / v + 5000 }
              ∧ t.hif.driveLost = if s.driveReady = true then none else some 0)
          ∧ (hookDistance s.hif.hook h ≤ s.settings.arrivalBand →
              t.sgx.current = none ∧ t.hif.motion = none ∧ t.hif.driveLost = none))
      ∧ (∀ ref target speed amplitude count F lo up v, seg.work = .shake ref target speed amplitude count →
          s.freeze ref target = F → (clampHook s.settings F d.job.hang).1 = lo →
          (clampHook s.settings (F + amplitude) d.job.hang).1 = up → min speed s.settings.maxSpeed = v →
          t.dcc.active = some { d with flags := { d.flags with
              depthClamped := d.flags.depthClamped || ((clampHook s.settings F d.job.hang).2
                || (clampHook s.settings (F + amplitude) d.job.hang).2)
              speedClamped := d.flags.speedClamped || decide (s.settings.maxSpeed < speed) } }
          ∧ (s.settings.arrivalBand < hookDistance s.hif.hook lo →
              t.sgx.current = some (.shake F lo up v count .first) ∧ t.sgx.repeats = s.sgx.repeats
              ∧ t.hif.motion = some { count := 0, limit := (2000 * hookDistance s.hif.hook lo + v - 1) / v + 5000 }
              ∧ t.hif.driveLost = if s.driveReady = true then none else some 0)
          ∧ (hookDistance s.hif.hook lo ≤ s.settings.arrivalBand → s.settings.arrivalBand < hookDistance s.hif.hook up →
              t.sgx.current = some (.shake F lo up v count .up) ∧ t.sgx.repeats = count
              ∧ t.hif.motion = some { count := 0, limit := (2000 * hookDistance s.hif.hook up + v - 1) / v + 5000 }
              ∧ t.hif.driveLost = if s.driveReady = true then none else some 0)
          ∧ (hookDistance s.hif.hook lo ≤ s.settings.arrivalBand → hookDistance s.hif.hook up ≤ s.settings.arrivalBand →
              t.sgx.current = none ∧ t.sgx.repeats = 0 ∧ t.hif.motion = none))
      ∧ (∀ time, seg.work = .dwell time → t.dcc = s.dcc ∧ t.hif.motion = none
          ∧ (0 < time → t.sgx.current = some .dwell ∧ t.sgx.dwell = some time)
          ∧ (time = 0 → t.sgx.current = none ∧ t.sgx.dwell = none))
      ∧ (∀ input edge time, seg.work = .waitInput input edge time → t.dcc = s.dcc
          ∧ t.sgx.current = some (.wait input edge) ∧ t.sgx.wait = some time
          ∧ t.hif = (match input with
            | .t0 => { s.hif with latch0 := { rising := false, falling := false } }
            | .t1 => { s.hif with latch1 := { rising := false, falling := false } }))

/-! ### Weighing (R88 to R97) -/

/-- The stillness test (R91): 16 samples, any two of them no further apart than the band. The averaged weight (R5,
R96): the rounded mean, or 200,000 where a sample is marked OVERRANGE; it never exceeds 200,000. -/
def Obligations.StillnessAndAverage : Prop :=
  (∀ s : State, (∀ x ∈ s.wgu.window, x.gross ≤ maxWeight) →
      (s.still = true ↔ s.wgu.window.length = 16
        ∧ ∀ x ∈ s.wgu.window, ∀ y ∈ s.wgu.window, x.gross ≤ y.gross + s.settings.stillBand))
    ∧ (∀ (n : Nat) (list : List Sample), list ≠ [] →
      ((∀ x ∈ list, x.overrange = false) →
          averageWeight n list = ((list.map (·.gross)).sum + list.length / 2) / list.length)
        ∧ ((∃ x ∈ list, x.overrange = true) → averageWeight n list = 200000)
        ∧ ((∀ x ∈ list, x.gross ≤ 200000) → averageWeight n list ≤ 200000))

/-- RAW_SAMPLE (R88 to R90, R93, R94): discarded in BOOT and LOADING; counted below the divider; at the divider
retained, the window keeping the latest 16, a SETTLING operation keeping the latest 32 or turning to AVERAGING with an
empty list and its settle timer stopped at the value it has, an AVERAGING one collecting below 32. -/
def Obligations.RawSamplesAreRetained : Prop :=
  ∀ (s : State) (raw : BitVec 24),
    (s.online = false → exec (.rawSample raw) s = .next s)
      ∧ (s.online = true → s.wgu.divider + 1 < s.settings.divider →
          exec (.rawSample raw) s = .next (drivePins { s with wgu := { s.wgu with divider := s.wgu.divider + 1 } }))
      ∧ ∀ x w, s.online = true → s.settings.divider ≤ s.wgu.divider + 1 →
          weighSample s.settings.weighZero s.settings.weighGain raw = x →
          (s.wgu.window ++ [x]).drop (s.wgu.window.length + 1 - 16) = w →
          (s.wgu.op = none →
            exec (.rawSample raw) s = .next (drivePins { s with wgu := { divider := 0, window := w, op := none } }))
          ∧ (∀ timer list, s.wgu.op = some { phase := .settling, settleTimer := timer, samples := list } →
            ({ s with wgu := { s.wgu with window := w } } : State).still = true →
            exec (.rawSample raw) s = .next (drivePins { s with
              wgu := { divider := 0, window := w
                       op := some { phase := .averaging, settleTimer := timer, samples := [] } } }))
          ∧ (∀ timer list, s.wgu.op = some { phase := .settling, settleTimer := timer, samples := list } →
            ({ s with wgu := { s.wgu with window := w } } : State).still = false →
            exec (.rawSample raw) s = .next (drivePins { s with
              wgu := { divider := 0, window := w
                       op := some ⟨.settling, timer, (list ++ [x]).drop (list.length + 1 - 32)⟩ } }))
          ∧ (∀ timer list, s.wgu.op = some { phase := .averaging, settleTimer := timer, samples := list } →
            list.length < 31 →
            exec (.rawSample raw) s = .next (drivePins { s with
              wgu := { divider := 0, window := w
                       op := some { phase := .averaging, settleTimer := timer, samples := list ++ [x] } } }))

/-- The delivery of a weight (R5, R6, R10, R27, R32, R94 to R97, R163), settled with the 32nd averaged sample or by timeout
(`DeliversWeight`): the weight is kept with its flags. The dry weight forms S and F, and the dip enters CLAIM with its
claim asked for. The exit weight enters DRAIN, or WEIGH_DRAINED where an abort is pending; a DRAIN without segments is over
at once; WEIGH_DRAINED requests its weighing, whose phase is that of the stillness of the window (R92). The drained weight enters DEPART, which may be over at once: the dip is then stored with that weight. A
SETTLE_TIMEOUT before the settle time changes nothing (the model's choice, log 2). -/
def Obligations.WeightsAreDelivered : Prop :=
  (∀ (s : State) (c : Instr) (list : List Sample) (unsettled : Bool) (d : Dip) (w : Nat), DeliversWeight s c list unsettled →
      s.dcc.active = some d → averageWeight 0 list = w →
      (s.dcc.stage = .weighDry → s.zcu.claim = .none →
        ∃ t, exec c s = .next t ∧ t.wgu.op = none ∧ t.dcc.stage = .claim
          ∧ (∃ e, t.dcc.active = some e ∧ e.job = d.job ∧ e.dry = some w ∧ e.steel = some (steelMass w d.job.tare)
            ∧ e.flags = { d.flags with
                dryUnsettled := unsettled, overrange := d.flags.overrange || list.any (·.overrange) })
          ∧ t.adm.full = fullDisplacement s.settings.area (steelMass w d.job.tare)
          ∧ (s.claimBlocked = none → t.zcu.claim = .pending none ∧ t.zcu.mask = footprint d.job)
          ∧ (∀ r, s.claimBlocked = some r → t.zcu.claim = .waiting r ∧ t.zcu.mask = 0 ∧ t.dcc.hold.isSome = true)
          ∧ t.acu = s.acu ∧ t.inv = s.inv ∧ t.sgx = s.sgx ∧ t.peers = s.peers)
      ∧ (s.dcc.stage = .weighExit →
        ∃ t e, exec c s = .next t ∧ t.dcc.active = some e ∧ e.job = d.job ∧ e.exitWeight = some w ∧ e.dry = d.dry
          ∧ e.flags.exitUnsettled = unsettled ∧ e.flags.overrange = (d.flags.overrange || list.any (·.overrange))
          ∧ (d.abortPending = true → t.dcc.stage = .weighDrained ∧ t.sgx = s.sgx)
          ∧ (d.abortPending = false → t.dcc.stage = .drain ∨ t.dcc.stage = .weighDrained)
          ∧ (∀ i seg, d.abortPending = false → s.sgx.cursor = .seg i → segmentAt s.settings i = some seg →
              (seg.phase = .depart → t.dcc.stage = .weighDrained)
              ∧ (∀ time, seg.phase = .drain → seg.work = .dwell time → 0 < time →
                t.dcc.stage = .drain ∧ t.sgx.current = some .dwell ∧ t.sgx.dwell = some time ∧ t.wgu.op = none))
          ∧ (t.dcc.stage = .weighDrained → t.wgu.op = some ⟨if t.still = true then .averaging else .settling, 0, []⟩)
          ∧ t.acu = s.acu ∧ t.inv = s.inv ∧ t.zcu.claim = s.zcu.claim ∧ t.zcu.mask = s.zcu.mask ∧ t.peers = s.peers)
      ∧ (s.dcc.stage = .weighDrained →
        ∃ t, exec c s = .next t ∧ t.wgu.op = none ∧ t.peers = s.peers
          ∧ ((t.dcc.stage = .depart ∧ t.acu = s.acu ∧ t.inv = s.inv
              ∧ ∃ e, t.dcc.active = some e ∧ e.job = d.job ∧ e.drained = some w ∧ e.exitWeight = d.exitWeight
                ∧ e.dry = d.dry ∧ e.flags.drainedUnsettled = unsettled
                ∧ e.flags.overrange = (d.flags.overrange || list.any (·.overrange)))
            ∨ (t.dcc.stage = .idle ∧ t.dcc.active = none
              ∧ ∃ r, t.acu.log = s.acu.log ++ [r] ∧ r.jobId = d.job.id ∧ r.drained = some w
                ∧ r.exitWeight = d.exitWeight ∧ r.dry = d.dry ∧ r.flags.drainedUnsettled = unsettled
                ∧ r.flags.overrange = (d.flags.overrange || list.any (·.overrange))))
          ∧ (∀ i seg time, s.sgx.cursor = .seg i → segmentAt s.settings i = some seg → seg.phase = .depart →
              seg.work = .dwell time → 0 < time → t.dcc.stage = .depart ∧ t.sgx.current = some .dwell)
          ∧ (s.sgx.cursor = .chainEnd → s.sgx.returnIndex = none → t.dcc.stage = .idle)))
    ∧ ∀ (s : State) (timer : Nat) (list : List Sample),
      s.wgu.op = some { phase := .settling, settleTimer := timer, samples := list } → timer < s.settings.settleTime → exec .settleTimeout s = .next s

/-! ### The kettle line (R115 to R132) -/

/-- TRANSMIT_ATTEMPT_START (R117, R121, R124, R131): a LEAVE where its request is set, otherwise a STATE with the contents
of this moment. That the arrival stands for the permitted start, and that it changes nothing while the transmitter is
silent, an attempt is in progress or no request is set, is the model's choice (log 11). BIT_READ_BACK_MISMATCH (R117, R118,
R128): a data bit of the arbitration byte sent recessive and read dominant loses the attempt and leaves the failure count;
any other mismatch fails it and raises the count, and a count of 16 sets LINE_LOST with cause FAILURES where it is clear
(log 13: at once). The bit times of an attempt reach 11 beyond its last dominant one, where the notice ends (R115): a
dominant level read later, or a level that is the one sent, judges nothing (log 28). -/
def Obligations.AttemptsBeginAndAreJudged : Prop :=
  (∀ s : State,
    (s.online = true → s.kli.hunting = false → s.kli.attempt = none → s.kli.leaveRequest = true →
        exec .transmitAttemptStart s = .next (drivePins { s with kli := { s.kli with
          attempt := some { sending := .leave, status := .driving, reported := true }, lateRaise := none } }))
      ∧ (s.online = true → s.kli.hunting = false → s.kli.attempt = none → s.kli.leaveRequest = false →
        s.kli.stateRequest.isSome = true →
        exec .transmitAttemptStart s = .next (drivePins { s with kli := { s.kli with
          attempt := some { sending := .state s.announce, status := .driving, reported := true }, lateRaise := none } }))
      ∧ (s.online = false ∨ s.kli.hunting = true ∨ s.kli.attempt.isSome = true
          ∨ (s.kli.leaveRequest = false ∧ s.kli.stateRequest = none) → exec .transmitAttemptStart s = .next s))
    ∧ ∀ (s : State) (a : Attempt) (bytes : List Byte) (last bitTime : Nat) (dominant : Bool), s.kli.attempt = some a →
      a.status = .driving → noticeBytes s.own a.sending = bytes → sentDominant bytes last = true →
      (∀ n, last < n → sentDominant bytes n = false) →
      (bitTime ≤ last + 11 → sentDominant bytes bitTime = !dominant →
        ((1 ≤ bitTime ∧ bitTime ≤ 8) → dominant = true →
          exec (.bitReadBackMismatch bitTime dominant) s = .next (drivePins { s with kli := { s.kli with
            attempt := some { a with status := .lost } } }))
        ∧ (¬ ((1 ≤ bitTime ∧ bitTime ≤ 8) ∧ dominant = true) → s.kli.failures + 1 < 16 ∨ s.lineLost = true →
          exec (.bitReadBackMismatch bitTime dominant) s = .next (drivePins { s with kli := { s.kli with
            attempt := some { a with status := .failed }, failures := min 255 (s.kli.failures + 1) } }))
        ∧ (¬ ((1 ≤ bitTime ∧ bitTime ≤ 8) ∧ dominant = true) → 16 ≤ s.kli.failures + 1 → s.lineLost = false →
          ∃ t, exec (.bitReadBackMismatch bitTime dominant) s = .next t
            ∧ t.kli.attempt = some { a with status := .failed } ∧ t.kli.failures = min 255 (s.kli.failures + 1)
            ∧ t.kli.lineLost = .failures ∧ t.pendingEvent .lineLost = true
            ∧ t.dcc.stage = s.dcc.stage ∧ t.inv = s.inv ∧ t.acu = s.acu ∧ t.sgx = s.sgx ∧ t.peers = s.peers))
      ∧ (last + 11 < bitTime ∨ sentDominant bytes bitTime = dominant →
          exec (.bitReadBackMismatch bitTime dominant) s = .next s)

/-- NOTICE_END of notices that reach no other block (R115, R116, R122): the hunted end, a notice in BOOT or LOADING,
and a notice that fails a receive check, which raises the discard counter by 1. A valid notice with the own number
that the own transmitter did not send sets LINE_LOST with cause DUPLICATE, with its event, and is not handed on (R123,
R128, R130); that the event is raised again where the cause is DUPLICATE already is the model's reading (log 15). -/
def Obligations.NoticesThatAreNotHandedOn : Prop :=
  (∀ (s : State) (bytes : List Byte) (spoiled : Bool),
      (s.kli.hunting = true → exec (.noticeEnd bytes spoiled) s
          = .next (drivePins { s with kli := { s.kli with hunting := false } }))
        ∧ (s.kli.hunting = false → s.kli.attempt = none → s.online = false →
          exec (.noticeEnd bytes spoiled) s = .next (drivePins s))
        ∧ (s.kli.hunting = false → s.kli.attempt = none → s.online = true → checkNotice bytes spoiled = none →
          exec (.noticeEnd bytes spoiled) s
            = .next (drivePins { s with kli := { s.kli with discards := min 65535 (s.kli.discards + 1) } })))
    ∧ (∀ (s : State) (bytes : List Byte) (x : Sending), s.kli.hunting = false → s.kli.attempt = none → s.online = true →
      checkNotice bytes false = some ⟨s.own, x⟩ →
      ∃ t, exec (.noticeEnd bytes false) s = .next t ∧ t.kli.lineLost = .duplicate ∧ t.pendingEvent .lineLost = true
        ∧ t.peers = s.peers ∧ t.inv = s.inv ∧ t.acu = s.acu ∧ t.sgx = s.sgx ∧ t.dcc.stage = s.dcc.stage
        ∧ (∀ w, s.lineLost = false → s.zcu.claim = .pending w → t.zcu.claim = .waiting .line ∧ t.zcu.mask = 0)
        ∧ (s.zcu.claim = .held → t.zcu = s.zcu)
        ∧ (∀ w, s.lineLost = false → s.adm.resv = .pending w → t.adm.resv = .waiting .line)
        ∧ (s.adm.resv = .admitted → t.adm.resv = .admitted)
        ∧ (∀ d, s.lineLost = false → s.dcc.active = some d →
            ∃ e, t.dcc.active = some e ∧ e.flags.lineLostSeen = true ∧ e.job = d.job))

/-- The end of an own attempt at NOTICE_END. An own LEAVE read back as it was sent is a success (R118, R124, R131): the
failure count is 0 and the LEAVE request is cleared; with a RESTART pending, the clear of RESTART is made, stated in the
state in which RESTART is taken (R196, R197), where the self entry's time, kept with the rest of it, is the model's choice
(log 30); one that was in progress at an earlier clear is counted only (log 22). An attempt that a mismatch has judged is over, its requests as they were, and the notice is taken as any other (R117, R118).
One that no mismatch was reported for, but whose bytes were not taken as sent, is judged here (the model's reading,
log 12): lost where the arbitration byte was taken lower, else failed, with the count raised, and LINE_LOST of cause
FAILURES at 16, stated for a notice that is then discarded. -/
def Obligations.OwnAttemptsEndWithTheirNotice : Prop :=
  (∀ (s : State) (reported : Bool), s.kli.hunting = false → s.kli.attempt = some ⟨.leave, .driving, reported⟩ →
      (reported = true → s.cpt.restartPending = false →
          exec (.noticeEnd (noticeBytes s.own .leave) false) s = .next (drivePins { s with kli := { s.kli with
            failures := 0, attempt := none, lateRaise := none, leaveRequest := false } }))
        ∧ (reported = false →
          exec (.noticeEnd (noticeBytes s.own .leave) false) s = .next (drivePins { s with kli := { s.kli with
            failures := 0, attempt := none, lateRaise := none } }))
        ∧ (reported = true → s.cpt.restartPending = true → s.dcc.stage = .idle → s.zcu.claim = .none →
          s.adm.resv = .none →
          ∃ t, exec (.noticeEnd (noticeBytes s.own .leave) false) s = .next t
            ∧ t.kli = { s.kli with
                stateRequest := some s.sck, lateRaise := none, leaveRequest := false, attempt := none
                heartbeat := none, failures := 0, lineLost := .none }
            ∧ t.cpt = { s.cpt with
                mode := .listen, listenTimer := some 2000, restartPending := false, restartTimer := none
                events := 0, irq := false }
            ∧ t.peers.get s.own = s.peers.get s.own ∧ (∀ i, i ≠ s.own → t.peers.get i = PeerEntry.empty)
            ∧ t.dcc = { s.dcc with queue := [] } ∧ t.sgx.m0.high = false ∧ t.sgx.m1.high = false
            ∧ t.acu = s.acu ∧ t.inv = s.inv ∧ t.cfs = s.cfs ∧ t.wgu = s.wgu ∧ t.zcu = s.zcu ∧ t.sck = s.sck))
    ∧ (∀ (s u : State) (a : Attempt) (bytes : List Byte) (spoiled : Bool), s.kli.hunting = false →
      s.kli.attempt = some a → { s with kli := { s.kli with attempt := none, lateRaise := none } } = u →
      (a.status ≠ .driving → exec (.noticeEnd bytes spoiled) s = exec (.noticeEnd bytes spoiled) u)
        ∧ (∀ sent heard sentRest heardRest, a.status = .driving → noticeBytes s.own a.sending = sent :: sentRest →
          bytes = heard :: heardRest → heard.toNat < sent.toNat →
          exec (.noticeEnd bytes spoiled) s = exec (.noticeEnd bytes spoiled) u)
        ∧ (∀ sent sentRest, a.status = .driving → noticeBytes s.own a.sending = sent :: sentRest →
          bytes ≠ sent :: sentRest ∨ spoiled = true → (∀ heard heardRest, bytes = heard :: heardRest → sent.toNat ≤ heard.toNat) →
          (s.kli.failures + 1 < 16 ∨ s.lineLost = true →
            exec (.noticeEnd bytes spoiled) s = exec (.noticeEnd bytes spoiled)
              { u with kli := { u.kli with failures := min 255 (s.kli.failures + 1) } })
          ∧ (16 ≤ s.kli.failures + 1 → s.lineLost = false → s.online = true → checkNotice bytes spoiled = none →
            ∃ t, exec (.noticeEnd bytes spoiled) s = .next t ∧ t.kli.attempt = none
              ∧ t.kli.failures = min 255 (s.kli.failures + 1) ∧ t.kli.discards = min 65535 (s.kli.discards + 1)
              ∧ t.kli.lineLost = .failures ∧ t.pendingEvent .lineLost = true ∧ t.kli.leaveRequest = s.kli.leaveRequest
              ∧ t.dcc.stage = s.dcc.stage ∧ t.inv = s.inv ∧ t.acu = s.acu ∧ t.sgx = s.sgx ∧ t.peers = s.peers)))

/-- NOTICE_END of a valid notice of another station (R133, R135, R137, R138): a STATE is stored whole in its entry,
with PEER_NEW where it was ABSENT; a LEAVE empties its entry; every other entry is as it was. The premise `SgxWf` is
part of `CycleWf`, which every step keeps. -/
def Obligations.PeerNoticesAreStored : Prop :=
  ∀ (s : State) (bytes : List Byte) (i : StationIx), SgxWf s → s.kli.hunting = false → s.kli.attempt = none →
    s.online = true → i ≠ s.own →
    (∀ a, checkNotice bytes false = some ⟨i, .state a⟩ →
        ∃ t, exec (.noticeEnd bytes false) s = .next t
          ∧ t.peers.get i = { presence := .present, heard := { a with mask := a.mask &&& zonesBelow s.settings.zoneCount }
                              time := s.sck, firstHeard := decide ((s.peers.get i).presence = .absent) }
          ∧ (∀ j, j ≠ i → t.peers.get j = s.peers.get j)
          ∧ ((s.peers.get i).presence = .absent → t.pendingEvent .peerNew = true)
          ∧ t.cfs = s.cfs ∧ t.sck = s.sck ∧ t.kli.discards = s.kli.discards ∧ t.kli.failures = s.kli.failures
          ∧ t.inv.drawn = s.inv.drawn ∧ t.inv.added = s.inv.added ∧ t.inv.removed = s.inv.removed)
      ∧ (checkNotice bytes false = some ⟨i, .leave⟩ → (s.peers.get i).presence ≠ .absent →
        ∃ t, exec (.noticeEnd bytes false) s = .next t ∧ t.peers.get i = PeerEntry.empty
          ∧ (∀ j, j ≠ i → t.peers.get j = s.peers.get j) ∧ t.inv = s.inv ∧ t.cfs = s.cfs ∧ t.sck = s.sck)
      ∧ (checkNotice bytes false = some ⟨i, .leave⟩ → (s.peers.get i).presence = .absent →
        exec (.noticeEnd bytes false) s = .next (drivePins s))

/-- What a valid STATE of another station does to the inventory, whatever dip, claim and reservation the station has (R148,
R152 to R154, R157): the movement announced by its counters, then the adoption of its pair where that is greater and its
origin is a station number, with its event and the STATE request; L afresh, the low test, the own counters as they were.
With no dip, no claim and no reservation the other blocks stay whole. How a peer's counter is measured (R151, R152):
nothing on a first hearing; otherwise the difference modulo 2^32 where it is below 2^31, and nothing where it is a
restart; the net change is added less drawn less removed. `SgxWf` is part of `CycleWf`, which every step keeps. -/
def Obligations.PeerStateMovesTheInventory : Prop :=
  (∀ (s : State) (i : StationIx) (a : Announced) (bytes : List Byte), SgxWf s → s.kli.hunting = false →
      s.kli.attempt = none → s.online = true → i ≠ s.own → checkNotice bytes false = some ⟨i, .state a⟩ →
      ∃ t, exec (.noticeEnd bytes false) s = .next t
        ∧ ((pairGreater a.epoch a.origin s.inv.epoch s.inv.origin = true ∧ 1 ≤ a.origin ∧ a.origin ≤ 16) →
            t.inv.epoch = a.epoch ∧ t.inv.origin = a.origin ∧ t.inv.mass = min 8000000 a.inventory
              ∧ t.pendingEvent .epochAdopted = true ∧ t.kli.stateRequest.isSome = true)
        ∧ (¬ (pairGreater a.epoch a.origin s.inv.epoch s.inv.origin = true ∧ 1 ≤ a.origin ∧ a.origin ≤ 16) →
            t.inv.epoch = s.inv.epoch ∧ t.inv.origin = s.inv.origin
              ∧ (t.inv.mass : Int) = max 0 (min 8000000 ((s.inv.mass : Int)
                  + netMovement (decide ((s.peers.get i).presence = .absent)) a (s.peers.get i).heard))
              ∧ t.pendingEvent .epochAdopted = s.pendingEvent .epochAdopted)
        ∧ t.inv.level = levelOf s.settings.area t.inv.mass ∧ t.inv.low = decide (t.inv.level < s.settings.minLevel)
        ∧ (s.inv.low = false → t.inv.low = true → t.pendingEvent .lowZinc = true)
        ∧ t.inv.drawn = s.inv.drawn ∧ t.inv.added = s.inv.added ∧ t.inv.removed = s.inv.removed
        ∧ t.acu = s.acu ∧ t.wgu = s.wgu
        ∧ (s.dcc.active = none → s.zcu.claim = .none → s.adm.resv = .none →
            t.dcc = s.dcc ∧ t.zcu = s.zcu ∧ t.sgx = s.sgx))
    ∧ ((∀ new last : Word, counterMovement true new last = 0)
      ∧ (∀ new last : Word, (new - last).toNat ≤ 2147483647 → counterMovement false new last = (new - last).toNat)
      ∧ (∀ new last : Word, 2147483648 ≤ (new - last).toNat → counterMovement false new last = 0)
      ∧ (∀ (first : Bool) (new last : Announced), netMovement first new last
          = (counterMovement first new.added last.added : Int) - counterMovement first new.drawn last.drawn
            - counterMovement first new.removed last.removed)
      ∧ counterMovement false 1500#32 4294966000#32 = 2796
      ∧ counterMovement false 0#32 1207190#32 = 0)

/-- The end of an own STATE notice read back as it was sent (R118, R124, R125, R127, R129, R134, R165): a success, with the
end of LINE_LOST where its cause is FAILURES or UNSENT. It is reported to the ZCU and the ADM, whose windows start where it
carried what they still ask for; the report comes before the end of LINE_LOST (the model's choice, log 14). One that was in
progress at the clear of RESTART is counted and not reported (R131; the model's reading, log 22): no window starts, and
nothing reaches the dip's blocks but the end of LINE_LOST. -/
def Obligations.OwnStateNoticeSucceeds : Prop :=
  ∀ (s : State) (x : Announced) (reported : Bool), s.kli.hunting = false →
    s.kli.attempt = some { sending := .state x, status := .driving, reported := reported } →
    ∃ t, exec (.noticeEnd (noticeBytes s.own (.state x)) false) s = .next t
      ∧ t.kli.failures = 0 ∧ t.kli.attempt = none ∧ t.kli.heartbeat = some 0
      ∧ (t.peers.get s.own).time = s.sck ∧ (∀ j, j ≠ s.own → t.peers.get j = s.peers.get j)
      ∧ (s.kli.lineLost = .failures ∨ s.kli.lineLost = .unsent →
          t.kli.lineLost = .none ∧ t.pendingEvent .lineBack = true)
      ∧ (s.kli.lineLost = .duplicate → t.kli.lineLost = .duplicate)
      ∧ (s.kli.lineLost = .none → t.kli.lineLost = .none ∧ t.kli.stateRequest = s.kli.lateRaise)
      ∧ (reported = true → s.lineLost = false → s.zcu.claim = .pending none → x.claim = .pending → x.mask = s.zcu.mask →
          t.zcu.claim = .pending (some s.sck))
      ∧ (reported = true → s.lineLost = false → s.adm.resv = .pending none → x.resv = .pending →
          x.reserved = s.adm.full → t.adm.resv = .pending (some s.sck))
      ∧ (reported = false → (∀ w, s.zcu.claim = .pending w → t.zcu = s.zcu)
          ∧ ∀ w, s.adm.resv = .pending w → t.adm = s.adm)
      ∧ (reported = false → s.kli.lineLost = .none ∨ s.kli.lineLost = .duplicate →
          t.zcu = s.zcu ∧ t.adm = s.adm ∧ t.dcc = s.dcc)
      ∧ t.inv = s.inv ∧ t.acu = s.acu ∧ t.sgx = s.sgx ∧ t.wgu = s.wgu ∧ t.dcc.stage = s.dcc.stage

/-- HEARTBEAT_TIMER_EXPIRY and UNSENT_EXPIRY (R124, R125, R128): at 200 ms the STATE request is raised and the timer
stands; a STATE request set for 1,000 ms sets LINE_LOST with cause UNSENT where it is clear and changes nothing where
it is set. Before that nothing happens at either arrival (the model's choice, log 2). -/
def Obligations.LineTimersExpire : Prop :=
  ∀ s : State, s.online = true →
    (∀ n, s.kli.heartbeat = some n → 200 ≤ n →
        ∃ t, exec .heartbeatTimerExpiry s = .next t ∧ t.kli.heartbeat = none
          ∧ t.kli.stateRequest = some (s.kli.stateRequest.getD s.sck)
          ∧ t.kli.attempt = s.kli.attempt ∧ t.kli.lineLost = s.kli.lineLost ∧ t.dcc = s.dcc ∧ t.adm = s.adm
          ∧ t.inv = s.inv ∧ KeepsTheDip s t)
      ∧ (∀ n, s.kli.heartbeat = some n → n < 200 → exec .heartbeatTimerExpiry s = .next s)
      ∧ (∀ r, s.kli.stateRequest = some r → 1000 ≤ (s.sck - r).toNat → s.lineLost = false →
        ∃ t, exec .unsentExpiry s = .next t ∧ t.kli.lineLost = .unsent ∧ t.pendingEvent .lineLost = true
          ∧ t.kli.stateRequest = some r ∧ t.dcc.stage = s.dcc.stage ∧ t.inv = s.inv ∧ t.peers = s.peers
          ∧ (∀ w, s.zcu.claim = .pending w → t.zcu.claim = .waiting .line))
      ∧ (∀ r, s.kli.stateRequest = some r → 1000 ≤ (s.sck - r).toNat → s.lineLost = true →
        exec .unsentExpiry s = .next (drivePins s))
      ∧ (∀ r, s.kli.stateRequest = some r → (s.sck - r).toNat < 1000 → exec .unsentExpiry s = .next s)

/-! ### The peer table (R139, R142, R143) -/

/-- PEER_AGEING (R139): a PRESENT entry of another station that is 1,000 ms old becomes STALE, keeps every field, and
PEER_STALE is raised; every other entry is as it was. Otherwise nothing happens (the model's choice, log 2). FORGET_PEER and READ_PEER (R142,
R143): BAD_ARG outside 1 to 16 and for another length; FORGET_PEER empties a STALE entry and refuses the others;
READ_PEER returns 35 bytes and changes nothing but the response. `SgxWf` is part of `CycleWf`, which every step
keeps. -/
def Obligations.EntriesAgeAndAreForgotten : Prop :=
  (∀ (s : State) (i : StationIx), SgxWf s → s.online = true →
      (i ≠ s.own → (s.peers.get i).presence = .present → 1000 ≤ (s.sck - (s.peers.get i).time).toNat →
          ∃ t, exec (.peerAgeing i) s = .next t ∧ t.peers.get i = { s.peers.get i with presence := .stale }
            ∧ (∀ j, j ≠ i → t.peers.get j = s.peers.get j) ∧ t.pendingEvent .peerStale = true
            ∧ t.inv = s.inv ∧ t.cfs = s.cfs ∧ t.sck = s.sck)
        ∧ (i = s.own ∨ (s.peers.get i).presence ≠ .present ∨ (s.sck - (s.peers.get i).time).toNat < 1000 →
          exec (.peerAgeing i) s = .next s))
    ∧ (∀ (s : State) (tail args : List Byte), SgxWf s → FrameOpen s tail args → s.online = true →
      (args.length ≠ 1 ∨ beNat args = 0 ∨ 16 < beNat args →
          exec (.forgetPeer tail) s = .next (refusedWith .badArg s)
          ∧ exec (.readPeer tail) s = .next (refusedWith .badArg s))
        ∧ ∀ i : StationIx, args.length = 1 → beNat args = i.val + 1 →
          ((s.peers.get i).presence = .absent → exec (.forgetPeer tail) s = .next (refusedWith .badArg s))
          ∧ ((s.peers.get i).presence = .present → exec (.forgetPeer tail) s = .next (refusedWith .notStale s))
          ∧ ((s.peers.get i).presence = .stale → ∃ t, exec (.forgetPeer tail) s = .next t
              ∧ t.cpt.response = { code := .ok, data := [] } ∧ t.peers.get i = PeerEntry.empty
              ∧ (∀ j, j ≠ i → t.peers.get j = s.peers.get j) ∧ t.inv = s.inv ∧ t.cfs = s.cfs ∧ t.sck = s.sck)
          ∧ exec (.readPeer tail) s = .next (drivePins
              { s with cpt := { s.cpt with response := { code := .ok, data := entryBytes s i } } })
          ∧ (entryBytes s i).length = 35)

/-! ### Claims and admission (R159 to R184) -/

/-- The expiry of the claim window (R166): the claim is HELD with its mask, and in CLAIM the dip enters APPROACH,
which may be over at once; in FAULT the stage stays (R171). Before 400 ms nothing happens (log 2). -/
def Obligations.ClaimWindowExpiryHolds : Prop :=
  (∀ (s : State) (start : Word), s.zcu.claim = .pending (some start) → 400 ≤ (s.sck - start).toNat →
      s.dcc.stage = .claim ∨ s.dcc.stage = .fault →
      ∃ t, exec .claimWindowExpiry s = .next t ∧ t.zcu.claim = .held ∧ t.zcu.mask = s.zcu.mask
        ∧ (s.dcc.stage = .claim → t.dcc.stage = .approach ∨ t.dcc.stage = .admitting)
        ∧ (s.dcc.stage = .fault → t.dcc.stage = .fault)
        ∧ t.peers = s.peers ∧ t.inv = s.inv ∧ t.acu = s.acu ∧ t.sck = s.sck ∧ t.dcc.queue = s.dcc.queue)
    ∧ (∀ (s : State) (start : Word), s.zcu.claim = .pending (some start) → (s.sck - start).toNat < 400 →
        exec .claimWindowExpiry s = .next s)
    ∧ ∀ s : State, (∀ start, s.zcu.claim ≠ .pending (some start)) → exec .claimWindowExpiry s = .next s

/-- The expiry of the admission window (R179, R184): ADMITTED where the committed sum fits, and in ADMIT the dip
enters IMMERSE, whose phases may be over at once; withdrawn to WAITING where it does not fit. Before 400 ms nothing
happens (log 2). -/
def Obligations.AdmissionWindowExpiryAdmits : Prop :=
  (∀ (s : State) (start : Word), s.adm.resv = .pending (some start) → 400 ≤ (s.sck - start).toNat →
      s.dcc.stage = .admitting ∨ s.dcc.stage = .fault →
      ∃ t, exec .admissionWindowExpiry s = .next t
        ∧ (s.committedFits = true → t.adm.resv = .admitted)
        ∧ (s.committedFits = true → s.dcc.stage = .admitting → t.dcc.stage = .immerse ∨ t.dcc.stage = .soak
            ∨ t.dcc.stage = .withdraw ∨ t.dcc.stage = .weighExit)
        ∧ (s.committedFits = false → ∃ r, t.adm.resv = .waiting r)
        ∧ (s.dcc.stage = .fault → t.dcc.stage = .fault)
        ∧ t.adm.full = s.adm.full ∧ t.peers = s.peers ∧ t.inv = s.inv ∧ t.acu = s.acu ∧ t.sck = s.sck
        ∧ t.dcc.queue = s.dcc.queue)
    ∧ (∀ (s : State) (start : Word), s.adm.resv = .pending (some start) → (s.sck - start).toNat < 400 →
        exec .admissionWindowExpiry s = .next s)
    ∧ ∀ s : State, (∀ start, s.adm.resv ≠ .pending (some start)) → exec .admissionWindowExpiry s = .next s

/-- The blocking test (R162): LINE where LINE_LOST holds; ZONE where another PRESENT or STALE entry shows a PENDING or
HELD claim that shares a zone with the footprint of the active job. The admission test takes the first of its cases
(R174). D_committed never exceeds D_others, so a station whose admission sum passes also passes its committed sum
(R17). -/
def Obligations.BlockingAndAdmissionTests : Prop :=
  (∀ s : State,
    (s.kli.lineLost ≠ .none → s.claimBlocked = some .line)
      ∧ (s.kli.lineLost = .none → (s.claimBlocked = some .zone ↔
          ∃ i : StationIx, i ≠ s.own ∧ (s.peers.get i).presence ≠ .absent ∧ (s.peers.get i).heard.claim ≠ .none
            ∧ ∃ z : Nat, z < 16 ∧ ((s.peers.get i).heard.mask.getLsbD z && s.footprint.getLsbD z) = true))
      ∧ (s.kli.lineLost = .none → s.claimBlocked = none ∨ s.claimBlocked = some .zone))
    ∧ (∀ s : State, s.admissionTest =
      if s.kli.lineLost ≠ .none then some .line
      else if s.inv.level < s.settings.minLevel then some .lowZinc
      else if s.settings.overflowLimit < s.inv.level + s.reservedByOthers + s.adm.full then some .level
      else if s.adm.gateClosed = true then some .conflict
      else none)
    ∧ (∀ s : State, s.committedByOthers ≤ s.reservedByOthers
      ∧ (s.admissionSum ≤ s.settings.overflowLimit → s.committedFits = true))

/-- What a change of the peer table does to the own claim (R164, R165, R167 to R169), for a STATE or LEAVE heard, an entry
grown old and a FORGET_PEER, in the states `CycleWf` that every step keeps. `t` is the state after, so its table is the
changed one. A WAITING claim tests again. A PENDING claim reviews a stored STATE on its zones: a HELD, or a PENDING of a
lower-numbered station, withdraws it; a PENDING of a higher-numbered one is answered; no other change touches it. A HELD
claim stays with its mask: an overlapping PENDING stored is answered, the conflict flag stands exactly while a conflicting
entry exists, ZONE_CONFLICT is raised where it goes from clear to set and not while it stays, and in APPROACH and ADMIT
the yield is in effect exactly while a conflicting entry of a lower-numbered station exists; where it comes into effect in
APPROACH with no segment running the conflict hold begins (R37), and its end lifts that hold. Where a hold ends, its length
is added to the dip's hold time (R36, R104). -/
def Obligations.TableChangesMoveTheClaim : Prop :=
  ∀ (s : State) (c : Instr) (stored : Option StationIx), CycleWf s → TableArrival s c stored →
    ∃ t, exec c s = .next t
      ∧ (s.zcu.claim = .none → t.zcu = s.zcu)
      ∧ (∀ r, s.zcu.claim = .waiting r →
          (∀ r', t.claimBlocked = some r' → t.zcu.claim = .waiting r' ∧ t.zcu.mask = 0
            ∧ (s.dcc.stage = .claim → ∃ h, t.dcc.hold = some h ∧ h.reason = r'.hold))
          ∧ (t.claimBlocked = none → t.zcu.claim = .pending none ∧ t.zcu.mask = s.footprint
            ∧ t.kli.stateRequest.isSome = true ∧ (s.dcc.stage = .claim → t.dcc.hold = none
              ∧ ∀ d, s.dcc.active = some d → ∃ e, t.dcc.active = some e ∧ e.holdTime = holdTimeAfter s.dcc.hold d)))
      ∧ (∀ w, s.zcu.claim = .pending w →
          (∀ i, stored = some i → (t.peers.get i).heard.mask &&& s.zcu.mask ≠ 0 →
            (t.peers.get i).heard.claim = .held ∨ ((t.peers.get i).heard.claim = .pending ∧ i < s.own) →
            t.zcu.claim = .waiting .zone ∧ t.zcu.mask = 0 ∧ t.kli.stateRequest.isSome = true
              ∧ (s.dcc.stage = .claim → ∃ h, t.dcc.hold = some h ∧ h.reason = .zone))
          ∧ (∀ i, stored = some i → (t.peers.get i).heard.mask &&& s.zcu.mask ≠ 0 →
            (t.peers.get i).heard.claim = .pending → s.own < i → t.zcu = s.zcu ∧ t.kli.stateRequest.isSome = true)
          ∧ (stored = none ∨ (∃ i, stored = some i ∧ ((t.peers.get i).heard.mask &&& s.zcu.mask = 0
              ∨ (t.peers.get i).heard.claim = .none)) → t.zcu = s.zcu))
      ∧ (s.zcu.claim = .held →
          t.zcu.claim = .held ∧ t.zcu.mask = s.zcu.mask
          ∧ (∀ i, stored = some i → (t.peers.get i).heard.mask &&& s.zcu.mask ≠ 0 →
            (t.peers.get i).heard.claim = .pending → t.kli.stateRequest.isSome = true)
          ∧ (t.zcu.conflict = true ↔ ∃ i, ConflictsWith t i)
          ∧ (s.zcu.conflict = false → t.zcu.conflict = true → t.pendingEvent .zoneConflict = true
            ∧ t.kli.stateRequest.isSome = true ∧ ∀ d, t.dcc.active = some d → d.flags.conflictSeen = true)
          ∧ (s.zcu.conflict = true ∨ t.zcu.conflict = false →
            t.pendingEvent .zoneConflict = s.pendingEvent .zoneConflict)
          ∧ (s.dcc.stage = .approach ∨ s.dcc.stage = .admitting →
            (t.zcu.yielding = true ↔ ∃ i, ConflictsWith t i ∧ i < s.own))
          ∧ (s.dcc.stage ≠ .approach → s.dcc.stage ≠ .admitting → t.zcu.yielding = false)
          ∧ (s.dcc.stage = .approach → s.sgx.current = none → s.zcu.yielding = false → t.zcu.yielding = true →
            ∃ h, t.dcc.hold = some h ∧ h.reason = .conflict)
          ∧ (t.dcc.stage = .approach → s.sgx.current = none → s.zcu.yielding = true → t.zcu.yielding = false →
            t.dcc.hold = none
              ∧ ∀ d, s.dcc.active = some d → ∃ e, t.dcc.active = some e ∧ e.holdTime = holdTimeAfter s.dcc.hold d))

/-- What a change of the peer table does to the own reservation and to the conflict gate (R136, R141, R148, R169, R176, R178,
R180, R184), in the states `CycleWf` that every step keeps; `t` is the state after, so its table, level and gate are the
changed ones, the claim unit having acted first (the model's reading, log 23). A WAITING reservation tests again, but not
in FAULT. A PENDING one is withdrawn where the committed sum no longer fits or the gate has closed, and is kept else; an
ADMITTED one is kept; NONE stays, but where the end of a yield lets APPROACH pass into ADMIT, which asks. In ADMIT the hold
follows, and at its end its length is added to the dip's hold time (R36, R104). The gate is closed at the report of a yield and opened at its end. -/
def Obligations.TableChangesMoveTheReservation : Prop :=
  ∀ (s : State) (c : Instr) (stored : Option StationIx), CycleWf s → TableArrival s c stored →
    ∃ t, exec c s = .next t
      ∧ (s.adm.resv = .none → t.dcc.stage = s.dcc.stage → t.adm.resv = .none)
      ∧ (t.dcc.stage ≠ s.dcc.stage → s.dcc.stage = .approach ∧ t.dcc.stage = .admitting ∧ s.zcu.yielding = true
          ∧ t.zcu.yielding = false)
      ∧ ((∃ r, s.adm.resv = .waiting r) ∧ s.dcc.stage ≠ .fault ∨ t.dcc.stage ≠ s.dcc.stage →
          (∀ r, t.admissionTest = some r → t.adm.resv = .waiting r)
          ∧ (t.admissionTest = none → t.adm.resv = .pending none ∧ t.kli.stateRequest.isSome = true))
      ∧ (∀ r, s.adm.resv = .waiting r → s.dcc.stage = .fault → t.adm.resv = .waiting r)
      ∧ (∀ w, s.adm.resv = .pending w →
          (t.committedFits = false ∨ (s.zcu.yielding = false ∧ t.zcu.yielding = true) →
            ∃ r, t.admissionTest = some r ∧ t.adm.resv = .waiting r ∧ t.kli.stateRequest.isSome = true)
          ∧ (t.committedFits = true → ¬ (s.zcu.yielding = false ∧ t.zcu.yielding = true) → t.adm.resv = s.adm.resv))
      ∧ (s.adm.resv = .admitted → t.adm.resv = .admitted)
      ∧ (∀ r, t.dcc.stage = .admitting → t.adm.resv = .waiting r → ∃ h, t.dcc.hold = some h ∧ h.reason = r.hold)
      ∧ (∀ r w, t.dcc.stage = .admitting → s.adm.resv = .waiting r → t.adm.resv = .pending w → t.dcc.hold = none
          ∧ ∀ h d, s.dcc.hold = some h → s.dcc.active = some d →
            ∃ e, t.dcc.active = some e ∧ e.holdTime = min 4294967295 (d.holdTime + h.elapsed))
      ∧ (s.zcu.yielding ≠ t.zcu.yielding → t.adm.gateClosed = t.zcu.yielding)
      ∧ (s.zcu.yielding = t.zcu.yielding → t.adm.gateClosed = s.adm.gateClosed)
      ∧ t.adm.full = s.adm.full ∧ t.adm.without = t.surfaceWithout ∧ t.dcc.queue = s.dcc.queue ∧ t.acu = s.acu

/-! ### The clock -/

/-- STATION_CLOCK_TICK, whole (R1, R36, R59, R61, R62, R76, R80, R82, R92, R125, R188, R189, R196): the count rises by 1
modulo 2^32; the word sent is the speed command (log 9); the load, listen, restart, dwell, wait and pulse timers run down and
stand at 0, the heartbeat timer stands at 200 and the settle timer, which runs in SETTLING only and is as it was in AVERAGING, at the settle time (that
they stand so is the model's choice, log 27); the hold and DRIVE_LOST timers count on; the motion limit count moves only
where halt is negated and drive-ready asserted. Everything else is as it was, and the pins follow (log 8); no expiry is
taken (log 2). -/
def Obligations.TickMovesTheTimers : Prop :=
  ∀ s : State, exec .stationClockTick s = .next (drivePins
    { s with
      sck := s.sck + 1
      cpt := { s.cpt with
        loadTimer := s.cpt.loadTimer.map fun n => n - 1
        listenTimer := s.cpt.listenTimer.map fun n => n - 1
        restartTimer := s.cpt.restartTimer.map fun n => n - 1 }
      kli := { s.kli with heartbeat := s.kli.heartbeat.map fun n => min 200 (n + 1) }
      dcc := { s.dcc with hold := s.dcc.hold.map fun h => { h with elapsed := h.elapsed + 1 } }
      sgx := { s.sgx with
        dwell := s.sgx.dwell.map fun n => n - 1
        wait := s.sgx.wait.map fun n => n - 1
        m0 := { s.sgx.m0 with pulse := s.sgx.m0.pulse.map fun n => n - 1 }
        m1 := { s.sgx.m1 with pulse := s.sgx.m1.pulse.map fun n => n - 1 } }
      hif := { s.hif with
        motion := s.hif.motion.map fun m =>
          { m with count := if s.haltAsserted = false ∧ s.driveReady = true then m.count + 1 else m.count }
        driveLost := s.hif.driveLost.map fun n => n + 1
        speedWord := BitVec.ofInt 16 s.hif.speed }
      wgu := { s.wgu with
        op := s.wgu.op.map fun op =>
          match op.phase with
          | .settling => { op with settleTimer := min s.settings.settleTime (op.settleTimer + 1) }
          | .averaging => op } })

/-! ### Invariants -/

/-- Every invariant below holds after hardware reset. -/
def Obligations.ResetMeetsTheInvariants : Prop :=
  PinsFollow State.reset ∧ InventoryWf State.reset ∧ LogWf State.reset ∧ QueueWf State.reset ∧ SurfaceWf State.reset
    ∧ CycleWf State.reset ∧ WeighWf State.reset ∧ ConfigWf State.reset

/-- Every step keeps the speed command, the marker outputs and IRQ at what the blocks make them (R76, R86, R195; that
they follow in the same step is the model's choice, log 8). -/
def Obligations.StepKeepsThePins : Prop :=
  ∀ s t : State, PinsFollow s → step s = .next t → PinsFollow t

/-- Every step keeps the inventory estimate within 0 to 8,000,000 and the level estimate at the value R7 gives it
(R148). -/
def Obligations.StepKeepsTheInventory : Prop :=
  ∀ s t : State, InventoryWf s → step s = .next t → InventoryWf t

/-- Every step keeps the slot reserved exactly while a dip is active, and records and slot within 32 (R101). Every
step keeps the queue within 4 jobs and the job ids distinct (R22). -/
def Obligations.StepKeepsTheLogAndTheQueue : Prop :=
  (∀ s t : State, LogWf s → step s = .next t → LogWf t)
    ∧ (∀ s t : State, QueueWf s → step s = .next t → QueueWf t)

/-- Every step keeps the surface figures at what R11 and R14 give (R181). -/
def Obligations.StepKeepsTheSurface : Prop :=
  ∀ s t : State, SurfaceWf s → step s = .next t → SurfaceWf t

/-- Every step keeps the blocks of the dip cycle in agreement: from APPROACH through DEPART the claim is HELD, in
IMMERSE and SOAK the reservation is ADMITTED, in IDLE no job is active and neither is held, the mask is empty while
the claim is NONE or WAITING, the conflict flag stands only while HELD, and the Segment Executor works on the stage of
the dip (R20, R26, R160, R163, R169, R175). -/
def Obligations.StepKeepsTheCycle : Prop :=
  ∀ s t : State, CycleWf s → step s = .next t → CycleWf t

/-- Every step keeps the weigh samples in their ranges and the lists in their lengths (R89, R90, R92). Every step
keeps a configuration that has passed its header ranges (R192, R193). -/
def Obligations.StepKeepsTheSamplesAndTheConfiguration : Prop :=
  (∀ s t : State, WeighWf s → step s = .next t → WeighWf t)
    ∧ (∀ s t : State, ConfigWf s → step s = .next t → ConfigWf t)
end

