-- ==== Sys2Proof/Laws/State.lean ====
section
/-! SUPPORT. One rule per update of State: what each field is after it. -/

namespace Sys2Proof.Machine

variable (s : State)

/-- `onCpt` changes the block `cpt` and nothing else. -/
@[simp] theorem onCpt_fields (f : Cpt → Cpt) :
    (s.onCpt f).cpt = f s.cpt ∧ (s.onCpt f).sck = s.sck ∧ (s.onCpt f).cfs = s.cfs ∧ (s.onCpt f).peers = s.peers
      ∧ (s.onCpt f).pending = s.pending ∧ (s.onCpt f).freeCount = s.freeCount ∧ (s.onCpt f).kli = s.kli ∧ (s.onCpt f).inv = s.inv
      ∧ (s.onCpt f).zcu = s.zcu ∧ (s.onCpt f).adm = s.adm ∧ (s.onCpt f).dcc = s.dcc ∧ (s.onCpt f).sgx = s.sgx
      ∧ (s.onCpt f).hif = s.hif ∧ (s.onCpt f).wgu = s.wgu ∧ (s.onCpt f).acu = s.acu ∧ (s.onCpt f).settings = s.settings
      ∧ (s.onCpt f).own = s.own ∧ (s.onCpt f).ownNumber = s.ownNumber ∧ (s.onCpt f).lineLost = s.lineLost ∧ (s.onCpt f).job = s.job
      ∧ (s.onCpt f).footprint = s.footprint ∧ (s.onCpt f).hang = s.hang ∧ (s.onCpt f).haltAsserted = s.haltAsserted ∧ (s.onCpt f).driveReady = s.driveReady
      ∧ (s.onCpt f).driveFault = s.driveFault ∧ (s.onCpt f).others = s.others ∧ (s.onCpt f).heardOthers = s.heardOthers ∧ (s.onCpt f).reservedByOthers = s.reservedByOthers
      ∧ (s.onCpt f).committedByOthers = s.committedByOthers ∧ (s.onCpt f).leg = s.leg := by
  refine ⟨?_, ?_⟩ <;> (repeat' apply And.intro) <;> rfl

/-- `onKli` changes the block `kli` and nothing else. -/
@[simp] theorem onKli_fields (f : Kli → Kli) :
    (s.onKli f).kli = f s.kli ∧ (s.onKli f).sck = s.sck ∧ (s.onKli f).cfs = s.cfs ∧ (s.onKli f).peers = s.peers
      ∧ (s.onKli f).pending = s.pending ∧ (s.onKli f).freeCount = s.freeCount ∧ (s.onKli f).cpt = s.cpt ∧ (s.onKli f).inv = s.inv
      ∧ (s.onKli f).zcu = s.zcu ∧ (s.onKli f).adm = s.adm ∧ (s.onKli f).dcc = s.dcc ∧ (s.onKli f).sgx = s.sgx
      ∧ (s.onKli f).hif = s.hif ∧ (s.onKli f).wgu = s.wgu ∧ (s.onKli f).acu = s.acu ∧ (s.onKli f).settings = s.settings
      ∧ (s.onKli f).own = s.own ∧ (s.onKli f).ownNumber = s.ownNumber ∧ (s.onKli f).online = s.online ∧ (s.onKli f).job = s.job
      ∧ (s.onKli f).footprint = s.footprint ∧ (s.onKli f).hang = s.hang ∧ (s.onKli f).haltAsserted = s.haltAsserted ∧ (s.onKli f).driveReady = s.driveReady
      ∧ (s.onKli f).driveFault = s.driveFault ∧ (s.onKli f).others = s.others ∧ (s.onKli f).heardOthers = s.heardOthers ∧ (s.onKli f).reservedByOthers = s.reservedByOthers
      ∧ (s.onKli f).committedByOthers = s.committedByOthers ∧ (s.onKli f).leg = s.leg := by
  refine ⟨?_, ?_⟩ <;> (repeat' apply And.intro) <;> rfl

/-- `onInv` changes the block `inv` and nothing else. -/
@[simp] theorem onInv_fields (f : Inv → Inv) :
    (s.onInv f).inv = f s.inv ∧ (s.onInv f).sck = s.sck ∧ (s.onInv f).cfs = s.cfs ∧ (s.onInv f).peers = s.peers
      ∧ (s.onInv f).pending = s.pending ∧ (s.onInv f).freeCount = s.freeCount ∧ (s.onInv f).cpt = s.cpt ∧ (s.onInv f).kli = s.kli
      ∧ (s.onInv f).zcu = s.zcu ∧ (s.onInv f).adm = s.adm ∧ (s.onInv f).dcc = s.dcc ∧ (s.onInv f).sgx = s.sgx
      ∧ (s.onInv f).hif = s.hif ∧ (s.onInv f).wgu = s.wgu ∧ (s.onInv f).acu = s.acu ∧ (s.onInv f).settings = s.settings
      ∧ (s.onInv f).own = s.own ∧ (s.onInv f).ownNumber = s.ownNumber ∧ (s.onInv f).online = s.online ∧ (s.onInv f).lineLost = s.lineLost
      ∧ (s.onInv f).job = s.job ∧ (s.onInv f).footprint = s.footprint ∧ (s.onInv f).hang = s.hang ∧ (s.onInv f).haltAsserted = s.haltAsserted
      ∧ (s.onInv f).driveReady = s.driveReady ∧ (s.onInv f).driveFault = s.driveFault ∧ (s.onInv f).others = s.others ∧ (s.onInv f).heardOthers = s.heardOthers
      ∧ (s.onInv f).reservedByOthers = s.reservedByOthers ∧ (s.onInv f).committedByOthers = s.committedByOthers ∧ (s.onInv f).leg = s.leg := by
  refine ⟨?_, ?_⟩ <;> (repeat' apply And.intro) <;> rfl

/-- `onZcu` changes the block `zcu` and nothing else. -/
@[simp] theorem onZcu_fields (f : Zcu → Zcu) :
    (s.onZcu f).zcu = f s.zcu ∧ (s.onZcu f).sck = s.sck ∧ (s.onZcu f).cfs = s.cfs ∧ (s.onZcu f).peers = s.peers
      ∧ (s.onZcu f).pending = s.pending ∧ (s.onZcu f).freeCount = s.freeCount ∧ (s.onZcu f).cpt = s.cpt ∧ (s.onZcu f).kli = s.kli
      ∧ (s.onZcu f).inv = s.inv ∧ (s.onZcu f).adm = s.adm ∧ (s.onZcu f).dcc = s.dcc ∧ (s.onZcu f).sgx = s.sgx
      ∧ (s.onZcu f).hif = s.hif ∧ (s.onZcu f).wgu = s.wgu ∧ (s.onZcu f).acu = s.acu ∧ (s.onZcu f).settings = s.settings
      ∧ (s.onZcu f).own = s.own ∧ (s.onZcu f).ownNumber = s.ownNumber ∧ (s.onZcu f).online = s.online ∧ (s.onZcu f).lineLost = s.lineLost
      ∧ (s.onZcu f).job = s.job ∧ (s.onZcu f).footprint = s.footprint ∧ (s.onZcu f).hang = s.hang ∧ (s.onZcu f).haltAsserted = s.haltAsserted
      ∧ (s.onZcu f).driveReady = s.driveReady ∧ (s.onZcu f).driveFault = s.driveFault ∧ (s.onZcu f).others = s.others ∧ (s.onZcu f).heardOthers = s.heardOthers
      ∧ (s.onZcu f).reservedByOthers = s.reservedByOthers ∧ (s.onZcu f).committedByOthers = s.committedByOthers ∧ (s.onZcu f).leg = s.leg := by
  refine ⟨?_, ?_⟩ <;> (repeat' apply And.intro) <;> rfl

/-- `onAdm` changes the block `adm` and nothing else. -/
@[simp] theorem onAdm_fields (f : Adm → Adm) :
    (s.onAdm f).adm = f s.adm ∧ (s.onAdm f).sck = s.sck ∧ (s.onAdm f).cfs = s.cfs ∧ (s.onAdm f).peers = s.peers
      ∧ (s.onAdm f).pending = s.pending ∧ (s.onAdm f).freeCount = s.freeCount ∧ (s.onAdm f).cpt = s.cpt ∧ (s.onAdm f).kli = s.kli
      ∧ (s.onAdm f).inv = s.inv ∧ (s.onAdm f).zcu = s.zcu ∧ (s.onAdm f).dcc = s.dcc ∧ (s.onAdm f).sgx = s.sgx
      ∧ (s.onAdm f).hif = s.hif ∧ (s.onAdm f).wgu = s.wgu ∧ (s.onAdm f).acu = s.acu ∧ (s.onAdm f).settings = s.settings
      ∧ (s.onAdm f).own = s.own ∧ (s.onAdm f).ownNumber = s.ownNumber ∧ (s.onAdm f).online = s.online ∧ (s.onAdm f).lineLost = s.lineLost
      ∧ (s.onAdm f).job = s.job ∧ (s.onAdm f).footprint = s.footprint ∧ (s.onAdm f).hang = s.hang ∧ (s.onAdm f).haltAsserted = s.haltAsserted
      ∧ (s.onAdm f).driveReady = s.driveReady ∧ (s.onAdm f).driveFault = s.driveFault ∧ (s.onAdm f).others = s.others ∧ (s.onAdm f).heardOthers = s.heardOthers
      ∧ (s.onAdm f).reservedByOthers = s.reservedByOthers ∧ (s.onAdm f).committedByOthers = s.committedByOthers ∧ (s.onAdm f).leg = s.leg := by
  refine ⟨?_, ?_⟩ <;> (repeat' apply And.intro) <;> rfl

/-- `onDcc` changes the block `dcc` and nothing else. -/
@[simp] theorem onDcc_fields (f : Dcc → Dcc) :
    (s.onDcc f).dcc = f s.dcc ∧ (s.onDcc f).sck = s.sck ∧ (s.onDcc f).cfs = s.cfs ∧ (s.onDcc f).peers = s.peers
      ∧ (s.onDcc f).pending = s.pending ∧ (s.onDcc f).freeCount = s.freeCount ∧ (s.onDcc f).cpt = s.cpt ∧ (s.onDcc f).kli = s.kli
      ∧ (s.onDcc f).inv = s.inv ∧ (s.onDcc f).zcu = s.zcu ∧ (s.onDcc f).adm = s.adm ∧ (s.onDcc f).sgx = s.sgx
      ∧ (s.onDcc f).hif = s.hif ∧ (s.onDcc f).wgu = s.wgu ∧ (s.onDcc f).acu = s.acu ∧ (s.onDcc f).settings = s.settings
      ∧ (s.onDcc f).own = s.own ∧ (s.onDcc f).ownNumber = s.ownNumber ∧ (s.onDcc f).online = s.online ∧ (s.onDcc f).lineLost = s.lineLost
      ∧ (s.onDcc f).haltAsserted = s.haltAsserted ∧ (s.onDcc f).driveReady = s.driveReady ∧ (s.onDcc f).driveFault = s.driveFault ∧ (s.onDcc f).others = s.others
      ∧ (s.onDcc f).heardOthers = s.heardOthers ∧ (s.onDcc f).reservedByOthers = s.reservedByOthers ∧ (s.onDcc f).committedByOthers = s.committedByOthers ∧ (s.onDcc f).leg = s.leg := by
  refine ⟨?_, ?_⟩ <;> (repeat' apply And.intro) <;> rfl

/-- `onSgx` changes the block `sgx` and nothing else. -/
@[simp] theorem onSgx_fields (f : Sgx → Sgx) :
    (s.onSgx f).sgx = f s.sgx ∧ (s.onSgx f).sck = s.sck ∧ (s.onSgx f).cfs = s.cfs ∧ (s.onSgx f).peers = s.peers
      ∧ (s.onSgx f).pending = s.pending ∧ (s.onSgx f).freeCount = s.freeCount ∧ (s.onSgx f).cpt = s.cpt ∧ (s.onSgx f).kli = s.kli
      ∧ (s.onSgx f).inv = s.inv ∧ (s.onSgx f).zcu = s.zcu ∧ (s.onSgx f).adm = s.adm ∧ (s.onSgx f).dcc = s.dcc
      ∧ (s.onSgx f).hif = s.hif ∧ (s.onSgx f).wgu = s.wgu ∧ (s.onSgx f).acu = s.acu ∧ (s.onSgx f).settings = s.settings
      ∧ (s.onSgx f).own = s.own ∧ (s.onSgx f).ownNumber = s.ownNumber ∧ (s.onSgx f).online = s.online ∧ (s.onSgx f).lineLost = s.lineLost
      ∧ (s.onSgx f).job = s.job ∧ (s.onSgx f).footprint = s.footprint ∧ (s.onSgx f).hang = s.hang ∧ (s.onSgx f).haltAsserted = s.haltAsserted
      ∧ (s.onSgx f).driveReady = s.driveReady ∧ (s.onSgx f).driveFault = s.driveFault ∧ (s.onSgx f).others = s.others ∧ (s.onSgx f).heardOthers = s.heardOthers
      ∧ (s.onSgx f).reservedByOthers = s.reservedByOthers ∧ (s.onSgx f).committedByOthers = s.committedByOthers := by
  refine ⟨?_, ?_⟩ <;> (repeat' apply And.intro) <;> rfl

/-- `onHif` changes the block `hif` and nothing else. -/
@[simp] theorem onHif_fields (f : Hif → Hif) :
    (s.onHif f).hif = f s.hif ∧ (s.onHif f).sck = s.sck ∧ (s.onHif f).cfs = s.cfs ∧ (s.onHif f).peers = s.peers
      ∧ (s.onHif f).pending = s.pending ∧ (s.onHif f).freeCount = s.freeCount ∧ (s.onHif f).cpt = s.cpt ∧ (s.onHif f).kli = s.kli
      ∧ (s.onHif f).inv = s.inv ∧ (s.onHif f).zcu = s.zcu ∧ (s.onHif f).adm = s.adm ∧ (s.onHif f).dcc = s.dcc
      ∧ (s.onHif f).sgx = s.sgx ∧ (s.onHif f).wgu = s.wgu ∧ (s.onHif f).acu = s.acu ∧ (s.onHif f).settings = s.settings
      ∧ (s.onHif f).own = s.own ∧ (s.onHif f).ownNumber = s.ownNumber ∧ (s.onHif f).online = s.online ∧ (s.onHif f).lineLost = s.lineLost
      ∧ (s.onHif f).job = s.job ∧ (s.onHif f).footprint = s.footprint ∧ (s.onHif f).hang = s.hang ∧ (s.onHif f).others = s.others
      ∧ (s.onHif f).heardOthers = s.heardOthers ∧ (s.onHif f).reservedByOthers = s.reservedByOthers ∧ (s.onHif f).committedByOthers = s.committedByOthers ∧ (s.onHif f).leg = s.leg := by
  refine ⟨?_, ?_⟩ <;> (repeat' apply And.intro) <;> rfl

/-- `onWgu` changes the block `wgu` and nothing else. -/
@[simp] theorem onWgu_fields (f : Wgu → Wgu) :
    (s.onWgu f).wgu = f s.wgu ∧ (s.onWgu f).sck = s.sck ∧ (s.onWgu f).cfs = s.cfs ∧ (s.onWgu f).peers = s.peers
      ∧ (s.onWgu f).pending = s.pending ∧ (s.onWgu f).freeCount = s.freeCount ∧ (s.onWgu f).cpt = s.cpt ∧ (s.onWgu f).kli = s.kli
      ∧ (s.onWgu f).inv = s.inv ∧ (s.onWgu f).zcu = s.zcu ∧ (s.onWgu f).adm = s.adm ∧ (s.onWgu f).dcc = s.dcc
      ∧ (s.onWgu f).sgx = s.sgx ∧ (s.onWgu f).hif = s.hif ∧ (s.onWgu f).acu = s.acu ∧ (s.onWgu f).settings = s.settings
      ∧ (s.onWgu f).own = s.own ∧ (s.onWgu f).ownNumber = s.ownNumber ∧ (s.onWgu f).online = s.online ∧ (s.onWgu f).lineLost = s.lineLost
      ∧ (s.onWgu f).job = s.job ∧ (s.onWgu f).footprint = s.footprint ∧ (s.onWgu f).hang = s.hang ∧ (s.onWgu f).haltAsserted = s.haltAsserted
      ∧ (s.onWgu f).driveReady = s.driveReady ∧ (s.onWgu f).driveFault = s.driveFault ∧ (s.onWgu f).others = s.others ∧ (s.onWgu f).heardOthers = s.heardOthers
      ∧ (s.onWgu f).reservedByOthers = s.reservedByOthers ∧ (s.onWgu f).committedByOthers = s.committedByOthers ∧ (s.onWgu f).leg = s.leg := by
  refine ⟨?_, ?_⟩ <;> (repeat' apply And.intro) <;> rfl

/-- `onAcu` changes the block `acu` and nothing else. -/
@[simp] theorem onAcu_fields (f : Acu → Acu) :
    (s.onAcu f).acu = f s.acu ∧ (s.onAcu f).sck = s.sck ∧ (s.onAcu f).cfs = s.cfs ∧ (s.onAcu f).peers = s.peers
      ∧ (s.onAcu f).pending = s.pending ∧ (s.onAcu f).freeCount = s.freeCount ∧ (s.onAcu f).cpt = s.cpt ∧ (s.onAcu f).kli = s.kli
      ∧ (s.onAcu f).inv = s.inv ∧ (s.onAcu f).zcu = s.zcu ∧ (s.onAcu f).adm = s.adm ∧ (s.onAcu f).dcc = s.dcc
      ∧ (s.onAcu f).sgx = s.sgx ∧ (s.onAcu f).hif = s.hif ∧ (s.onAcu f).wgu = s.wgu ∧ (s.onAcu f).settings = s.settings
      ∧ (s.onAcu f).own = s.own ∧ (s.onAcu f).ownNumber = s.ownNumber ∧ (s.onAcu f).online = s.online ∧ (s.onAcu f).lineLost = s.lineLost
      ∧ (s.onAcu f).job = s.job ∧ (s.onAcu f).footprint = s.footprint ∧ (s.onAcu f).hang = s.hang ∧ (s.onAcu f).haltAsserted = s.haltAsserted
      ∧ (s.onAcu f).driveReady = s.driveReady ∧ (s.onAcu f).driveFault = s.driveFault ∧ (s.onAcu f).others = s.others ∧ (s.onAcu f).heardOthers = s.heardOthers
      ∧ (s.onAcu f).reservedByOthers = s.reservedByOthers ∧ (s.onAcu f).committedByOthers = s.committedByOthers ∧ (s.onAcu f).leg = s.leg := by
  refine ⟨?_, ?_⟩ <;> (repeat' apply And.intro) <;> rfl

/-- `setPeer` changes one entry of the peer table and nothing else. -/
@[simp] theorem setPeer_fields (i : StationIx) (e : PeerEntry) :
    (s.setPeer i e).peers = s.peers.set i e ∧ (s.setPeer i e).sck = s.sck ∧ (s.setPeer i e).cfs = s.cfs ∧ (s.setPeer i e).pending = s.pending
      ∧ (s.setPeer i e).freeCount = s.freeCount ∧ (s.setPeer i e).cpt = s.cpt ∧ (s.setPeer i e).kli = s.kli ∧ (s.setPeer i e).inv = s.inv
      ∧ (s.setPeer i e).zcu = s.zcu ∧ (s.setPeer i e).adm = s.adm ∧ (s.setPeer i e).dcc = s.dcc ∧ (s.setPeer i e).sgx = s.sgx
      ∧ (s.setPeer i e).hif = s.hif ∧ (s.setPeer i e).wgu = s.wgu ∧ (s.setPeer i e).acu = s.acu ∧ (s.setPeer i e).settings = s.settings
      ∧ (s.setPeer i e).own = s.own ∧ (s.setPeer i e).ownNumber = s.ownNumber ∧ (s.setPeer i e).online = s.online ∧ (s.setPeer i e).lineLost = s.lineLost
      ∧ (s.setPeer i e).job = s.job ∧ (s.setPeer i e).footprint = s.footprint ∧ (s.setPeer i e).hang = s.hang ∧ (s.setPeer i e).haltAsserted = s.haltAsserted
      ∧ (s.setPeer i e).driveReady = s.driveReady ∧ (s.setPeer i e).driveFault = s.driveFault ∧ (s.setPeer i e).leg = s.leg := by
  refine ⟨?_, ?_⟩ <;> (repeat' apply And.intro) <;> rfl

/-- `nextFree` advances the counter of the free values and nothing else. -/
@[simp] theorem nextFree_fields :
    (s.nextFree).freeCount = s.freeCount + 1 ∧ (s.nextFree).sck = s.sck ∧ (s.nextFree).cfs = s.cfs ∧ (s.nextFree).peers = s.peers
      ∧ (s.nextFree).pending = s.pending ∧ (s.nextFree).cpt = s.cpt ∧ (s.nextFree).kli = s.kli ∧ (s.nextFree).inv = s.inv
      ∧ (s.nextFree).zcu = s.zcu ∧ (s.nextFree).adm = s.adm ∧ (s.nextFree).dcc = s.dcc ∧ (s.nextFree).sgx = s.sgx
      ∧ (s.nextFree).hif = s.hif ∧ (s.nextFree).wgu = s.wgu ∧ (s.nextFree).acu = s.acu ∧ (s.nextFree).settings = s.settings
      ∧ (s.nextFree).own = s.own ∧ (s.nextFree).ownNumber = s.ownNumber ∧ (s.nextFree).online = s.online ∧ (s.nextFree).lineLost = s.lineLost
      ∧ (s.nextFree).job = s.job ∧ (s.nextFree).footprint = s.footprint ∧ (s.nextFree).hang = s.hang ∧ (s.nextFree).haltAsserted = s.haltAsserted
      ∧ (s.nextFree).driveReady = s.driveReady ∧ (s.nextFree).driveFault = s.driveFault ∧ (s.nextFree).others = s.others ∧ (s.nextFree).heardOthers = s.heardOthers
      ∧ (s.nextFree).reservedByOthers = s.reservedByOthers ∧ (s.nextFree).committedByOthers = s.committedByOthers ∧ (s.nextFree).leg = s.leg := by
  refine ⟨?_, ?_⟩ <;> (repeat' apply And.intro) <;> rfl

/-- `onDip` changes the active dip, if there is one, and nothing else. -/
@[simp] theorem onDip_eq (f : Dip → Dip) :
    s.onDip f = s.onDcc fun d => { d with active := d.active.map f } := rfl

/-- `onFlags` changes the flags of the active dip, if there is one, and nothing else. -/
@[simp] theorem onFlags_eq (f : DipFlags → DipFlags) :
    s.onFlags f = s.onDcc fun d => { d with active := d.active.map fun x => { x with flags := f x.flags } } := rfl

end Sys2Proof.Machine
end

