-- ==== Sys2Proof/Laws/Answers.lean ====
section
/-! SUPPORT. One lemma per operation that answers a frame: what `takeFrame`, `answerFrame`, `refuse` and `withArgs` come to, and
the modes of Table 12.1 as the state reads them. -/

namespace Sys2Proof.Machine

variable (s : State)

/-- A refusal is the state with the response replaced (R186). -/
@[simp] theorem refuse_eq_refusedWith (r : ResultCode) : refuse r s = .next (refusedWith r s) := rfl

/-- An arrival that finds nothing leaves the state. -/
@[simp] theorem unchanged_eq_next : unchanged s = .next s := rfl

/-- What changed settles with the pins following. -/
theorem settle_eq_drivePins : settle s = .next (drivePins s) := rfl

/-- An accepted command settles with its response in place. -/
theorem accept_eq_drivePins (data : List Byte) : accept data s = .next (drivePins (respond .ok data s)) := rfl

/-- LISTEN and READY are the modes of `online`. -/
theorem listenReady_inMode : Taken.inMode .listenReady s.cpt.mode = s.online := by
  simp only [State.online]; cases s.cpt.mode <;> rfl

/-- A command taken in every mode. -/
theorem always_inMode (m : Mode) : Taken.inMode .always m = true := by cases m <;> rfl

/-- A command taken in READY only. -/
theorem ready_inMode (m : Mode) : Taken.inMode .ready m = decide (m = .ready) := by cases m <;> rfl

/-- A command taken in LOADING only. -/
theorem loading_inMode (m : Mode) : Taken.inMode .loading m = decide (m = .loading) := by cases m <;> rfl

/-- A command taken in BOOT and LOADING. -/
theorem bootLoading_inMode (m : Mode) : Taken.inMode .bootLoading m = decide (m = .boot ∨ m = .loading) := by
  cases m <;> rfl

/-- A frame that the port takes: its body where the mode is right, otherwise MODE (R186). -/
theorem takeFrame_of_open {tail args : List Byte} (h : FrameOpen s tail args) (taken : Taken)
    (body : List Byte → Host.Outcome State Fault Refusal) :
    takeFrame taken tail s body
      = if taken.inMode s.cpt.mode then body args else .next (refusedWith .mode s) := by
  obtain ⟨h1, h2⟩ := h
  simp [takeFrame, h1, answerFrame, h2]

/-- Every answer of `takeFrame`: BUSY, BAD_FRAME, MODE or the body's (R186). -/
theorem takeFrame_cases (taken : Taken) (tail : List Byte) (body : List Byte → Host.Outcome State Fault Refusal) :
    (s.cpt.validating = true ∧ takeFrame taken tail s body = .next (refusedWith .busy s))
      ∨ (frameArgs tail = none ∧ takeFrame taken tail s body = .next (refusedWith .badFrame s))
      ∨ (taken.inMode s.cpt.mode = false ∧ takeFrame taken tail s body = .next (refusedWith .mode s))
      ∨ ∃ args, FrameOpen s tail args ∧ taken.inMode s.cpt.mode = true ∧ takeFrame taken tail s body = body args := by
  unfold takeFrame answerFrame FrameOpen
  cases hv : s.cpt.validating <;> cases ha : frameArgs tail <;> cases hm : taken.inMode s.cpt.mode <;> simp

/-- The argument length is checked first (R187). -/
theorem withArgs_eq (n : Nat) (args : List Byte) (k : Host.Outcome State Fault Refusal) :
    withArgs n args s k = if args.length = n then k else .next (refusedWith .badArg s) := rfl

/-- The argument bytes number at most 60 (R186, case 2). -/
theorem frameArgs_length {tail args : List Byte} (h : frameArgs tail = some args) : args.length ≤ 60 := by
  unfold frameArgs at h
  split at h
  · cases h
  · split at h
    · cases h
    · rename_i hn
      cases h
      rw [List.length_take]
      omega

end Sys2Proof.Machine
end

