-- ==== Sys2Proof/Laws/Frames.lean ====
section
/-! SUPPORT. One lemma per shared operation: what it leaves as it was, and what it makes of what it changes. -/

namespace Sys2Proof.Machine

variable (s : State)

@[simp] theorem raiseEvent_frame (e : Event) :
    (raiseEvent e s).sck = s.sck ∧ (raiseEvent e s).cfs = s.cfs ∧ (raiseEvent e s).peers = s.peers ∧ (raiseEvent e s).pending = s.pending
      ∧ (raiseEvent e s).freeCount = s.freeCount ∧ (raiseEvent e s).kli = s.kli ∧ (raiseEvent e s).inv = s.inv ∧ (raiseEvent e s).zcu = s.zcu
      ∧ (raiseEvent e s).adm = s.adm ∧ (raiseEvent e s).dcc = s.dcc ∧ (raiseEvent e s).sgx = s.sgx ∧ (raiseEvent e s).hif = s.hif
      ∧ (raiseEvent e s).wgu = s.wgu ∧ (raiseEvent e s).acu = s.acu ∧ (raiseEvent e s).cpt = { s.cpt with events := s.cpt.events ||| e.bit } := by
  unfold raiseEvent
  (try dsimp only)
  (repeat' split) <;> simp_all

@[simp] theorem raiseState_frame :
    (raiseState s).sck = s.sck ∧ (raiseState s).cfs = s.cfs ∧ (raiseState s).peers = s.peers ∧ (raiseState s).pending = s.pending
      ∧ (raiseState s).freeCount = s.freeCount ∧ (raiseState s).cpt = s.cpt ∧ (raiseState s).inv = s.inv ∧ (raiseState s).zcu = s.zcu
      ∧ (raiseState s).adm = s.adm ∧ (raiseState s).dcc = s.dcc ∧ (raiseState s).sgx = s.sgx ∧ (raiseState s).hif = s.hif
      ∧ (raiseState s).wgu = s.wgu ∧ (raiseState s).acu = s.acu ∧ (raiseState s).kli.lineLost = s.kli.lineLost ∧ (raiseState s).kli.leaveRequest = s.kli.leaveRequest
      ∧ (raiseState s).kli.attempt = s.kli.attempt ∧ (raiseState s).kli.hunting = s.kli.hunting ∧ (raiseState s).kli.heartbeat = s.kli.heartbeat ∧ (raiseState s).kli.failures = s.kli.failures
      ∧ (raiseState s).kli.discards = s.kli.discards := by
  unfold raiseState Kli.raise
  split <;> simp_all

@[simp] theorem raiseStateIf_frame (c : Bool) :
    (raiseStateIf c s).sck = s.sck ∧ (raiseStateIf c s).cfs = s.cfs ∧ (raiseStateIf c s).peers = s.peers ∧ (raiseStateIf c s).pending = s.pending
      ∧ (raiseStateIf c s).freeCount = s.freeCount ∧ (raiseStateIf c s).cpt = s.cpt ∧ (raiseStateIf c s).inv = s.inv ∧ (raiseStateIf c s).zcu = s.zcu
      ∧ (raiseStateIf c s).adm = s.adm ∧ (raiseStateIf c s).dcc = s.dcc ∧ (raiseStateIf c s).sgx = s.sgx ∧ (raiseStateIf c s).hif = s.hif
      ∧ (raiseStateIf c s).wgu = s.wgu ∧ (raiseStateIf c s).acu = s.acu ∧ (raiseStateIf c s).kli.lineLost = s.kli.lineLost ∧ (raiseStateIf c s).kli.leaveRequest = s.kli.leaveRequest
      ∧ (raiseStateIf c s).kli.attempt = s.kli.attempt ∧ (raiseStateIf c s).kli.hunting = s.kli.hunting ∧ (raiseStateIf c s).kli.heartbeat = s.kli.heartbeat ∧ (raiseStateIf c s).kli.failures = s.kli.failures
      ∧ (raiseStateIf c s).kli.discards = s.kli.discards := by
  unfold raiseStateIf
  (try dsimp only)
  (repeat' split) <;> simp_all

@[simp] theorem setStage_frame (st : Stage) :
    (setStage st s).sck = s.sck ∧ (setStage st s).cfs = s.cfs ∧ (setStage st s).peers = s.peers ∧ (setStage st s).pending = s.pending
      ∧ (setStage st s).freeCount = s.freeCount ∧ (setStage st s).cpt = s.cpt ∧ (setStage st s).inv = s.inv ∧ (setStage st s).adm = s.adm
      ∧ (setStage st s).sgx = s.sgx ∧ (setStage st s).hif = s.hif ∧ (setStage st s).wgu = s.wgu ∧ (setStage st s).acu = s.acu
      ∧ (setStage st s).kli.lineLost = s.kli.lineLost ∧ (setStage st s).kli.leaveRequest = s.kli.leaveRequest ∧ (setStage st s).kli.attempt = s.kli.attempt ∧ (setStage st s).kli.hunting = s.kli.hunting
      ∧ (setStage st s).kli.heartbeat = s.kli.heartbeat ∧ (setStage st s).kli.failures = s.kli.failures ∧ (setStage st s).kli.discards = s.kli.discards ∧ (setStage st s).dcc = { s.dcc with stage := st }
      ∧ (setStage st s).zcu = { s.zcu with yielding := s.zcu.yielding && st.yields } := by
  unfold setStage
  (try dsimp only)
  (repeat' split) <;> simp_all

@[simp] theorem waitHold_frame (r : HoldReason) :
    (waitHold r s).sck = s.sck ∧ (waitHold r s).cfs = s.cfs ∧ (waitHold r s).peers = s.peers ∧ (waitHold r s).pending = s.pending
      ∧ (waitHold r s).freeCount = s.freeCount ∧ (waitHold r s).inv = s.inv ∧ (waitHold r s).zcu = s.zcu ∧ (waitHold r s).adm = s.adm
      ∧ (waitHold r s).sgx = s.sgx ∧ (waitHold r s).hif = s.hif ∧ (waitHold r s).wgu = s.wgu ∧ (waitHold r s).acu = s.acu
      ∧ (waitHold r s).cpt.mode = s.cpt.mode ∧ (waitHold r s).cpt.enables = s.cpt.enables ∧ (waitHold r s).cpt.response = s.cpt.response ∧ (waitHold r s).cpt.validating = s.cpt.validating
      ∧ (waitHold r s).cpt.restartPending = s.cpt.restartPending ∧ (waitHold r s).kli.lineLost = s.kli.lineLost ∧ (waitHold r s).kli.leaveRequest = s.kli.leaveRequest ∧ (waitHold r s).kli.attempt = s.kli.attempt
      ∧ (waitHold r s).kli.hunting = s.kli.hunting ∧ (waitHold r s).kli.heartbeat = s.kli.heartbeat ∧ (waitHold r s).kli.failures = s.kli.failures ∧ (waitHold r s).kli.discards = s.kli.discards
      ∧ (waitHold r s).dcc.stage = s.dcc.stage ∧ (waitHold r s).dcc.queue = s.dcc.queue ∧ (waitHold r s).dcc.faultCode = s.dcc.faultCode ∧ (waitHold r s).dcc.secondFaults = s.dcc.secondFaults
      ∧ (waitHold r s).dcc.active.map (·.job) = s.dcc.active.map (·.job) ∧ (waitHold r s).dcc.active.isSome = s.dcc.active.isSome := by
  unfold waitHold
  (try dsimp only)
  (repeat' split) <;> simp_all

@[simp] theorem endHold_frame :
    (endHold s).sck = s.sck ∧ (endHold s).cfs = s.cfs ∧ (endHold s).peers = s.peers ∧ (endHold s).pending = s.pending
      ∧ (endHold s).freeCount = s.freeCount ∧ (endHold s).cpt = s.cpt ∧ (endHold s).inv = s.inv ∧ (endHold s).zcu = s.zcu
      ∧ (endHold s).adm = s.adm ∧ (endHold s).sgx = s.sgx ∧ (endHold s).hif = s.hif ∧ (endHold s).wgu = s.wgu
      ∧ (endHold s).acu = s.acu ∧ (endHold s).kli.lineLost = s.kli.lineLost ∧ (endHold s).kli.leaveRequest = s.kli.leaveRequest ∧ (endHold s).kli.attempt = s.kli.attempt
      ∧ (endHold s).kli.hunting = s.kli.hunting ∧ (endHold s).kli.heartbeat = s.kli.heartbeat ∧ (endHold s).kli.failures = s.kli.failures ∧ (endHold s).kli.discards = s.kli.discards
      ∧ (endHold s).dcc.stage = s.dcc.stage ∧ (endHold s).dcc.queue = s.dcc.queue ∧ (endHold s).dcc.faultCode = s.dcc.faultCode ∧ (endHold s).dcc.secondFaults = s.dcc.secondFaults
      ∧ (endHold s).dcc.active.map (·.job) = s.dcc.active.map (·.job) ∧ (endHold s).dcc.active.isSome = s.dcc.active.isSome ∧ (endHold s).dcc.hold = none := by
  unfold endHold
  (try dsimp only)
  (repeat' split) <;> simp_all [Function.comp_def]

@[simp] theorem respond_frame (r : ResultCode) (data : List Byte) :
    (respond r data s).sck = s.sck ∧ (respond r data s).cfs = s.cfs ∧ (respond r data s).peers = s.peers ∧ (respond r data s).pending = s.pending
      ∧ (respond r data s).freeCount = s.freeCount ∧ (respond r data s).kli = s.kli ∧ (respond r data s).inv = s.inv ∧ (respond r data s).zcu = s.zcu
      ∧ (respond r data s).adm = s.adm ∧ (respond r data s).dcc = s.dcc ∧ (respond r data s).sgx = s.sgx ∧ (respond r data s).hif = s.hif
      ∧ (respond r data s).wgu = s.wgu ∧ (respond r data s).acu = s.acu ∧ (respond r data s).cpt = { s.cpt with response := { code := r, data := data } } := by
  unfold respond
  (try dsimp only)
  (repeat' split) <;> simp_all

@[simp] theorem drivePins_frame :
    (drivePins s).sck = s.sck ∧ (drivePins s).cfs = s.cfs ∧ (drivePins s).peers = s.peers ∧ (drivePins s).pending = s.pending
      ∧ (drivePins s).freeCount = s.freeCount ∧ (drivePins s).kli = s.kli ∧ (drivePins s).inv = s.inv ∧ (drivePins s).zcu = s.zcu
      ∧ (drivePins s).adm = s.adm ∧ (drivePins s).dcc = s.dcc ∧ (drivePins s).sgx = s.sgx ∧ (drivePins s).wgu = s.wgu
      ∧ (drivePins s).acu = s.acu ∧ (drivePins s).hif = { s.hif with speed := s.speedCommand, m0Out := s.sgx.m0.high, m1Out := s.sgx.m1.high } ∧ (drivePins s).cpt = { s.cpt with irq := s.irqAsserted } := by
  unfold drivePins
  (try dsimp only)
  (repeat' split) <;> simp_all

@[simp] theorem refreshSurface_frame :
    (refreshSurface s).sck = s.sck ∧ (refreshSurface s).cfs = s.cfs ∧ (refreshSurface s).peers = s.peers ∧ (refreshSurface s).pending = s.pending
      ∧ (refreshSurface s).freeCount = s.freeCount ∧ (refreshSurface s).cpt = s.cpt ∧ (refreshSurface s).kli = s.kli ∧ (refreshSurface s).inv = s.inv
      ∧ (refreshSurface s).zcu = s.zcu ∧ (refreshSurface s).dcc = s.dcc ∧ (refreshSurface s).sgx = s.sgx ∧ (refreshSurface s).hif = s.hif
      ∧ (refreshSurface s).wgu = s.wgu ∧ (refreshSurface s).acu = s.acu := by
  unfold refreshSurface
  (try dsimp only)
  (repeat' split) <;> simp_all

@[simp] theorem reportResv_frame :
    (reportResv s).sck = s.sck ∧ (reportResv s).cfs = s.cfs ∧ (reportResv s).peers = s.peers ∧ (reportResv s).pending = s.pending
      ∧ (reportResv s).freeCount = s.freeCount ∧ (reportResv s).inv = s.inv ∧ (reportResv s).zcu = s.zcu ∧ (reportResv s).adm = s.adm
      ∧ (reportResv s).sgx = s.sgx ∧ (reportResv s).hif = s.hif ∧ (reportResv s).wgu = s.wgu ∧ (reportResv s).acu = s.acu
      ∧ (reportResv s).cpt.mode = s.cpt.mode ∧ (reportResv s).cpt.enables = s.cpt.enables ∧ (reportResv s).cpt.response = s.cpt.response ∧ (reportResv s).cpt.validating = s.cpt.validating
      ∧ (reportResv s).cpt.restartPending = s.cpt.restartPending ∧ (reportResv s).kli.lineLost = s.kli.lineLost ∧ (reportResv s).kli.leaveRequest = s.kli.leaveRequest ∧ (reportResv s).kli.attempt = s.kli.attempt
      ∧ (reportResv s).kli.hunting = s.kli.hunting ∧ (reportResv s).kli.heartbeat = s.kli.heartbeat ∧ (reportResv s).kli.failures = s.kli.failures ∧ (reportResv s).kli.discards = s.kli.discards
      ∧ (reportResv s).dcc.stage = s.dcc.stage ∧ (reportResv s).dcc.queue = s.dcc.queue ∧ (reportResv s).dcc.faultCode = s.dcc.faultCode ∧ (reportResv s).dcc.secondFaults = s.dcc.secondFaults
      ∧ (reportResv s).dcc.active.map (·.job) = s.dcc.active.map (·.job) ∧ (reportResv s).dcc.active.isSome = s.dcc.active.isSome := by
  unfold reportResv
  (try dsimp only)
  (repeat' split) <;> simp_all

@[simp] theorem setResv_frame (r : ResvState) :
    (setResv r s).sck = s.sck ∧ (setResv r s).cfs = s.cfs ∧ (setResv r s).peers = s.peers ∧ (setResv r s).pending = s.pending
      ∧ (setResv r s).freeCount = s.freeCount ∧ (setResv r s).inv = s.inv ∧ (setResv r s).zcu = s.zcu ∧ (setResv r s).sgx = s.sgx
      ∧ (setResv r s).hif = s.hif ∧ (setResv r s).wgu = s.wgu ∧ (setResv r s).acu = s.acu ∧ (setResv r s).cpt.mode = s.cpt.mode
      ∧ (setResv r s).cpt.enables = s.cpt.enables ∧ (setResv r s).cpt.response = s.cpt.response ∧ (setResv r s).cpt.validating = s.cpt.validating ∧ (setResv r s).cpt.restartPending = s.cpt.restartPending
      ∧ (setResv r s).kli.lineLost = s.kli.lineLost ∧ (setResv r s).kli.leaveRequest = s.kli.leaveRequest ∧ (setResv r s).kli.attempt = s.kli.attempt ∧ (setResv r s).kli.hunting = s.kli.hunting
      ∧ (setResv r s).kli.heartbeat = s.kli.heartbeat ∧ (setResv r s).kli.failures = s.kli.failures ∧ (setResv r s).kli.discards = s.kli.discards ∧ (setResv r s).dcc.stage = s.dcc.stage
      ∧ (setResv r s).dcc.queue = s.dcc.queue ∧ (setResv r s).dcc.faultCode = s.dcc.faultCode ∧ (setResv r s).dcc.secondFaults = s.dcc.secondFaults ∧ (setResv r s).dcc.active.map (·.job) = s.dcc.active.map (·.job)
      ∧ (setResv r s).dcc.active.isSome = s.dcc.active.isSome ∧ (setResv r s).adm = { s.adm with resv := r } := by
  unfold setResv
  (try dsimp only)
  (repeat' split) <;> simp_all

@[simp] theorem testResv_frame :
    (testResv s).sck = s.sck ∧ (testResv s).cfs = s.cfs ∧ (testResv s).peers = s.peers ∧ (testResv s).pending = s.pending
      ∧ (testResv s).freeCount = s.freeCount ∧ (testResv s).inv = s.inv ∧ (testResv s).zcu = s.zcu ∧ (testResv s).sgx = s.sgx
      ∧ (testResv s).hif = s.hif ∧ (testResv s).wgu = s.wgu ∧ (testResv s).acu = s.acu ∧ (testResv s).cpt.mode = s.cpt.mode
      ∧ (testResv s).cpt.enables = s.cpt.enables ∧ (testResv s).cpt.response = s.cpt.response ∧ (testResv s).cpt.validating = s.cpt.validating ∧ (testResv s).cpt.restartPending = s.cpt.restartPending
      ∧ (testResv s).kli.lineLost = s.kli.lineLost ∧ (testResv s).kli.leaveRequest = s.kli.leaveRequest ∧ (testResv s).kli.attempt = s.kli.attempt ∧ (testResv s).kli.hunting = s.kli.hunting
      ∧ (testResv s).kli.heartbeat = s.kli.heartbeat ∧ (testResv s).kli.failures = s.kli.failures ∧ (testResv s).kli.discards = s.kli.discards ∧ (testResv s).dcc.stage = s.dcc.stage
      ∧ (testResv s).dcc.queue = s.dcc.queue ∧ (testResv s).dcc.faultCode = s.dcc.faultCode ∧ (testResv s).dcc.secondFaults = s.dcc.secondFaults ∧ (testResv s).dcc.active.map (·.job) = s.dcc.active.map (·.job)
      ∧ (testResv s).dcc.active.isSome = s.dcc.active.isSome := by
  unfold testResv
  (try dsimp only)
  (repeat' split) <;> simp_all

@[simp] theorem reviewResv_frame :
    (reviewResv s).sck = s.sck ∧ (reviewResv s).cfs = s.cfs ∧ (reviewResv s).peers = s.peers ∧ (reviewResv s).pending = s.pending
      ∧ (reviewResv s).freeCount = s.freeCount ∧ (reviewResv s).inv = s.inv ∧ (reviewResv s).zcu = s.zcu ∧ (reviewResv s).sgx = s.sgx
      ∧ (reviewResv s).hif = s.hif ∧ (reviewResv s).wgu = s.wgu ∧ (reviewResv s).acu = s.acu ∧ (reviewResv s).cpt.mode = s.cpt.mode
      ∧ (reviewResv s).cpt.enables = s.cpt.enables ∧ (reviewResv s).cpt.response = s.cpt.response ∧ (reviewResv s).cpt.validating = s.cpt.validating ∧ (reviewResv s).cpt.restartPending = s.cpt.restartPending
      ∧ (reviewResv s).kli.lineLost = s.kli.lineLost ∧ (reviewResv s).kli.leaveRequest = s.kli.leaveRequest ∧ (reviewResv s).kli.attempt = s.kli.attempt ∧ (reviewResv s).kli.hunting = s.kli.hunting
      ∧ (reviewResv s).kli.heartbeat = s.kli.heartbeat ∧ (reviewResv s).kli.failures = s.kli.failures ∧ (reviewResv s).kli.discards = s.kli.discards ∧ (reviewResv s).dcc.stage = s.dcc.stage
      ∧ (reviewResv s).dcc.queue = s.dcc.queue ∧ (reviewResv s).dcc.faultCode = s.dcc.faultCode ∧ (reviewResv s).dcc.secondFaults = s.dcc.secondFaults ∧ (reviewResv s).dcc.active.map (·.job) = s.dcc.active.map (·.job)
      ∧ (reviewResv s).dcc.active.isSome = s.dcc.active.isSome := by
  unfold reviewResv
  (try dsimp only)
  (repeat' split) <;> simp_all

@[simp] theorem admLevelChanged_frame :
    (admLevelChanged s).sck = s.sck ∧ (admLevelChanged s).cfs = s.cfs ∧ (admLevelChanged s).peers = s.peers ∧ (admLevelChanged s).pending = s.pending
      ∧ (admLevelChanged s).freeCount = s.freeCount ∧ (admLevelChanged s).inv = s.inv ∧ (admLevelChanged s).zcu = s.zcu ∧ (admLevelChanged s).sgx = s.sgx
      ∧ (admLevelChanged s).hif = s.hif ∧ (admLevelChanged s).wgu = s.wgu ∧ (admLevelChanged s).acu = s.acu ∧ (admLevelChanged s).cpt.mode = s.cpt.mode
      ∧ (admLevelChanged s).cpt.enables = s.cpt.enables ∧ (admLevelChanged s).cpt.response = s.cpt.response ∧ (admLevelChanged s).cpt.validating = s.cpt.validating ∧ (admLevelChanged s).cpt.restartPending = s.cpt.restartPending
      ∧ (admLevelChanged s).kli.lineLost = s.kli.lineLost ∧ (admLevelChanged s).kli.leaveRequest = s.kli.leaveRequest ∧ (admLevelChanged s).kli.attempt = s.kli.attempt ∧ (admLevelChanged s).kli.hunting = s.kli.hunting
      ∧ (admLevelChanged s).kli.heartbeat = s.kli.heartbeat ∧ (admLevelChanged s).kli.failures = s.kli.failures ∧ (admLevelChanged s).kli.discards = s.kli.discards ∧ (admLevelChanged s).dcc.stage = s.dcc.stage
      ∧ (admLevelChanged s).dcc.queue = s.dcc.queue ∧ (admLevelChanged s).dcc.faultCode = s.dcc.faultCode ∧ (admLevelChanged s).dcc.secondFaults = s.dcc.secondFaults ∧ (admLevelChanged s).dcc.active.map (·.job) = s.dcc.active.map (·.job)
      ∧ (admLevelChanged s).dcc.active.isSome = s.dcc.active.isSome := by
  unfold admLevelChanged
  (try dsimp only)
  (repeat' split) <;> simp_all

@[simp] theorem admLineLost_frame :
    (admLineLost s).sck = s.sck ∧ (admLineLost s).cfs = s.cfs ∧ (admLineLost s).peers = s.peers ∧ (admLineLost s).pending = s.pending
      ∧ (admLineLost s).freeCount = s.freeCount ∧ (admLineLost s).inv = s.inv ∧ (admLineLost s).zcu = s.zcu ∧ (admLineLost s).sgx = s.sgx
      ∧ (admLineLost s).hif = s.hif ∧ (admLineLost s).wgu = s.wgu ∧ (admLineLost s).acu = s.acu ∧ (admLineLost s).cpt.mode = s.cpt.mode
      ∧ (admLineLost s).cpt.enables = s.cpt.enables ∧ (admLineLost s).cpt.response = s.cpt.response ∧ (admLineLost s).cpt.validating = s.cpt.validating ∧ (admLineLost s).cpt.restartPending = s.cpt.restartPending
      ∧ (admLineLost s).kli.lineLost = s.kli.lineLost ∧ (admLineLost s).kli.leaveRequest = s.kli.leaveRequest ∧ (admLineLost s).kli.attempt = s.kli.attempt ∧ (admLineLost s).kli.hunting = s.kli.hunting
      ∧ (admLineLost s).kli.heartbeat = s.kli.heartbeat ∧ (admLineLost s).kli.failures = s.kli.failures ∧ (admLineLost s).kli.discards = s.kli.discards ∧ (admLineLost s).dcc.stage = s.dcc.stage
      ∧ (admLineLost s).dcc.queue = s.dcc.queue ∧ (admLineLost s).dcc.faultCode = s.dcc.faultCode ∧ (admLineLost s).dcc.secondFaults = s.dcc.secondFaults ∧ (admLineLost s).dcc.active.map (·.job) = s.dcc.active.map (·.job)
      ∧ (admLineLost s).dcc.active.isSome = s.dcc.active.isSome := by
  unfold admLineLost
  (try dsimp only)
  (repeat' split) <;> simp_all

@[simp] theorem admLineBack_frame :
    (admLineBack s).sck = s.sck ∧ (admLineBack s).cfs = s.cfs ∧ (admLineBack s).peers = s.peers ∧ (admLineBack s).pending = s.pending
      ∧ (admLineBack s).freeCount = s.freeCount ∧ (admLineBack s).inv = s.inv ∧ (admLineBack s).zcu = s.zcu ∧ (admLineBack s).sgx = s.sgx
      ∧ (admLineBack s).hif = s.hif ∧ (admLineBack s).wgu = s.wgu ∧ (admLineBack s).acu = s.acu ∧ (admLineBack s).cpt.mode = s.cpt.mode
      ∧ (admLineBack s).cpt.enables = s.cpt.enables ∧ (admLineBack s).cpt.response = s.cpt.response ∧ (admLineBack s).cpt.validating = s.cpt.validating ∧ (admLineBack s).cpt.restartPending = s.cpt.restartPending
      ∧ (admLineBack s).kli.lineLost = s.kli.lineLost ∧ (admLineBack s).kli.leaveRequest = s.kli.leaveRequest ∧ (admLineBack s).kli.attempt = s.kli.attempt ∧ (admLineBack s).kli.hunting = s.kli.hunting
      ∧ (admLineBack s).kli.heartbeat = s.kli.heartbeat ∧ (admLineBack s).kli.failures = s.kli.failures ∧ (admLineBack s).kli.discards = s.kli.discards ∧ (admLineBack s).dcc.stage = s.dcc.stage
      ∧ (admLineBack s).dcc.queue = s.dcc.queue ∧ (admLineBack s).dcc.faultCode = s.dcc.faultCode ∧ (admLineBack s).dcc.secondFaults = s.dcc.secondFaults ∧ (admLineBack s).dcc.active.map (·.job) = s.dcc.active.map (·.job)
      ∧ (admLineBack s).dcc.active.isSome = s.dcc.active.isSome := by
  unfold admLineBack
  (try dsimp only)
  (repeat' split) <;> simp_all

@[simp] theorem closeGate_frame :
    (closeGate s).sck = s.sck ∧ (closeGate s).cfs = s.cfs ∧ (closeGate s).peers = s.peers ∧ (closeGate s).pending = s.pending
      ∧ (closeGate s).freeCount = s.freeCount ∧ (closeGate s).inv = s.inv ∧ (closeGate s).zcu = s.zcu ∧ (closeGate s).sgx = s.sgx
      ∧ (closeGate s).hif = s.hif ∧ (closeGate s).wgu = s.wgu ∧ (closeGate s).acu = s.acu ∧ (closeGate s).cpt.mode = s.cpt.mode
      ∧ (closeGate s).cpt.enables = s.cpt.enables ∧ (closeGate s).cpt.response = s.cpt.response ∧ (closeGate s).cpt.validating = s.cpt.validating ∧ (closeGate s).cpt.restartPending = s.cpt.restartPending
      ∧ (closeGate s).kli.lineLost = s.kli.lineLost ∧ (closeGate s).kli.leaveRequest = s.kli.leaveRequest ∧ (closeGate s).kli.attempt = s.kli.attempt ∧ (closeGate s).kli.hunting = s.kli.hunting
      ∧ (closeGate s).kli.heartbeat = s.kli.heartbeat ∧ (closeGate s).kli.failures = s.kli.failures ∧ (closeGate s).kli.discards = s.kli.discards ∧ (closeGate s).dcc.stage = s.dcc.stage
      ∧ (closeGate s).dcc.queue = s.dcc.queue ∧ (closeGate s).dcc.faultCode = s.dcc.faultCode ∧ (closeGate s).dcc.secondFaults = s.dcc.secondFaults ∧ (closeGate s).dcc.active.map (·.job) = s.dcc.active.map (·.job)
      ∧ (closeGate s).dcc.active.isSome = s.dcc.active.isSome := by
  unfold closeGate
  dsimp only
  split <;> (try split) <;> simp_all

@[simp] theorem openGate_frame :
    (openGate s).sck = s.sck ∧ (openGate s).cfs = s.cfs ∧ (openGate s).peers = s.peers ∧ (openGate s).pending = s.pending
      ∧ (openGate s).freeCount = s.freeCount ∧ (openGate s).inv = s.inv ∧ (openGate s).zcu = s.zcu ∧ (openGate s).sgx = s.sgx
      ∧ (openGate s).hif = s.hif ∧ (openGate s).wgu = s.wgu ∧ (openGate s).acu = s.acu ∧ (openGate s).cpt.mode = s.cpt.mode
      ∧ (openGate s).cpt.enables = s.cpt.enables ∧ (openGate s).cpt.response = s.cpt.response ∧ (openGate s).cpt.validating = s.cpt.validating ∧ (openGate s).cpt.restartPending = s.cpt.restartPending
      ∧ (openGate s).kli.lineLost = s.kli.lineLost ∧ (openGate s).kli.leaveRequest = s.kli.leaveRequest ∧ (openGate s).kli.attempt = s.kli.attempt ∧ (openGate s).kli.hunting = s.kli.hunting
      ∧ (openGate s).kli.heartbeat = s.kli.heartbeat ∧ (openGate s).kli.failures = s.kli.failures ∧ (openGate s).kli.discards = s.kli.discards ∧ (openGate s).dcc.stage = s.dcc.stage
      ∧ (openGate s).dcc.queue = s.dcc.queue ∧ (openGate s).dcc.faultCode = s.dcc.faultCode ∧ (openGate s).dcc.secondFaults = s.dcc.secondFaults ∧ (openGate s).dcc.active.map (·.job) = s.dcc.active.map (·.job)
      ∧ (openGate s).dcc.active.isSome = s.dcc.active.isSome := by
  unfold openGate
  dsimp only
  split <;> (try split) <;> simp_all

@[simp] theorem releaseResv_frame :
    (releaseResv s).sck = s.sck ∧ (releaseResv s).cfs = s.cfs ∧ (releaseResv s).peers = s.peers ∧ (releaseResv s).pending = s.pending
      ∧ (releaseResv s).freeCount = s.freeCount ∧ (releaseResv s).inv = s.inv ∧ (releaseResv s).zcu = s.zcu ∧ (releaseResv s).sgx = s.sgx
      ∧ (releaseResv s).hif = s.hif ∧ (releaseResv s).wgu = s.wgu ∧ (releaseResv s).acu = s.acu ∧ (releaseResv s).cpt.mode = s.cpt.mode
      ∧ (releaseResv s).cpt.enables = s.cpt.enables ∧ (releaseResv s).cpt.response = s.cpt.response ∧ (releaseResv s).cpt.validating = s.cpt.validating ∧ (releaseResv s).cpt.restartPending = s.cpt.restartPending
      ∧ (releaseResv s).kli.lineLost = s.kli.lineLost ∧ (releaseResv s).kli.leaveRequest = s.kli.leaveRequest ∧ (releaseResv s).kli.attempt = s.kli.attempt ∧ (releaseResv s).kli.hunting = s.kli.hunting
      ∧ (releaseResv s).kli.heartbeat = s.kli.heartbeat ∧ (releaseResv s).kli.failures = s.kli.failures ∧ (releaseResv s).kli.discards = s.kli.discards ∧ (releaseResv s).dcc.stage = s.dcc.stage
      ∧ (releaseResv s).dcc.queue = s.dcc.queue ∧ (releaseResv s).dcc.faultCode = s.dcc.faultCode ∧ (releaseResv s).dcc.secondFaults = s.dcc.secondFaults ∧ (releaseResv s).dcc.active.map (·.job) = s.dcc.active.map (·.job)
      ∧ (releaseResv s).dcc.active.isSome = s.dcc.active.isSome := by
  unfold releaseResv
  (try dsimp only)
  (repeat' split) <;> simp_all

@[simp] theorem formFull_frame (steel : Nat) :
    (formFull steel s).sck = s.sck ∧ (formFull steel s).cfs = s.cfs ∧ (formFull steel s).peers = s.peers ∧ (formFull steel s).pending = s.pending
      ∧ (formFull steel s).freeCount = s.freeCount ∧ (formFull steel s).cpt = s.cpt ∧ (formFull steel s).kli = s.kli ∧ (formFull steel s).inv = s.inv
      ∧ (formFull steel s).zcu = s.zcu ∧ (formFull steel s).dcc = s.dcc ∧ (formFull steel s).sgx = s.sgx ∧ (formFull steel s).hif = s.hif
      ∧ (formFull steel s).wgu = s.wgu ∧ (formFull steel s).acu = s.acu := by
  unfold formFull
  (try dsimp only)
  (repeat' split) <;> simp_all

@[simp] theorem clearFull_frame :
    (clearFull s).sck = s.sck ∧ (clearFull s).cfs = s.cfs ∧ (clearFull s).peers = s.peers ∧ (clearFull s).pending = s.pending
      ∧ (clearFull s).freeCount = s.freeCount ∧ (clearFull s).cpt = s.cpt ∧ (clearFull s).kli = s.kli ∧ (clearFull s).inv = s.inv
      ∧ (clearFull s).zcu = s.zcu ∧ (clearFull s).dcc = s.dcc ∧ (clearFull s).sgx = s.sgx ∧ (clearFull s).hif = s.hif
      ∧ (clearFull s).wgu = s.wgu ∧ (clearFull s).acu = s.acu := by
  unfold clearFull
  (try dsimp only)
  (repeat' split) <;> simp_all

@[simp] theorem admCompletion_frame (c : Announced) :
    (admCompletion c s).sck = s.sck ∧ (admCompletion c s).cfs = s.cfs ∧ (admCompletion c s).peers = s.peers ∧ (admCompletion c s).pending = s.pending
      ∧ (admCompletion c s).freeCount = s.freeCount ∧ (admCompletion c s).cpt = s.cpt ∧ (admCompletion c s).kli = s.kli ∧ (admCompletion c s).inv = s.inv
      ∧ (admCompletion c s).zcu = s.zcu ∧ (admCompletion c s).dcc = s.dcc ∧ (admCompletion c s).sgx = s.sgx ∧ (admCompletion c s).hif = s.hif
      ∧ (admCompletion c s).wgu = s.wgu ∧ (admCompletion c s).acu = s.acu := by
  unfold admCompletion
  (try dsimp only)
  (repeat' split) <;> simp_all

@[simp] theorem refreshActual_frame :
    (refreshActual s).sck = s.sck ∧ (refreshActual s).cfs = s.cfs ∧ (refreshActual s).peers = s.peers ∧ (refreshActual s).pending = s.pending
      ∧ (refreshActual s).freeCount = s.freeCount ∧ (refreshActual s).cpt = s.cpt ∧ (refreshActual s).kli = s.kli ∧ (refreshActual s).inv = s.inv
      ∧ (refreshActual s).zcu = s.zcu ∧ (refreshActual s).dcc = s.dcc ∧ (refreshActual s).sgx = s.sgx ∧ (refreshActual s).hif = s.hif
      ∧ (refreshActual s).wgu = s.wgu ∧ (refreshActual s).acu = s.acu := by
  unfold refreshActual
  (try dsimp only)
  (repeat' split) <;> simp_all

@[simp] theorem testClear_frame :
    (testClear s).sck = s.sck ∧ (testClear s).cfs = s.cfs ∧ (testClear s).peers = s.peers ∧ (testClear s).pending = s.pending
      ∧ (testClear s).freeCount = s.freeCount ∧ (testClear s).inv = s.inv ∧ (testClear s).zcu = s.zcu ∧ (testClear s).sgx = s.sgx
      ∧ (testClear s).hif = s.hif ∧ (testClear s).wgu = s.wgu ∧ (testClear s).acu = s.acu ∧ (testClear s).cpt.mode = s.cpt.mode
      ∧ (testClear s).cpt.enables = s.cpt.enables ∧ (testClear s).cpt.response = s.cpt.response ∧ (testClear s).cpt.validating = s.cpt.validating ∧ (testClear s).cpt.restartPending = s.cpt.restartPending
      ∧ (testClear s).kli.lineLost = s.kli.lineLost ∧ (testClear s).kli.leaveRequest = s.kli.leaveRequest ∧ (testClear s).kli.attempt = s.kli.attempt ∧ (testClear s).kli.hunting = s.kli.hunting
      ∧ (testClear s).kli.heartbeat = s.kli.heartbeat ∧ (testClear s).kli.failures = s.kli.failures ∧ (testClear s).kli.discards = s.kli.discards ∧ (testClear s).dcc.stage = s.dcc.stage
      ∧ (testClear s).dcc.queue = s.dcc.queue ∧ (testClear s).dcc.faultCode = s.dcc.faultCode ∧ (testClear s).dcc.secondFaults = s.dcc.secondFaults ∧ (testClear s).dcc.active.map (·.job) = s.dcc.active.map (·.job)
      ∧ (testClear s).dcc.active.isSome = s.dcc.active.isSome := by
  unfold testClear
  (try dsimp only)
  (repeat' split) <;> simp_all [Function.comp_def]

@[simp] theorem admHookUpdate_frame :
    (admHookUpdate s).sck = s.sck ∧ (admHookUpdate s).cfs = s.cfs ∧ (admHookUpdate s).peers = s.peers ∧ (admHookUpdate s).pending = s.pending
      ∧ (admHookUpdate s).freeCount = s.freeCount ∧ (admHookUpdate s).inv = s.inv ∧ (admHookUpdate s).zcu = s.zcu ∧ (admHookUpdate s).sgx = s.sgx
      ∧ (admHookUpdate s).hif = s.hif ∧ (admHookUpdate s).wgu = s.wgu ∧ (admHookUpdate s).acu = s.acu ∧ (admHookUpdate s).cpt.mode = s.cpt.mode
      ∧ (admHookUpdate s).cpt.enables = s.cpt.enables ∧ (admHookUpdate s).cpt.response = s.cpt.response ∧ (admHookUpdate s).cpt.validating = s.cpt.validating ∧ (admHookUpdate s).cpt.restartPending = s.cpt.restartPending
      ∧ (admHookUpdate s).kli.lineLost = s.kli.lineLost ∧ (admHookUpdate s).kli.leaveRequest = s.kli.leaveRequest ∧ (admHookUpdate s).kli.attempt = s.kli.attempt ∧ (admHookUpdate s).kli.hunting = s.kli.hunting
      ∧ (admHookUpdate s).kli.heartbeat = s.kli.heartbeat ∧ (admHookUpdate s).kli.failures = s.kli.failures ∧ (admHookUpdate s).kli.discards = s.kli.discards ∧ (admHookUpdate s).dcc.stage = s.dcc.stage
      ∧ (admHookUpdate s).dcc.queue = s.dcc.queue ∧ (admHookUpdate s).dcc.faultCode = s.dcc.faultCode ∧ (admHookUpdate s).dcc.secondFaults = s.dcc.secondFaults ∧ (admHookUpdate s).dcc.active.map (·.job) = s.dcc.active.map (·.job)
      ∧ (admHookUpdate s).dcc.active.isSome = s.dcc.active.isSome := by
  unfold admHookUpdate
  (try dsimp only)
  (repeat' split) <;> simp_all

@[simp] theorem lowTest_frame :
    (lowTest s).sck = s.sck ∧ (lowTest s).cfs = s.cfs ∧ (lowTest s).peers = s.peers ∧ (lowTest s).pending = s.pending
      ∧ (lowTest s).freeCount = s.freeCount ∧ (lowTest s).kli = s.kli ∧ (lowTest s).zcu = s.zcu ∧ (lowTest s).adm = s.adm
      ∧ (lowTest s).dcc = s.dcc ∧ (lowTest s).sgx = s.sgx ∧ (lowTest s).hif = s.hif ∧ (lowTest s).wgu = s.wgu
      ∧ (lowTest s).acu = s.acu ∧ (lowTest s).cpt.mode = s.cpt.mode ∧ (lowTest s).cpt.enables = s.cpt.enables ∧ (lowTest s).cpt.response = s.cpt.response
      ∧ (lowTest s).cpt.validating = s.cpt.validating ∧ (lowTest s).cpt.restartPending = s.cpt.restartPending := by
  unfold lowTest
  (try dsimp only)
  (repeat' split) <;> simp_all

@[simp] theorem invArrive_frame (f : Inv → Inv) :
    (invArrive f s).sck = s.sck ∧ (invArrive f s).cfs = s.cfs ∧ (invArrive f s).peers = s.peers ∧ (invArrive f s).pending = s.pending
      ∧ (invArrive f s).freeCount = s.freeCount ∧ (invArrive f s).zcu = s.zcu ∧ (invArrive f s).sgx = s.sgx ∧ (invArrive f s).hif = s.hif
      ∧ (invArrive f s).wgu = s.wgu ∧ (invArrive f s).acu = s.acu ∧ (invArrive f s).cpt.mode = s.cpt.mode ∧ (invArrive f s).cpt.enables = s.cpt.enables
      ∧ (invArrive f s).cpt.response = s.cpt.response ∧ (invArrive f s).cpt.validating = s.cpt.validating ∧ (invArrive f s).cpt.restartPending = s.cpt.restartPending ∧ (invArrive f s).kli.lineLost = s.kli.lineLost
      ∧ (invArrive f s).kli.leaveRequest = s.kli.leaveRequest ∧ (invArrive f s).kli.attempt = s.kli.attempt ∧ (invArrive f s).kli.hunting = s.kli.hunting ∧ (invArrive f s).kli.heartbeat = s.kli.heartbeat
      ∧ (invArrive f s).kli.failures = s.kli.failures ∧ (invArrive f s).kli.discards = s.kli.discards ∧ (invArrive f s).dcc.stage = s.dcc.stage ∧ (invArrive f s).dcc.queue = s.dcc.queue
      ∧ (invArrive f s).dcc.faultCode = s.dcc.faultCode ∧ (invArrive f s).dcc.secondFaults = s.dcc.secondFaults ∧ (invArrive f s).dcc.active.map (·.job) = s.dcc.active.map (·.job) ∧ (invArrive f s).dcc.active.isSome = s.dcc.active.isSome := by
  unfold invArrive
  (try dsimp only)
  (repeat' split) <;> simp_all

@[simp] theorem invPeerState_frame (first : Bool) (new last : Announced) :
    (invPeerState first new last s).sck = s.sck ∧ (invPeerState first new last s).cfs = s.cfs ∧ (invPeerState first new last s).peers = s.peers ∧ (invPeerState first new last s).pending = s.pending
      ∧ (invPeerState first new last s).freeCount = s.freeCount ∧ (invPeerState first new last s).zcu = s.zcu ∧ (invPeerState first new last s).sgx = s.sgx ∧ (invPeerState first new last s).hif = s.hif
      ∧ (invPeerState first new last s).wgu = s.wgu ∧ (invPeerState first new last s).acu = s.acu ∧ (invPeerState first new last s).cpt.mode = s.cpt.mode ∧ (invPeerState first new last s).cpt.enables = s.cpt.enables
      ∧ (invPeerState first new last s).cpt.response = s.cpt.response ∧ (invPeerState first new last s).cpt.validating = s.cpt.validating ∧ (invPeerState first new last s).cpt.restartPending = s.cpt.restartPending ∧ (invPeerState first new last s).kli.lineLost = s.kli.lineLost
      ∧ (invPeerState first new last s).kli.leaveRequest = s.kli.leaveRequest ∧ (invPeerState first new last s).kli.attempt = s.kli.attempt ∧ (invPeerState first new last s).kli.hunting = s.kli.hunting ∧ (invPeerState first new last s).kli.heartbeat = s.kli.heartbeat
      ∧ (invPeerState first new last s).kli.failures = s.kli.failures ∧ (invPeerState first new last s).kli.discards = s.kli.discards ∧ (invPeerState first new last s).dcc.stage = s.dcc.stage ∧ (invPeerState first new last s).dcc.queue = s.dcc.queue
      ∧ (invPeerState first new last s).dcc.faultCode = s.dcc.faultCode ∧ (invPeerState first new last s).dcc.secondFaults = s.dcc.secondFaults ∧ (invPeerState first new last s).dcc.active.map (·.job) = s.dcc.active.map (·.job) ∧ (invPeerState first new last s).dcc.active.isSome = s.dcc.active.isSome := by
  unfold invPeerState
  (try dsimp only)
  (repeat' split) <;> simp_all

@[simp] theorem logRecord_frame (r : DipRecord) :
    (logRecord r s).sck = s.sck ∧ (logRecord r s).cfs = s.cfs ∧ (logRecord r s).peers = s.peers ∧ (logRecord r s).pending = s.pending
      ∧ (logRecord r s).freeCount = s.freeCount ∧ (logRecord r s).kli = s.kli ∧ (logRecord r s).inv = s.inv ∧ (logRecord r s).zcu = s.zcu
      ∧ (logRecord r s).adm = s.adm ∧ (logRecord r s).dcc = s.dcc ∧ (logRecord r s).sgx = s.sgx ∧ (logRecord r s).hif = s.hif
      ∧ (logRecord r s).wgu = s.wgu ∧ (logRecord r s).cpt.mode = s.cpt.mode ∧ (logRecord r s).cpt.enables = s.cpt.enables ∧ (logRecord r s).cpt.response = s.cpt.response
      ∧ (logRecord r s).cpt.validating = s.cpt.validating ∧ (logRecord r s).cpt.restartPending = s.cpt.restartPending := by
  unfold logRecord
  (try dsimp only)
  (repeat' split) <;> simp_all

@[simp] theorem storeDip_frame :
    (storeDip s).sck = s.sck ∧ (storeDip s).cfs = s.cfs ∧ (storeDip s).peers = s.peers ∧ (storeDip s).pending = s.pending
      ∧ (storeDip s).freeCount = s.freeCount ∧ (storeDip s).zcu = s.zcu ∧ (storeDip s).sgx = s.sgx ∧ (storeDip s).hif = s.hif
      ∧ (storeDip s).wgu = s.wgu ∧ (storeDip s).cpt.mode = s.cpt.mode ∧ (storeDip s).cpt.enables = s.cpt.enables ∧ (storeDip s).cpt.response = s.cpt.response
      ∧ (storeDip s).cpt.validating = s.cpt.validating ∧ (storeDip s).cpt.restartPending = s.cpt.restartPending ∧ (storeDip s).kli.lineLost = s.kli.lineLost ∧ (storeDip s).kli.leaveRequest = s.kli.leaveRequest
      ∧ (storeDip s).kli.attempt = s.kli.attempt ∧ (storeDip s).kli.hunting = s.kli.hunting ∧ (storeDip s).kli.heartbeat = s.kli.heartbeat ∧ (storeDip s).kli.failures = s.kli.failures
      ∧ (storeDip s).kli.discards = s.kli.discards ∧ (storeDip s).dcc.stage = s.dcc.stage ∧ (storeDip s).dcc.queue = s.dcc.queue ∧ (storeDip s).dcc.faultCode = s.dcc.faultCode
      ∧ (storeDip s).dcc.secondFaults = s.dcc.secondFaults ∧ (storeDip s).dcc.active.map (·.job) = s.dcc.active.map (·.job) ∧ (storeDip s).dcc.active.isSome = s.dcc.active.isSome := by
  unfold storeDip
  (try dsimp only)
  (repeat' split) <;> simp_all

@[simp] theorem reportClaim_frame :
    (reportClaim s).sck = s.sck ∧ (reportClaim s).cfs = s.cfs ∧ (reportClaim s).peers = s.peers ∧ (reportClaim s).pending = s.pending
      ∧ (reportClaim s).freeCount = s.freeCount ∧ (reportClaim s).inv = s.inv ∧ (reportClaim s).zcu = s.zcu ∧ (reportClaim s).adm = s.adm
      ∧ (reportClaim s).sgx = s.sgx ∧ (reportClaim s).hif = s.hif ∧ (reportClaim s).wgu = s.wgu ∧ (reportClaim s).acu = s.acu
      ∧ (reportClaim s).cpt.mode = s.cpt.mode ∧ (reportClaim s).cpt.enables = s.cpt.enables ∧ (reportClaim s).cpt.response = s.cpt.response ∧ (reportClaim s).cpt.validating = s.cpt.validating
      ∧ (reportClaim s).cpt.restartPending = s.cpt.restartPending ∧ (reportClaim s).kli.lineLost = s.kli.lineLost ∧ (reportClaim s).kli.leaveRequest = s.kli.leaveRequest ∧ (reportClaim s).kli.attempt = s.kli.attempt
      ∧ (reportClaim s).kli.hunting = s.kli.hunting ∧ (reportClaim s).kli.heartbeat = s.kli.heartbeat ∧ (reportClaim s).kli.failures = s.kli.failures ∧ (reportClaim s).kli.discards = s.kli.discards
      ∧ (reportClaim s).dcc.stage = s.dcc.stage ∧ (reportClaim s).dcc.queue = s.dcc.queue ∧ (reportClaim s).dcc.faultCode = s.dcc.faultCode ∧ (reportClaim s).dcc.secondFaults = s.dcc.secondFaults
      ∧ (reportClaim s).dcc.active.map (·.job) = s.dcc.active.map (·.job) ∧ (reportClaim s).dcc.active.isSome = s.dcc.active.isSome := by
  unfold reportClaim
  (try dsimp only)
  (repeat' split) <;> simp_all

@[simp] theorem setClaim_frame (c : ClaimState) (m : Mask) :
    (setClaim c m s).sck = s.sck ∧ (setClaim c m s).cfs = s.cfs ∧ (setClaim c m s).peers = s.peers ∧ (setClaim c m s).pending = s.pending
      ∧ (setClaim c m s).freeCount = s.freeCount ∧ (setClaim c m s).inv = s.inv ∧ (setClaim c m s).adm = s.adm ∧ (setClaim c m s).sgx = s.sgx
      ∧ (setClaim c m s).hif = s.hif ∧ (setClaim c m s).wgu = s.wgu ∧ (setClaim c m s).acu = s.acu ∧ (setClaim c m s).cpt.mode = s.cpt.mode
      ∧ (setClaim c m s).cpt.enables = s.cpt.enables ∧ (setClaim c m s).cpt.response = s.cpt.response ∧ (setClaim c m s).cpt.validating = s.cpt.validating ∧ (setClaim c m s).cpt.restartPending = s.cpt.restartPending
      ∧ (setClaim c m s).kli.lineLost = s.kli.lineLost ∧ (setClaim c m s).kli.leaveRequest = s.kli.leaveRequest ∧ (setClaim c m s).kli.attempt = s.kli.attempt ∧ (setClaim c m s).kli.hunting = s.kli.hunting
      ∧ (setClaim c m s).kli.heartbeat = s.kli.heartbeat ∧ (setClaim c m s).kli.failures = s.kli.failures ∧ (setClaim c m s).kli.discards = s.kli.discards ∧ (setClaim c m s).dcc.stage = s.dcc.stage
      ∧ (setClaim c m s).dcc.queue = s.dcc.queue ∧ (setClaim c m s).dcc.faultCode = s.dcc.faultCode ∧ (setClaim c m s).dcc.secondFaults = s.dcc.secondFaults ∧ (setClaim c m s).dcc.active.map (·.job) = s.dcc.active.map (·.job)
      ∧ (setClaim c m s).dcc.active.isSome = s.dcc.active.isSome ∧ (setClaim c m s).zcu = { s.zcu with claim := c, mask := m } := by
  unfold setClaim
  (try dsimp only)
  (repeat' split) <;> simp_all

@[simp] theorem testClaim_frame :
    (testClaim s).sck = s.sck ∧ (testClaim s).cfs = s.cfs ∧ (testClaim s).peers = s.peers ∧ (testClaim s).pending = s.pending
      ∧ (testClaim s).freeCount = s.freeCount ∧ (testClaim s).inv = s.inv ∧ (testClaim s).adm = s.adm ∧ (testClaim s).sgx = s.sgx
      ∧ (testClaim s).hif = s.hif ∧ (testClaim s).wgu = s.wgu ∧ (testClaim s).acu = s.acu ∧ (testClaim s).cpt.mode = s.cpt.mode
      ∧ (testClaim s).cpt.enables = s.cpt.enables ∧ (testClaim s).cpt.response = s.cpt.response ∧ (testClaim s).cpt.validating = s.cpt.validating ∧ (testClaim s).cpt.restartPending = s.cpt.restartPending
      ∧ (testClaim s).kli.lineLost = s.kli.lineLost ∧ (testClaim s).kli.leaveRequest = s.kli.leaveRequest ∧ (testClaim s).kli.attempt = s.kli.attempt ∧ (testClaim s).kli.hunting = s.kli.hunting
      ∧ (testClaim s).kli.heartbeat = s.kli.heartbeat ∧ (testClaim s).kli.failures = s.kli.failures ∧ (testClaim s).kli.discards = s.kli.discards ∧ (testClaim s).dcc.stage = s.dcc.stage
      ∧ (testClaim s).dcc.queue = s.dcc.queue ∧ (testClaim s).dcc.faultCode = s.dcc.faultCode ∧ (testClaim s).dcc.secondFaults = s.dcc.secondFaults ∧ (testClaim s).dcc.active.map (·.job) = s.dcc.active.map (·.job)
      ∧ (testClaim s).dcc.active.isSome = s.dcc.active.isSome := by
  unfold testClaim
  (try dsimp only)
  (repeat' split) <;> simp_all

@[simp] theorem releaseClaim_frame :
    (releaseClaim s).sck = s.sck ∧ (releaseClaim s).cfs = s.cfs ∧ (releaseClaim s).peers = s.peers ∧ (releaseClaim s).pending = s.pending
      ∧ (releaseClaim s).freeCount = s.freeCount ∧ (releaseClaim s).inv = s.inv ∧ (releaseClaim s).adm = s.adm ∧ (releaseClaim s).sgx = s.sgx
      ∧ (releaseClaim s).hif = s.hif ∧ (releaseClaim s).wgu = s.wgu ∧ (releaseClaim s).acu = s.acu ∧ (releaseClaim s).cpt.mode = s.cpt.mode
      ∧ (releaseClaim s).cpt.enables = s.cpt.enables ∧ (releaseClaim s).cpt.response = s.cpt.response ∧ (releaseClaim s).cpt.validating = s.cpt.validating ∧ (releaseClaim s).cpt.restartPending = s.cpt.restartPending
      ∧ (releaseClaim s).kli.lineLost = s.kli.lineLost ∧ (releaseClaim s).kli.leaveRequest = s.kli.leaveRequest ∧ (releaseClaim s).kli.attempt = s.kli.attempt ∧ (releaseClaim s).kli.hunting = s.kli.hunting
      ∧ (releaseClaim s).kli.heartbeat = s.kli.heartbeat ∧ (releaseClaim s).kli.failures = s.kli.failures ∧ (releaseClaim s).kli.discards = s.kli.discards ∧ (releaseClaim s).dcc.stage = s.dcc.stage
      ∧ (releaseClaim s).dcc.queue = s.dcc.queue ∧ (releaseClaim s).dcc.faultCode = s.dcc.faultCode ∧ (releaseClaim s).dcc.secondFaults = s.dcc.secondFaults ∧ (releaseClaim s).dcc.active.map (·.job) = s.dcc.active.map (·.job)
      ∧ (releaseClaim s).dcc.active.isSome = s.dcc.active.isSome := by
  unfold releaseClaim
  (try dsimp only)
  (repeat' split) <;> simp_all

@[simp] theorem zcuLineChanged_frame :
    (zcuLineChanged s).sck = s.sck ∧ (zcuLineChanged s).cfs = s.cfs ∧ (zcuLineChanged s).peers = s.peers ∧ (zcuLineChanged s).pending = s.pending
      ∧ (zcuLineChanged s).freeCount = s.freeCount ∧ (zcuLineChanged s).inv = s.inv ∧ (zcuLineChanged s).adm = s.adm ∧ (zcuLineChanged s).sgx = s.sgx
      ∧ (zcuLineChanged s).hif = s.hif ∧ (zcuLineChanged s).wgu = s.wgu ∧ (zcuLineChanged s).acu = s.acu ∧ (zcuLineChanged s).cpt.mode = s.cpt.mode
      ∧ (zcuLineChanged s).cpt.enables = s.cpt.enables ∧ (zcuLineChanged s).cpt.response = s.cpt.response ∧ (zcuLineChanged s).cpt.validating = s.cpt.validating ∧ (zcuLineChanged s).cpt.restartPending = s.cpt.restartPending
      ∧ (zcuLineChanged s).kli.lineLost = s.kli.lineLost ∧ (zcuLineChanged s).kli.leaveRequest = s.kli.leaveRequest ∧ (zcuLineChanged s).kli.attempt = s.kli.attempt ∧ (zcuLineChanged s).kli.hunting = s.kli.hunting
      ∧ (zcuLineChanged s).kli.heartbeat = s.kli.heartbeat ∧ (zcuLineChanged s).kli.failures = s.kli.failures ∧ (zcuLineChanged s).kli.discards = s.kli.discards ∧ (zcuLineChanged s).dcc.stage = s.dcc.stage
      ∧ (zcuLineChanged s).dcc.queue = s.dcc.queue ∧ (zcuLineChanged s).dcc.faultCode = s.dcc.faultCode ∧ (zcuLineChanged s).dcc.secondFaults = s.dcc.secondFaults ∧ (zcuLineChanged s).dcc.active.map (·.job) = s.dcc.active.map (·.job)
      ∧ (zcuLineChanged s).dcc.active.isSome = s.dcc.active.isSome := by
  unfold zcuLineChanged
  (try dsimp only)
  (repeat' split) <;> simp_all

@[simp] theorem zcuCompletion_frame (c : Announced) :
    (zcuCompletion c s).sck = s.sck ∧ (zcuCompletion c s).cfs = s.cfs ∧ (zcuCompletion c s).peers = s.peers ∧ (zcuCompletion c s).pending = s.pending
      ∧ (zcuCompletion c s).freeCount = s.freeCount ∧ (zcuCompletion c s).cpt = s.cpt ∧ (zcuCompletion c s).kli = s.kli ∧ (zcuCompletion c s).inv = s.inv
      ∧ (zcuCompletion c s).adm = s.adm ∧ (zcuCompletion c s).dcc = s.dcc ∧ (zcuCompletion c s).sgx = s.sgx ∧ (zcuCompletion c s).hif = s.hif
      ∧ (zcuCompletion c s).wgu = s.wgu ∧ (zcuCompletion c s).acu = s.acu := by
  unfold zcuCompletion
  (try dsimp only)
  (repeat' split) <;> simp_all

@[simp] theorem reviewPending_frame (i : StationIx) :
    (reviewPending i s).sck = s.sck ∧ (reviewPending i s).cfs = s.cfs ∧ (reviewPending i s).peers = s.peers ∧ (reviewPending i s).pending = s.pending
      ∧ (reviewPending i s).freeCount = s.freeCount ∧ (reviewPending i s).inv = s.inv ∧ (reviewPending i s).adm = s.adm ∧ (reviewPending i s).sgx = s.sgx
      ∧ (reviewPending i s).hif = s.hif ∧ (reviewPending i s).wgu = s.wgu ∧ (reviewPending i s).acu = s.acu ∧ (reviewPending i s).cpt.mode = s.cpt.mode
      ∧ (reviewPending i s).cpt.enables = s.cpt.enables ∧ (reviewPending i s).cpt.response = s.cpt.response ∧ (reviewPending i s).cpt.validating = s.cpt.validating ∧ (reviewPending i s).cpt.restartPending = s.cpt.restartPending
      ∧ (reviewPending i s).kli.lineLost = s.kli.lineLost ∧ (reviewPending i s).kli.leaveRequest = s.kli.leaveRequest ∧ (reviewPending i s).kli.attempt = s.kli.attempt ∧ (reviewPending i s).kli.hunting = s.kli.hunting
      ∧ (reviewPending i s).kli.heartbeat = s.kli.heartbeat ∧ (reviewPending i s).kli.failures = s.kli.failures ∧ (reviewPending i s).kli.discards = s.kli.discards ∧ (reviewPending i s).dcc.stage = s.dcc.stage
      ∧ (reviewPending i s).dcc.queue = s.dcc.queue ∧ (reviewPending i s).dcc.faultCode = s.dcc.faultCode ∧ (reviewPending i s).dcc.secondFaults = s.dcc.secondFaults ∧ (reviewPending i s).dcc.active.map (·.job) = s.dcc.active.map (·.job)
      ∧ (reviewPending i s).dcc.active.isSome = s.dcc.active.isSome := by
  unfold reviewPending
  (try dsimp only)
  (repeat' split) <;> simp_all

@[simp] theorem reviewHeld_frame (i : StationIx) :
    (reviewHeld i s).sck = s.sck ∧ (reviewHeld i s).cfs = s.cfs ∧ (reviewHeld i s).peers = s.peers ∧ (reviewHeld i s).pending = s.pending
      ∧ (reviewHeld i s).freeCount = s.freeCount ∧ (reviewHeld i s).cpt = s.cpt ∧ (reviewHeld i s).inv = s.inv ∧ (reviewHeld i s).zcu = s.zcu
      ∧ (reviewHeld i s).adm = s.adm ∧ (reviewHeld i s).dcc = s.dcc ∧ (reviewHeld i s).sgx = s.sgx ∧ (reviewHeld i s).hif = s.hif
      ∧ (reviewHeld i s).wgu = s.wgu ∧ (reviewHeld i s).acu = s.acu ∧ (reviewHeld i s).kli.lineLost = s.kli.lineLost ∧ (reviewHeld i s).kli.leaveRequest = s.kli.leaveRequest
      ∧ (reviewHeld i s).kli.attempt = s.kli.attempt ∧ (reviewHeld i s).kli.hunting = s.kli.hunting ∧ (reviewHeld i s).kli.heartbeat = s.kli.heartbeat ∧ (reviewHeld i s).kli.failures = s.kli.failures
      ∧ (reviewHeld i s).kli.discards = s.kli.discards := by
  unfold reviewHeld
  (try dsimp only)
  (repeat' split) <;> simp_all

@[simp] theorem beginConflict_frame :
    (beginConflict s).sck = s.sck ∧ (beginConflict s).cfs = s.cfs ∧ (beginConflict s).peers = s.peers ∧ (beginConflict s).pending = s.pending
      ∧ (beginConflict s).freeCount = s.freeCount ∧ (beginConflict s).inv = s.inv ∧ (beginConflict s).adm = s.adm ∧ (beginConflict s).sgx = s.sgx
      ∧ (beginConflict s).hif = s.hif ∧ (beginConflict s).wgu = s.wgu ∧ (beginConflict s).acu = s.acu ∧ (beginConflict s).cpt.mode = s.cpt.mode
      ∧ (beginConflict s).cpt.enables = s.cpt.enables ∧ (beginConflict s).cpt.response = s.cpt.response ∧ (beginConflict s).cpt.validating = s.cpt.validating ∧ (beginConflict s).cpt.restartPending = s.cpt.restartPending
      ∧ (beginConflict s).kli.lineLost = s.kli.lineLost ∧ (beginConflict s).kli.leaveRequest = s.kli.leaveRequest ∧ (beginConflict s).kli.attempt = s.kli.attempt ∧ (beginConflict s).kli.hunting = s.kli.hunting
      ∧ (beginConflict s).kli.heartbeat = s.kli.heartbeat ∧ (beginConflict s).kli.failures = s.kli.failures ∧ (beginConflict s).kli.discards = s.kli.discards ∧ (beginConflict s).dcc.stage = s.dcc.stage
      ∧ (beginConflict s).dcc.queue = s.dcc.queue ∧ (beginConflict s).dcc.faultCode = s.dcc.faultCode ∧ (beginConflict s).dcc.secondFaults = s.dcc.secondFaults ∧ (beginConflict s).dcc.active.map (·.job) = s.dcc.active.map (·.job)
      ∧ (beginConflict s).dcc.active.isSome = s.dcc.active.isSome := by
  unfold beginConflict
  (try dsimp only)
  (repeat' split) <;> simp_all [Function.comp_def]

@[simp] theorem weighRequest_frame :
    (weighRequest s).sck = s.sck ∧ (weighRequest s).cfs = s.cfs ∧ (weighRequest s).peers = s.peers ∧ (weighRequest s).pending = s.pending
      ∧ (weighRequest s).freeCount = s.freeCount ∧ (weighRequest s).cpt = s.cpt ∧ (weighRequest s).kli = s.kli ∧ (weighRequest s).inv = s.inv
      ∧ (weighRequest s).zcu = s.zcu ∧ (weighRequest s).adm = s.adm ∧ (weighRequest s).dcc = s.dcc ∧ (weighRequest s).sgx = s.sgx
      ∧ (weighRequest s).hif = s.hif ∧ (weighRequest s).acu = s.acu := by
  unfold weighRequest
  (try dsimp only)
  (repeat' split) <;> simp_all

@[simp] theorem dropWeigh_frame :
    (dropWeigh s).sck = s.sck ∧ (dropWeigh s).cfs = s.cfs ∧ (dropWeigh s).peers = s.peers ∧ (dropWeigh s).pending = s.pending
      ∧ (dropWeigh s).freeCount = s.freeCount ∧ (dropWeigh s).cpt = s.cpt ∧ (dropWeigh s).kli = s.kli ∧ (dropWeigh s).inv = s.inv
      ∧ (dropWeigh s).zcu = s.zcu ∧ (dropWeigh s).adm = s.adm ∧ (dropWeigh s).dcc = s.dcc ∧ (dropWeigh s).sgx = s.sgx
      ∧ (dropWeigh s).hif = s.hif ∧ (dropWeigh s).acu = s.acu := by
  unfold dropWeigh
  (try dsimp only)
  (repeat' split) <;> simp_all

@[simp] theorem markersLow_frame :
    (markersLow s).sck = s.sck ∧ (markersLow s).cfs = s.cfs ∧ (markersLow s).peers = s.peers ∧ (markersLow s).pending = s.pending
      ∧ (markersLow s).freeCount = s.freeCount ∧ (markersLow s).cpt = s.cpt ∧ (markersLow s).kli = s.kli ∧ (markersLow s).inv = s.inv
      ∧ (markersLow s).zcu = s.zcu ∧ (markersLow s).adm = s.adm ∧ (markersLow s).dcc = s.dcc ∧ (markersLow s).hif = s.hif
      ∧ (markersLow s).wgu = s.wgu ∧ (markersLow s).acu = s.acu := by
  unfold markersLow
  (try dsimp only)
  (repeat' split) <;> simp_all

@[simp] theorem applyMarkers_frame (g : Segment) :
    (applyMarkers g s).sck = s.sck ∧ (applyMarkers g s).cfs = s.cfs ∧ (applyMarkers g s).peers = s.peers ∧ (applyMarkers g s).pending = s.pending
      ∧ (applyMarkers g s).freeCount = s.freeCount ∧ (applyMarkers g s).cpt = s.cpt ∧ (applyMarkers g s).kli = s.kli ∧ (applyMarkers g s).inv = s.inv
      ∧ (applyMarkers g s).zcu = s.zcu ∧ (applyMarkers g s).adm = s.adm ∧ (applyMarkers g s).dcc = s.dcc ∧ (applyMarkers g s).hif = s.hif
      ∧ (applyMarkers g s).wgu = s.wgu ∧ (applyMarkers g s).acu = s.acu := by
  unfold applyMarkers
  (try dsimp only)
  (repeat' split) <;> simp_all

@[simp] theorem noteClamps_frame (d sp : Bool) :
    (noteClamps d sp s).sck = s.sck ∧ (noteClamps d sp s).cfs = s.cfs ∧ (noteClamps d sp s).peers = s.peers ∧ (noteClamps d sp s).pending = s.pending
      ∧ (noteClamps d sp s).freeCount = s.freeCount ∧ (noteClamps d sp s).cpt = s.cpt ∧ (noteClamps d sp s).kli = s.kli ∧ (noteClamps d sp s).inv = s.inv
      ∧ (noteClamps d sp s).zcu = s.zcu ∧ (noteClamps d sp s).adm = s.adm ∧ (noteClamps d sp s).sgx = s.sgx ∧ (noteClamps d sp s).hif = s.hif
      ∧ (noteClamps d sp s).wgu = s.wgu ∧ (noteClamps d sp s).acu = s.acu ∧ (noteClamps d sp s).dcc.stage = s.dcc.stage ∧ (noteClamps d sp s).dcc.queue = s.dcc.queue
      ∧ (noteClamps d sp s).dcc.faultCode = s.dcc.faultCode ∧ (noteClamps d sp s).dcc.secondFaults = s.dcc.secondFaults ∧ (noteClamps d sp s).dcc.active.map (·.job) = s.dcc.active.map (·.job) ∧ (noteClamps d sp s).dcc.active.isSome = s.dcc.active.isSome := by
  unfold noteClamps
  (try dsimp only)
  (repeat' split) <;> simp_all [Function.comp_def]

@[simp] theorem startLeg_frame (r : Running) :
    (startLeg r s).sck = s.sck ∧ (startLeg r s).cfs = s.cfs ∧ (startLeg r s).peers = s.peers ∧ (startLeg r s).pending = s.pending
      ∧ (startLeg r s).freeCount = s.freeCount ∧ (startLeg r s).cpt = s.cpt ∧ (startLeg r s).kli = s.kli ∧ (startLeg r s).inv = s.inv
      ∧ (startLeg r s).zcu = s.zcu ∧ (startLeg r s).adm = s.adm ∧ (startLeg r s).dcc = s.dcc ∧ (startLeg r s).wgu = s.wgu
      ∧ (startLeg r s).acu = s.acu := by
  unfold startLeg
  (try dsimp only)
  (repeat' split) <;> simp_all

@[simp] theorem startMotion_frame :
    (startMotion s).sck = s.sck ∧ (startMotion s).cfs = s.cfs ∧ (startMotion s).peers = s.peers ∧ (startMotion s).pending = s.pending
      ∧ (startMotion s).freeCount = s.freeCount ∧ (startMotion s).cpt = s.cpt ∧ (startMotion s).kli = s.kli ∧ (startMotion s).inv = s.inv
      ∧ (startMotion s).zcu = s.zcu ∧ (startMotion s).adm = s.adm ∧ (startMotion s).dcc = s.dcc ∧ (startMotion s).sgx = s.sgx
      ∧ (startMotion s).wgu = s.wgu ∧ (startMotion s).acu = s.acu := by
  unfold startMotion
  (try dsimp only)
  (repeat' split) <;> simp_all

@[simp] theorem dropSegment_frame :
    (dropSegment s).sck = s.sck ∧ (dropSegment s).cfs = s.cfs ∧ (dropSegment s).peers = s.peers ∧ (dropSegment s).pending = s.pending
      ∧ (dropSegment s).freeCount = s.freeCount ∧ (dropSegment s).cpt = s.cpt ∧ (dropSegment s).kli = s.kli ∧ (dropSegment s).inv = s.inv
      ∧ (dropSegment s).zcu = s.zcu ∧ (dropSegment s).adm = s.adm ∧ (dropSegment s).dcc = s.dcc ∧ (dropSegment s).wgu = s.wgu
      ∧ (dropSegment s).acu = s.acu := by
  unfold dropSegment
  (try dsimp only)
  (repeat' split) <;> simp_all

@[simp] theorem startMove_frame (r : Reference) (target : Int) (speed : Nat) :
    (startMove r target speed s).sck = s.sck ∧ (startMove r target speed s).cfs = s.cfs ∧ (startMove r target speed s).peers = s.peers ∧ (startMove r target speed s).pending = s.pending
      ∧ (startMove r target speed s).freeCount = s.freeCount ∧ (startMove r target speed s).cpt = s.cpt ∧ (startMove r target speed s).kli = s.kli ∧ (startMove r target speed s).inv = s.inv
      ∧ (startMove r target speed s).zcu = s.zcu ∧ (startMove r target speed s).adm = s.adm ∧ (startMove r target speed s).wgu = s.wgu ∧ (startMove r target speed s).acu = s.acu
      ∧ (startMove r target speed s).dcc.stage = s.dcc.stage ∧ (startMove r target speed s).dcc.queue = s.dcc.queue ∧ (startMove r target speed s).dcc.faultCode = s.dcc.faultCode ∧ (startMove r target speed s).dcc.secondFaults = s.dcc.secondFaults
      ∧ (startMove r target speed s).dcc.active.map (·.job) = s.dcc.active.map (·.job) ∧ (startMove r target speed s).dcc.active.isSome = s.dcc.active.isSome := by
  unfold startMove
  (try dsimp only)
  (repeat' split) <;> simp_all

@[simp] theorem startShake_frame (r : Reference) (target : Int) (speed amplitude count : Nat) :
    (startShake r target speed amplitude count s).sck = s.sck ∧ (startShake r target speed amplitude count s).cfs = s.cfs ∧ (startShake r target speed amplitude count s).peers = s.peers ∧ (startShake r target speed amplitude count s).pending = s.pending
      ∧ (startShake r target speed amplitude count s).freeCount = s.freeCount ∧ (startShake r target speed amplitude count s).cpt = s.cpt ∧ (startShake r target speed amplitude count s).kli = s.kli ∧ (startShake r target speed amplitude count s).inv = s.inv
      ∧ (startShake r target speed amplitude count s).zcu = s.zcu ∧ (startShake r target speed amplitude count s).adm = s.adm ∧ (startShake r target speed amplitude count s).wgu = s.wgu ∧ (startShake r target speed amplitude count s).acu = s.acu
      ∧ (startShake r target speed amplitude count s).dcc.stage = s.dcc.stage ∧ (startShake r target speed amplitude count s).dcc.queue = s.dcc.queue ∧ (startShake r target speed amplitude count s).dcc.faultCode = s.dcc.faultCode ∧ (startShake r target speed amplitude count s).dcc.secondFaults = s.dcc.secondFaults
      ∧ (startShake r target speed amplitude count s).dcc.active.map (·.job) = s.dcc.active.map (·.job) ∧ (startShake r target speed amplitude count s).dcc.active.isSome = s.dcc.active.isSome := by
  unfold startShake
  (try dsimp only)
  (repeat' split) <;> simp_all

@[simp] theorem startDwell_frame (time : Nat) :
    (startDwell time s).sck = s.sck ∧ (startDwell time s).cfs = s.cfs ∧ (startDwell time s).peers = s.peers ∧ (startDwell time s).pending = s.pending
      ∧ (startDwell time s).freeCount = s.freeCount ∧ (startDwell time s).cpt = s.cpt ∧ (startDwell time s).kli = s.kli ∧ (startDwell time s).inv = s.inv
      ∧ (startDwell time s).zcu = s.zcu ∧ (startDwell time s).adm = s.adm ∧ (startDwell time s).dcc = s.dcc ∧ (startDwell time s).wgu = s.wgu
      ∧ (startDwell time s).acu = s.acu := by
  unfold startDwell
  (try dsimp only)
  (repeat' split) <;> simp_all

@[simp] theorem clearLatch_frame (t : Trigger) :
    (clearLatch t s).sck = s.sck ∧ (clearLatch t s).cfs = s.cfs ∧ (clearLatch t s).peers = s.peers ∧ (clearLatch t s).pending = s.pending
      ∧ (clearLatch t s).freeCount = s.freeCount ∧ (clearLatch t s).cpt = s.cpt ∧ (clearLatch t s).kli = s.kli ∧ (clearLatch t s).inv = s.inv
      ∧ (clearLatch t s).zcu = s.zcu ∧ (clearLatch t s).adm = s.adm ∧ (clearLatch t s).dcc = s.dcc ∧ (clearLatch t s).sgx = s.sgx
      ∧ (clearLatch t s).wgu = s.wgu ∧ (clearLatch t s).acu = s.acu := by
  unfold clearLatch
  (try dsimp only)
  (repeat' split) <;> simp_all

@[simp] theorem startWait_frame (input : Trigger) (edge : EdgeChoice) (time : Nat) :
    (startWait input edge time s).sck = s.sck ∧ (startWait input edge time s).cfs = s.cfs ∧ (startWait input edge time s).peers = s.peers ∧ (startWait input edge time s).pending = s.pending
      ∧ (startWait input edge time s).freeCount = s.freeCount ∧ (startWait input edge time s).cpt = s.cpt ∧ (startWait input edge time s).kli = s.kli ∧ (startWait input edge time s).inv = s.inv
      ∧ (startWait input edge time s).zcu = s.zcu ∧ (startWait input edge time s).adm = s.adm ∧ (startWait input edge time s).dcc = s.dcc ∧ (startWait input edge time s).wgu = s.wgu
      ∧ (startWait input edge time s).acu = s.acu := by
  unfold startWait
  (try dsimp only)
  (repeat' split) <;> simp_all

@[simp] theorem startWork_frame (w : Work) :
    (startWork w s).sck = s.sck ∧ (startWork w s).cfs = s.cfs ∧ (startWork w s).peers = s.peers ∧ (startWork w s).pending = s.pending
      ∧ (startWork w s).freeCount = s.freeCount ∧ (startWork w s).cpt = s.cpt ∧ (startWork w s).kli = s.kli ∧ (startWork w s).inv = s.inv
      ∧ (startWork w s).zcu = s.zcu ∧ (startWork w s).adm = s.adm ∧ (startWork w s).wgu = s.wgu ∧ (startWork w s).acu = s.acu
      ∧ (startWork w s).dcc.stage = s.dcc.stage ∧ (startWork w s).dcc.queue = s.dcc.queue ∧ (startWork w s).dcc.faultCode = s.dcc.faultCode ∧ (startWork w s).dcc.secondFaults = s.dcc.secondFaults
      ∧ (startWork w s).dcc.active.map (·.job) = s.dcc.active.map (·.job) ∧ (startWork w s).dcc.active.isSome = s.dcc.active.isSome := by
  unfold startWork
  (try dsimp only)
  (repeat' split) <;> simp_all

@[simp] theorem dropRecipe_frame :
    (dropRecipe s).sck = s.sck ∧ (dropRecipe s).cfs = s.cfs ∧ (dropRecipe s).peers = s.peers ∧ (dropRecipe s).pending = s.pending
      ∧ (dropRecipe s).freeCount = s.freeCount ∧ (dropRecipe s).cpt = s.cpt ∧ (dropRecipe s).kli = s.kli ∧ (dropRecipe s).inv = s.inv
      ∧ (dropRecipe s).zcu = s.zcu ∧ (dropRecipe s).adm = s.adm ∧ (dropRecipe s).dcc = s.dcc ∧ (dropRecipe s).wgu = s.wgu
      ∧ (dropRecipe s).acu = s.acu := by
  unfold dropRecipe
  (try dsimp only)
  (repeat' split) <;> simp_all

@[simp] theorem finishDip_frame :
    (finishDip s).sck = s.sck ∧ (finishDip s).cfs = s.cfs ∧ (finishDip s).peers = s.peers ∧ (finishDip s).pending = s.pending
      ∧ (finishDip s).freeCount = s.freeCount ∧ (finishDip s).wgu = s.wgu ∧ (finishDip s).cpt.mode = s.cpt.mode ∧ (finishDip s).cpt.enables = s.cpt.enables
      ∧ (finishDip s).cpt.response = s.cpt.response ∧ (finishDip s).cpt.validating = s.cpt.validating ∧ (finishDip s).cpt.restartPending = s.cpt.restartPending ∧ (finishDip s).kli.lineLost = s.kli.lineLost
      ∧ (finishDip s).kli.leaveRequest = s.kli.leaveRequest ∧ (finishDip s).kli.attempt = s.kli.attempt ∧ (finishDip s).kli.hunting = s.kli.hunting ∧ (finishDip s).kli.heartbeat = s.kli.heartbeat
      ∧ (finishDip s).kli.failures = s.kli.failures ∧ (finishDip s).kli.discards = s.kli.discards ∧ (finishDip s).dcc.stage = s.dcc.stage ∧ (finishDip s).dcc.queue = s.dcc.queue := by
  unfold finishDip
  (try dsimp only)
  (repeat' split) <;> simp_all

@[simp] theorem releaseDip_frame :
    (releaseDip s).sck = s.sck ∧ (releaseDip s).cfs = s.cfs ∧ (releaseDip s).peers = s.peers ∧ (releaseDip s).pending = s.pending
      ∧ (releaseDip s).freeCount = s.freeCount ∧ (releaseDip s).wgu = s.wgu ∧ (releaseDip s).cpt.mode = s.cpt.mode ∧ (releaseDip s).cpt.enables = s.cpt.enables
      ∧ (releaseDip s).cpt.response = s.cpt.response ∧ (releaseDip s).cpt.validating = s.cpt.validating ∧ (releaseDip s).cpt.restartPending = s.cpt.restartPending ∧ (releaseDip s).kli.lineLost = s.kli.lineLost
      ∧ (releaseDip s).kli.leaveRequest = s.kli.leaveRequest ∧ (releaseDip s).kli.attempt = s.kli.attempt ∧ (releaseDip s).kli.hunting = s.kli.hunting ∧ (releaseDip s).kli.heartbeat = s.kli.heartbeat
      ∧ (releaseDip s).kli.failures = s.kli.failures ∧ (releaseDip s).kli.discards = s.kli.discards ∧ (releaseDip s).dcc.queue = s.dcc.queue := by
  unfold releaseDip
  (try dsimp only)
  (repeat' split) <;> simp_all

@[simp] theorem enterWeighExit_frame :
    (enterWeighExit s).sck = s.sck ∧ (enterWeighExit s).cfs = s.cfs ∧ (enterWeighExit s).peers = s.peers ∧ (enterWeighExit s).pending = s.pending
      ∧ (enterWeighExit s).freeCount = s.freeCount ∧ (enterWeighExit s).cpt = s.cpt ∧ (enterWeighExit s).inv = s.inv ∧ (enterWeighExit s).adm = s.adm
      ∧ (enterWeighExit s).sgx = s.sgx ∧ (enterWeighExit s).hif = s.hif ∧ (enterWeighExit s).acu = s.acu ∧ (enterWeighExit s).kli.lineLost = s.kli.lineLost
      ∧ (enterWeighExit s).kli.leaveRequest = s.kli.leaveRequest ∧ (enterWeighExit s).kli.attempt = s.kli.attempt ∧ (enterWeighExit s).kli.hunting = s.kli.hunting ∧ (enterWeighExit s).kli.heartbeat = s.kli.heartbeat
      ∧ (enterWeighExit s).kli.failures = s.kli.failures ∧ (enterWeighExit s).kli.discards = s.kli.discards ∧ (enterWeighExit s).dcc.queue = s.dcc.queue := by
  unfold enterWeighExit
  (try dsimp only)
  (repeat' split) <;> simp_all

@[simp] theorem enterWeighDrained_frame :
    (enterWeighDrained s).sck = s.sck ∧ (enterWeighDrained s).cfs = s.cfs ∧ (enterWeighDrained s).peers = s.peers ∧ (enterWeighDrained s).pending = s.pending
      ∧ (enterWeighDrained s).freeCount = s.freeCount ∧ (enterWeighDrained s).cpt = s.cpt ∧ (enterWeighDrained s).inv = s.inv ∧ (enterWeighDrained s).adm = s.adm
      ∧ (enterWeighDrained s).sgx = s.sgx ∧ (enterWeighDrained s).hif = s.hif ∧ (enterWeighDrained s).acu = s.acu ∧ (enterWeighDrained s).kli.lineLost = s.kli.lineLost
      ∧ (enterWeighDrained s).kli.leaveRequest = s.kli.leaveRequest ∧ (enterWeighDrained s).kli.attempt = s.kli.attempt ∧ (enterWeighDrained s).kli.hunting = s.kli.hunting ∧ (enterWeighDrained s).kli.heartbeat = s.kli.heartbeat
      ∧ (enterWeighDrained s).kli.failures = s.kli.failures ∧ (enterWeighDrained s).kli.discards = s.kli.discards ∧ (enterWeighDrained s).dcc.queue = s.dcc.queue := by
  unfold enterWeighDrained
  (try dsimp only)
  (repeat' split) <;> simp_all

@[simp] theorem enterAdmit_frame :
    (enterAdmit s).sck = s.sck ∧ (enterAdmit s).cfs = s.cfs ∧ (enterAdmit s).peers = s.peers ∧ (enterAdmit s).pending = s.pending
      ∧ (enterAdmit s).freeCount = s.freeCount ∧ (enterAdmit s).inv = s.inv ∧ (enterAdmit s).sgx = s.sgx ∧ (enterAdmit s).hif = s.hif
      ∧ (enterAdmit s).wgu = s.wgu ∧ (enterAdmit s).acu = s.acu ∧ (enterAdmit s).cpt.mode = s.cpt.mode ∧ (enterAdmit s).cpt.enables = s.cpt.enables
      ∧ (enterAdmit s).cpt.response = s.cpt.response ∧ (enterAdmit s).cpt.validating = s.cpt.validating ∧ (enterAdmit s).cpt.restartPending = s.cpt.restartPending ∧ (enterAdmit s).kli.lineLost = s.kli.lineLost
      ∧ (enterAdmit s).kli.leaveRequest = s.kli.leaveRequest ∧ (enterAdmit s).kli.attempt = s.kli.attempt ∧ (enterAdmit s).kli.hunting = s.kli.hunting ∧ (enterAdmit s).kli.heartbeat = s.kli.heartbeat
      ∧ (enterAdmit s).kli.failures = s.kli.failures ∧ (enterAdmit s).kli.discards = s.kli.discards ∧ (enterAdmit s).dcc.queue = s.dcc.queue := by
  unfold enterAdmit
  (try dsimp only)
  (repeat' split) <;> simp_all

@[simp] theorem handStage_frame (p : Phase) :
    (handStage p s).sck = s.sck ∧ (handStage p s).cfs = s.cfs ∧ (handStage p s).peers = s.peers ∧ (handStage p s).pending = s.pending
      ∧ (handStage p s).freeCount = s.freeCount ∧ (handStage p s).cpt = s.cpt ∧ (handStage p s).inv = s.inv ∧ (handStage p s).adm = s.adm
      ∧ (handStage p s).hif = s.hif ∧ (handStage p s).wgu = s.wgu ∧ (handStage p s).acu = s.acu ∧ (handStage p s).kli.lineLost = s.kli.lineLost
      ∧ (handStage p s).kli.leaveRequest = s.kli.leaveRequest ∧ (handStage p s).kli.attempt = s.kli.attempt ∧ (handStage p s).kli.hunting = s.kli.hunting ∧ (handStage p s).kli.heartbeat = s.kli.heartbeat
      ∧ (handStage p s).kli.failures = s.kli.failures ∧ (handStage p s).kli.discards = s.kli.discards ∧ (handStage p s).dcc.queue = s.dcc.queue := by
  unfold handStage
  (try dsimp only)
  (repeat' split) <;> simp_all

@[simp] theorem leavePhase_frame (p : Phase) :
    (leavePhase p s).sck = s.sck ∧ (leavePhase p s).cfs = s.cfs ∧ (leavePhase p s).peers = s.peers ∧ (leavePhase p s).pending = s.pending
      ∧ (leavePhase p s).freeCount = s.freeCount ∧ (leavePhase p s).cpt.mode = s.cpt.mode ∧ (leavePhase p s).cpt.enables = s.cpt.enables ∧ (leavePhase p s).cpt.response = s.cpt.response
      ∧ (leavePhase p s).cpt.validating = s.cpt.validating ∧ (leavePhase p s).cpt.restartPending = s.cpt.restartPending ∧ (leavePhase p s).kli.lineLost = s.kli.lineLost ∧ (leavePhase p s).kli.leaveRequest = s.kli.leaveRequest
      ∧ (leavePhase p s).kli.attempt = s.kli.attempt ∧ (leavePhase p s).kli.hunting = s.kli.hunting ∧ (leavePhase p s).kli.heartbeat = s.kli.heartbeat ∧ (leavePhase p s).kli.failures = s.kli.failures
      ∧ (leavePhase p s).kli.discards = s.kli.discards ∧ (leavePhase p s).dcc.queue = s.dcc.queue := by
  unfold leavePhase
  (try dsimp only)
  (repeat' split) <;> simp_all

@[simp] theorem takeCall_frame (g : Segment) (target : Nat) :
    (takeCall g target s).sck = s.sck ∧ (takeCall g target s).cfs = s.cfs ∧ (takeCall g target s).peers = s.peers ∧ (takeCall g target s).pending = s.pending
      ∧ (takeCall g target s).freeCount = s.freeCount ∧ (takeCall g target s).cpt = s.cpt ∧ (takeCall g target s).kli = s.kli ∧ (takeCall g target s).inv = s.inv
      ∧ (takeCall g target s).zcu = s.zcu ∧ (takeCall g target s).adm = s.adm ∧ (takeCall g target s).dcc = s.dcc ∧ (takeCall g target s).hif = s.hif
      ∧ (takeCall g target s).wgu = s.wgu ∧ (takeCall g target s).acu = s.acu := by
  unfold takeCall
  (try dsimp only)
  (repeat' split) <;> simp_all

@[simp] theorem startSegment_frame (g : Segment) :
    (startSegment g s).sck = s.sck ∧ (startSegment g s).cfs = s.cfs ∧ (startSegment g s).peers = s.peers ∧ (startSegment g s).pending = s.pending
      ∧ (startSegment g s).freeCount = s.freeCount ∧ (startSegment g s).cpt = s.cpt ∧ (startSegment g s).kli = s.kli ∧ (startSegment g s).inv = s.inv
      ∧ (startSegment g s).zcu = s.zcu ∧ (startSegment g s).adm = s.adm ∧ (startSegment g s).wgu = s.wgu ∧ (startSegment g s).acu = s.acu
      ∧ (startSegment g s).dcc.stage = s.dcc.stage ∧ (startSegment g s).dcc.queue = s.dcc.queue ∧ (startSegment g s).dcc.faultCode = s.dcc.faultCode ∧ (startSegment g s).dcc.secondFaults = s.dcc.secondFaults
      ∧ (startSegment g s).dcc.active.map (·.job) = s.dcc.active.map (·.job) ∧ (startSegment g s).dcc.active.isSome = s.dcc.active.isSome := by
  unfold startSegment
  (try dsimp only)
  (repeat' split) <;> simp_all

@[simp] theorem sgxRun_frame (n : Nat) :
    (sgxRun n s).sck = s.sck ∧ (sgxRun n s).cfs = s.cfs ∧ (sgxRun n s).peers = s.peers ∧ (sgxRun n s).pending = s.pending
      ∧ (sgxRun n s).freeCount = s.freeCount ∧ (sgxRun n s).cpt.mode = s.cpt.mode ∧ (sgxRun n s).cpt.enables = s.cpt.enables ∧ (sgxRun n s).cpt.response = s.cpt.response
      ∧ (sgxRun n s).cpt.validating = s.cpt.validating ∧ (sgxRun n s).cpt.restartPending = s.cpt.restartPending ∧ (sgxRun n s).kli.lineLost = s.kli.lineLost ∧ (sgxRun n s).kli.leaveRequest = s.kli.leaveRequest
      ∧ (sgxRun n s).kli.attempt = s.kli.attempt ∧ (sgxRun n s).kli.hunting = s.kli.hunting ∧ (sgxRun n s).kli.heartbeat = s.kli.heartbeat ∧ (sgxRun n s).kli.failures = s.kli.failures
      ∧ (sgxRun n s).kli.discards = s.kli.discards ∧ (sgxRun n s).dcc.queue = s.dcc.queue := by
  induction n generalizing s with
  | zero => simp [sgxRun]
  | succ n ih =>
    unfold sgxRun
    (repeat' split) <;> (try dsimp only) <;> (repeat' split) <;> simp_all

@[simp] theorem sgxGo_frame :
    (sgxGo s).sck = s.sck ∧ (sgxGo s).cfs = s.cfs ∧ (sgxGo s).peers = s.peers ∧ (sgxGo s).pending = s.pending
      ∧ (sgxGo s).freeCount = s.freeCount ∧ (sgxGo s).cpt.mode = s.cpt.mode ∧ (sgxGo s).cpt.enables = s.cpt.enables ∧ (sgxGo s).cpt.response = s.cpt.response
      ∧ (sgxGo s).cpt.validating = s.cpt.validating ∧ (sgxGo s).cpt.restartPending = s.cpt.restartPending ∧ (sgxGo s).kli.lineLost = s.kli.lineLost ∧ (sgxGo s).kli.leaveRequest = s.kli.leaveRequest
      ∧ (sgxGo s).kli.attempt = s.kli.attempt ∧ (sgxGo s).kli.hunting = s.kli.hunting ∧ (sgxGo s).kli.heartbeat = s.kli.heartbeat ∧ (sgxGo s).kli.failures = s.kli.failures
      ∧ (sgxGo s).kli.discards = s.kli.discards ∧ (sgxGo s).dcc.queue = s.dcc.queue := by
  unfold sgxGo
  (try dsimp only)
  (repeat' split) <;> simp_all

@[simp] theorem enterMotion_frame (p : Phase) :
    (enterMotion p s).sck = s.sck ∧ (enterMotion p s).cfs = s.cfs ∧ (enterMotion p s).peers = s.peers ∧ (enterMotion p s).pending = s.pending
      ∧ (enterMotion p s).freeCount = s.freeCount ∧ (enterMotion p s).cpt.mode = s.cpt.mode ∧ (enterMotion p s).cpt.enables = s.cpt.enables ∧ (enterMotion p s).cpt.response = s.cpt.response
      ∧ (enterMotion p s).cpt.validating = s.cpt.validating ∧ (enterMotion p s).cpt.restartPending = s.cpt.restartPending ∧ (enterMotion p s).kli.lineLost = s.kli.lineLost ∧ (enterMotion p s).kli.leaveRequest = s.kli.leaveRequest
      ∧ (enterMotion p s).kli.attempt = s.kli.attempt ∧ (enterMotion p s).kli.hunting = s.kli.hunting ∧ (enterMotion p s).kli.heartbeat = s.kli.heartbeat ∧ (enterMotion p s).kli.failures = s.kli.failures
      ∧ (enterMotion p s).kli.discards = s.kli.discards ∧ (enterMotion p s).dcc.queue = s.dcc.queue := by
  unfold enterMotion
  (try dsimp only)
  (repeat' split) <;> simp_all

@[simp] theorem endSegment_frame :
    (endSegment s).sck = s.sck ∧ (endSegment s).cfs = s.cfs ∧ (endSegment s).peers = s.peers ∧ (endSegment s).pending = s.pending
      ∧ (endSegment s).freeCount = s.freeCount ∧ (endSegment s).cpt.mode = s.cpt.mode ∧ (endSegment s).cpt.enables = s.cpt.enables ∧ (endSegment s).cpt.response = s.cpt.response
      ∧ (endSegment s).cpt.validating = s.cpt.validating ∧ (endSegment s).cpt.restartPending = s.cpt.restartPending ∧ (endSegment s).kli.lineLost = s.kli.lineLost ∧ (endSegment s).kli.leaveRequest = s.kli.leaveRequest
      ∧ (endSegment s).kli.attempt = s.kli.attempt ∧ (endSegment s).kli.hunting = s.kli.hunting ∧ (endSegment s).kli.heartbeat = s.kli.heartbeat ∧ (endSegment s).kli.failures = s.kli.failures
      ∧ (endSegment s).kli.discards = s.kli.discards ∧ (endSegment s).dcc.queue = s.dcc.queue := by
  unfold endSegment
  (try dsimp only)
  (repeat' split) <;> simp_all

@[simp] theorem sgxHookUpdate_frame :
    (sgxHookUpdate s).sck = s.sck ∧ (sgxHookUpdate s).cfs = s.cfs ∧ (sgxHookUpdate s).peers = s.peers ∧ (sgxHookUpdate s).pending = s.pending
      ∧ (sgxHookUpdate s).freeCount = s.freeCount ∧ (sgxHookUpdate s).cpt.mode = s.cpt.mode ∧ (sgxHookUpdate s).cpt.enables = s.cpt.enables ∧ (sgxHookUpdate s).cpt.response = s.cpt.response
      ∧ (sgxHookUpdate s).cpt.validating = s.cpt.validating ∧ (sgxHookUpdate s).cpt.restartPending = s.cpt.restartPending ∧ (sgxHookUpdate s).kli.lineLost = s.kli.lineLost ∧ (sgxHookUpdate s).kli.leaveRequest = s.kli.leaveRequest
      ∧ (sgxHookUpdate s).kli.attempt = s.kli.attempt ∧ (sgxHookUpdate s).kli.hunting = s.kli.hunting ∧ (sgxHookUpdate s).kli.heartbeat = s.kli.heartbeat ∧ (sgxHookUpdate s).kli.failures = s.kli.failures
      ∧ (sgxHookUpdate s).kli.discards = s.kli.discards ∧ (sgxHookUpdate s).dcc.queue = s.dcc.queue := by
  unfold sgxHookUpdate
  (try dsimp only)
  (repeat' split) <;> simp_all

@[simp] theorem deliverDry_frame (mass : Nat) (unsettled overrange : Bool) :
    (deliverDry mass unsettled overrange s).sck = s.sck ∧ (deliverDry mass unsettled overrange s).cfs = s.cfs ∧ (deliverDry mass unsettled overrange s).peers = s.peers ∧ (deliverDry mass unsettled overrange s).pending = s.pending
      ∧ (deliverDry mass unsettled overrange s).freeCount = s.freeCount ∧ (deliverDry mass unsettled overrange s).cpt.mode = s.cpt.mode ∧ (deliverDry mass unsettled overrange s).cpt.enables = s.cpt.enables ∧ (deliverDry mass unsettled overrange s).cpt.response = s.cpt.response
      ∧ (deliverDry mass unsettled overrange s).cpt.validating = s.cpt.validating ∧ (deliverDry mass unsettled overrange s).cpt.restartPending = s.cpt.restartPending ∧ (deliverDry mass unsettled overrange s).kli.lineLost = s.kli.lineLost ∧ (deliverDry mass unsettled overrange s).kli.leaveRequest = s.kli.leaveRequest
      ∧ (deliverDry mass unsettled overrange s).kli.attempt = s.kli.attempt ∧ (deliverDry mass unsettled overrange s).kli.hunting = s.kli.hunting ∧ (deliverDry mass unsettled overrange s).kli.heartbeat = s.kli.heartbeat ∧ (deliverDry mass unsettled overrange s).kli.failures = s.kli.failures
      ∧ (deliverDry mass unsettled overrange s).kli.discards = s.kli.discards ∧ (deliverDry mass unsettled overrange s).dcc.queue = s.dcc.queue := by
  unfold deliverDry
  (try dsimp only)
  (repeat' split) <;> simp_all

@[simp] theorem deliverExit_frame (mass : Nat) (unsettled overrange : Bool) :
    (deliverExit mass unsettled overrange s).sck = s.sck ∧ (deliverExit mass unsettled overrange s).cfs = s.cfs ∧ (deliverExit mass unsettled overrange s).peers = s.peers ∧ (deliverExit mass unsettled overrange s).pending = s.pending
      ∧ (deliverExit mass unsettled overrange s).freeCount = s.freeCount ∧ (deliverExit mass unsettled overrange s).cpt.mode = s.cpt.mode ∧ (deliverExit mass unsettled overrange s).cpt.enables = s.cpt.enables ∧ (deliverExit mass unsettled overrange s).cpt.response = s.cpt.response
      ∧ (deliverExit mass unsettled overrange s).cpt.validating = s.cpt.validating ∧ (deliverExit mass unsettled overrange s).cpt.restartPending = s.cpt.restartPending ∧ (deliverExit mass unsettled overrange s).kli.lineLost = s.kli.lineLost ∧ (deliverExit mass unsettled overrange s).kli.leaveRequest = s.kli.leaveRequest
      ∧ (deliverExit mass unsettled overrange s).kli.attempt = s.kli.attempt ∧ (deliverExit mass unsettled overrange s).kli.hunting = s.kli.hunting ∧ (deliverExit mass unsettled overrange s).kli.heartbeat = s.kli.heartbeat ∧ (deliverExit mass unsettled overrange s).kli.failures = s.kli.failures
      ∧ (deliverExit mass unsettled overrange s).kli.discards = s.kli.discards ∧ (deliverExit mass unsettled overrange s).dcc.queue = s.dcc.queue := by
  unfold deliverExit
  (try dsimp only)
  (repeat' split) <;> simp_all

@[simp] theorem deliverDrained_frame (mass : Nat) (unsettled overrange : Bool) :
    (deliverDrained mass unsettled overrange s).sck = s.sck ∧ (deliverDrained mass unsettled overrange s).cfs = s.cfs ∧ (deliverDrained mass unsettled overrange s).peers = s.peers ∧ (deliverDrained mass unsettled overrange s).pending = s.pending
      ∧ (deliverDrained mass unsettled overrange s).freeCount = s.freeCount ∧ (deliverDrained mass unsettled overrange s).cpt.mode = s.cpt.mode ∧ (deliverDrained mass unsettled overrange s).cpt.enables = s.cpt.enables ∧ (deliverDrained mass unsettled overrange s).cpt.response = s.cpt.response
      ∧ (deliverDrained mass unsettled overrange s).cpt.validating = s.cpt.validating ∧ (deliverDrained mass unsettled overrange s).cpt.restartPending = s.cpt.restartPending ∧ (deliverDrained mass unsettled overrange s).kli.lineLost = s.kli.lineLost ∧ (deliverDrained mass unsettled overrange s).kli.leaveRequest = s.kli.leaveRequest
      ∧ (deliverDrained mass unsettled overrange s).kli.attempt = s.kli.attempt ∧ (deliverDrained mass unsettled overrange s).kli.hunting = s.kli.hunting ∧ (deliverDrained mass unsettled overrange s).kli.heartbeat = s.kli.heartbeat ∧ (deliverDrained mass unsettled overrange s).kli.failures = s.kli.failures
      ∧ (deliverDrained mass unsettled overrange s).kli.discards = s.kli.discards ∧ (deliverDrained mass unsettled overrange s).dcc.queue = s.dcc.queue := by
  unfold deliverDrained
  (try dsimp only)
  (repeat' split) <;> simp_all

@[simp] theorem deliverWeight_frame (mass : Nat) (unsettled overrange : Bool) :
    (deliverWeight mass unsettled overrange s).sck = s.sck ∧ (deliverWeight mass unsettled overrange s).cfs = s.cfs ∧ (deliverWeight mass unsettled overrange s).peers = s.peers ∧ (deliverWeight mass unsettled overrange s).pending = s.pending
      ∧ (deliverWeight mass unsettled overrange s).freeCount = s.freeCount ∧ (deliverWeight mass unsettled overrange s).cpt.mode = s.cpt.mode ∧ (deliverWeight mass unsettled overrange s).cpt.enables = s.cpt.enables ∧ (deliverWeight mass unsettled overrange s).cpt.response = s.cpt.response
      ∧ (deliverWeight mass unsettled overrange s).cpt.validating = s.cpt.validating ∧ (deliverWeight mass unsettled overrange s).cpt.restartPending = s.cpt.restartPending ∧ (deliverWeight mass unsettled overrange s).kli.lineLost = s.kli.lineLost ∧ (deliverWeight mass unsettled overrange s).kli.leaveRequest = s.kli.leaveRequest
      ∧ (deliverWeight mass unsettled overrange s).kli.attempt = s.kli.attempt ∧ (deliverWeight mass unsettled overrange s).kli.hunting = s.kli.hunting ∧ (deliverWeight mass unsettled overrange s).kli.heartbeat = s.kli.heartbeat ∧ (deliverWeight mass unsettled overrange s).kli.failures = s.kli.failures
      ∧ (deliverWeight mass unsettled overrange s).kli.discards = s.kli.discards ∧ (deliverWeight mass unsettled overrange s).dcc.queue = s.dcc.queue := by
  unfold deliverWeight
  (try dsimp only)
  (repeat' split) <;> simp_all

@[simp] theorem deliverSamples_frame (samples : List Sample) (unsettled : Bool) :
    (deliverSamples samples unsettled s).sck = s.sck ∧ (deliverSamples samples unsettled s).cfs = s.cfs ∧ (deliverSamples samples unsettled s).peers = s.peers ∧ (deliverSamples samples unsettled s).pending = s.pending
      ∧ (deliverSamples samples unsettled s).cpt.mode = s.cpt.mode ∧ (deliverSamples samples unsettled s).cpt.enables = s.cpt.enables ∧ (deliverSamples samples unsettled s).cpt.response = s.cpt.response ∧ (deliverSamples samples unsettled s).cpt.validating = s.cpt.validating
      ∧ (deliverSamples samples unsettled s).cpt.restartPending = s.cpt.restartPending ∧ (deliverSamples samples unsettled s).kli.lineLost = s.kli.lineLost ∧ (deliverSamples samples unsettled s).kli.leaveRequest = s.kli.leaveRequest ∧ (deliverSamples samples unsettled s).kli.attempt = s.kli.attempt
      ∧ (deliverSamples samples unsettled s).kli.hunting = s.kli.hunting ∧ (deliverSamples samples unsettled s).kli.heartbeat = s.kli.heartbeat ∧ (deliverSamples samples unsettled s).kli.failures = s.kli.failures ∧ (deliverSamples samples unsettled s).kli.discards = s.kli.discards
      ∧ (deliverSamples samples unsettled s).dcc.queue = s.dcc.queue := by
  unfold deliverSamples
  (try dsimp only)
  (repeat' split) <;> simp_all

@[simp] theorem enterFault_frame (c : FaultCode) :
    (enterFault c s).sck = s.sck ∧ (enterFault c s).cfs = s.cfs ∧ (enterFault c s).peers = s.peers ∧ (enterFault c s).pending = s.pending
      ∧ (enterFault c s).freeCount = s.freeCount ∧ (enterFault c s).inv = s.inv ∧ (enterFault c s).adm = s.adm ∧ (enterFault c s).acu = s.acu
      ∧ (enterFault c s).cpt.mode = s.cpt.mode ∧ (enterFault c s).cpt.enables = s.cpt.enables ∧ (enterFault c s).cpt.response = s.cpt.response ∧ (enterFault c s).cpt.validating = s.cpt.validating
      ∧ (enterFault c s).cpt.restartPending = s.cpt.restartPending ∧ (enterFault c s).kli.lineLost = s.kli.lineLost ∧ (enterFault c s).kli.leaveRequest = s.kli.leaveRequest ∧ (enterFault c s).kli.attempt = s.kli.attempt
      ∧ (enterFault c s).kli.hunting = s.kli.hunting ∧ (enterFault c s).kli.heartbeat = s.kli.heartbeat ∧ (enterFault c s).kli.failures = s.kli.failures ∧ (enterFault c s).kli.discards = s.kli.discards
      ∧ (enterFault c s).dcc.queue = s.dcc.queue := by
  unfold enterFault
  (try dsimp only)
  (repeat' split) <;> simp_all

@[simp] theorem secondFault_frame :
    (secondFault s).sck = s.sck ∧ (secondFault s).cfs = s.cfs ∧ (secondFault s).peers = s.peers ∧ (secondFault s).pending = s.pending
      ∧ (secondFault s).freeCount = s.freeCount ∧ (secondFault s).cpt = s.cpt ∧ (secondFault s).kli = s.kli ∧ (secondFault s).inv = s.inv
      ∧ (secondFault s).zcu = s.zcu ∧ (secondFault s).adm = s.adm ∧ (secondFault s).sgx = s.sgx ∧ (secondFault s).hif = s.hif
      ∧ (secondFault s).wgu = s.wgu ∧ (secondFault s).acu = s.acu ∧ (secondFault s).dcc.stage = s.dcc.stage ∧ (secondFault s).dcc.queue = s.dcc.queue := by
  unfold secondFault
  (try dsimp only)
  (repeat' split) <;> simp_all

@[simp] theorem faultCause_frame (c : FaultCode) :
    (faultCause c s).sck = s.sck ∧ (faultCause c s).cfs = s.cfs ∧ (faultCause c s).peers = s.peers ∧ (faultCause c s).pending = s.pending
      ∧ (faultCause c s).freeCount = s.freeCount ∧ (faultCause c s).inv = s.inv ∧ (faultCause c s).adm = s.adm ∧ (faultCause c s).acu = s.acu
      ∧ (faultCause c s).cpt.mode = s.cpt.mode ∧ (faultCause c s).cpt.enables = s.cpt.enables ∧ (faultCause c s).cpt.response = s.cpt.response ∧ (faultCause c s).cpt.validating = s.cpt.validating
      ∧ (faultCause c s).cpt.restartPending = s.cpt.restartPending ∧ (faultCause c s).kli.lineLost = s.kli.lineLost ∧ (faultCause c s).kli.leaveRequest = s.kli.leaveRequest ∧ (faultCause c s).kli.attempt = s.kli.attempt
      ∧ (faultCause c s).kli.hunting = s.kli.hunting ∧ (faultCause c s).kli.heartbeat = s.kli.heartbeat ∧ (faultCause c s).kli.failures = s.kli.failures ∧ (faultCause c s).kli.discards = s.kli.discards
      ∧ (faultCause c s).dcc.queue = s.dcc.queue := by
  unfold faultCause
  (try dsimp only)
  (repeat' split) <;> simp_all

@[simp] theorem beginYield_frame :
    (beginYield s).sck = s.sck ∧ (beginYield s).cfs = s.cfs ∧ (beginYield s).peers = s.peers ∧ (beginYield s).pending = s.pending
      ∧ (beginYield s).freeCount = s.freeCount ∧ (beginYield s).inv = s.inv ∧ (beginYield s).sgx = s.sgx ∧ (beginYield s).hif = s.hif
      ∧ (beginYield s).wgu = s.wgu ∧ (beginYield s).acu = s.acu ∧ (beginYield s).cpt.mode = s.cpt.mode ∧ (beginYield s).cpt.enables = s.cpt.enables
      ∧ (beginYield s).cpt.response = s.cpt.response ∧ (beginYield s).cpt.validating = s.cpt.validating ∧ (beginYield s).cpt.restartPending = s.cpt.restartPending ∧ (beginYield s).kli.lineLost = s.kli.lineLost
      ∧ (beginYield s).kli.leaveRequest = s.kli.leaveRequest ∧ (beginYield s).kli.attempt = s.kli.attempt ∧ (beginYield s).kli.hunting = s.kli.hunting ∧ (beginYield s).kli.heartbeat = s.kli.heartbeat
      ∧ (beginYield s).kli.failures = s.kli.failures ∧ (beginYield s).kli.discards = s.kli.discards ∧ (beginYield s).dcc.stage = s.dcc.stage ∧ (beginYield s).dcc.queue = s.dcc.queue
      ∧ (beginYield s).dcc.faultCode = s.dcc.faultCode ∧ (beginYield s).dcc.secondFaults = s.dcc.secondFaults ∧ (beginYield s).dcc.active.map (·.job) = s.dcc.active.map (·.job) ∧ (beginYield s).dcc.active.isSome = s.dcc.active.isSome := by
  unfold beginYield
  (try dsimp only)
  (repeat' split) <;> simp_all

@[simp] theorem endYield_frame :
    (endYield s).sck = s.sck ∧ (endYield s).cfs = s.cfs ∧ (endYield s).peers = s.peers ∧ (endYield s).pending = s.pending
      ∧ (endYield s).freeCount = s.freeCount ∧ (endYield s).cpt.mode = s.cpt.mode ∧ (endYield s).cpt.enables = s.cpt.enables ∧ (endYield s).cpt.response = s.cpt.response
      ∧ (endYield s).cpt.validating = s.cpt.validating ∧ (endYield s).cpt.restartPending = s.cpt.restartPending ∧ (endYield s).kli.lineLost = s.kli.lineLost ∧ (endYield s).kli.leaveRequest = s.kli.leaveRequest
      ∧ (endYield s).kli.attempt = s.kli.attempt ∧ (endYield s).kli.hunting = s.kli.hunting ∧ (endYield s).kli.heartbeat = s.kli.heartbeat ∧ (endYield s).kli.failures = s.kli.failures
      ∧ (endYield s).kli.discards = s.kli.discards ∧ (endYield s).dcc.queue = s.dcc.queue := by
  unfold endYield
  (try dsimp only)
  (repeat' split) <;> simp_all

@[simp] theorem checkFlag_frame (l : List (StationIx × PeerEntry)) :
    (checkFlag l s).sck = s.sck ∧ (checkFlag l s).cfs = s.cfs ∧ (checkFlag l s).peers = s.peers ∧ (checkFlag l s).pending = s.pending
      ∧ (checkFlag l s).freeCount = s.freeCount ∧ (checkFlag l s).inv = s.inv ∧ (checkFlag l s).adm = s.adm ∧ (checkFlag l s).sgx = s.sgx
      ∧ (checkFlag l s).hif = s.hif ∧ (checkFlag l s).wgu = s.wgu ∧ (checkFlag l s).acu = s.acu ∧ (checkFlag l s).cpt.mode = s.cpt.mode
      ∧ (checkFlag l s).cpt.enables = s.cpt.enables ∧ (checkFlag l s).cpt.response = s.cpt.response ∧ (checkFlag l s).cpt.validating = s.cpt.validating ∧ (checkFlag l s).cpt.restartPending = s.cpt.restartPending
      ∧ (checkFlag l s).kli.lineLost = s.kli.lineLost ∧ (checkFlag l s).kli.leaveRequest = s.kli.leaveRequest ∧ (checkFlag l s).kli.attempt = s.kli.attempt ∧ (checkFlag l s).kli.hunting = s.kli.hunting
      ∧ (checkFlag l s).kli.heartbeat = s.kli.heartbeat ∧ (checkFlag l s).kli.failures = s.kli.failures ∧ (checkFlag l s).kli.discards = s.kli.discards ∧ (checkFlag l s).dcc.stage = s.dcc.stage
      ∧ (checkFlag l s).dcc.queue = s.dcc.queue ∧ (checkFlag l s).dcc.faultCode = s.dcc.faultCode ∧ (checkFlag l s).dcc.secondFaults = s.dcc.secondFaults ∧ (checkFlag l s).dcc.active.map (·.job) = s.dcc.active.map (·.job)
      ∧ (checkFlag l s).dcc.active.isSome = s.dcc.active.isSome := by
  unfold checkFlag
  (try dsimp only)
  (repeat' split) <;> simp_all

@[simp] theorem conflictCheck_frame :
    (conflictCheck s).sck = s.sck ∧ (conflictCheck s).cfs = s.cfs ∧ (conflictCheck s).peers = s.peers ∧ (conflictCheck s).pending = s.pending
      ∧ (conflictCheck s).freeCount = s.freeCount ∧ (conflictCheck s).cpt.mode = s.cpt.mode ∧ (conflictCheck s).cpt.enables = s.cpt.enables ∧ (conflictCheck s).cpt.response = s.cpt.response
      ∧ (conflictCheck s).cpt.validating = s.cpt.validating ∧ (conflictCheck s).cpt.restartPending = s.cpt.restartPending ∧ (conflictCheck s).kli.lineLost = s.kli.lineLost ∧ (conflictCheck s).kli.leaveRequest = s.kli.leaveRequest
      ∧ (conflictCheck s).kli.attempt = s.kli.attempt ∧ (conflictCheck s).kli.hunting = s.kli.hunting ∧ (conflictCheck s).kli.heartbeat = s.kli.heartbeat ∧ (conflictCheck s).kli.failures = s.kli.failures
      ∧ (conflictCheck s).kli.discards = s.kli.discards ∧ (conflictCheck s).dcc.queue = s.dcc.queue := by
  unfold conflictCheck
  (try dsimp only)
  (repeat' split) <;> simp_all

@[simp] theorem zcuTableChange_frame (i : Option StationIx) :
    (zcuTableChange i s).sck = s.sck ∧ (zcuTableChange i s).cfs = s.cfs ∧ (zcuTableChange i s).peers = s.peers ∧ (zcuTableChange i s).pending = s.pending
      ∧ (zcuTableChange i s).freeCount = s.freeCount ∧ (zcuTableChange i s).cpt.mode = s.cpt.mode ∧ (zcuTableChange i s).cpt.enables = s.cpt.enables ∧ (zcuTableChange i s).cpt.response = s.cpt.response
      ∧ (zcuTableChange i s).cpt.validating = s.cpt.validating ∧ (zcuTableChange i s).cpt.restartPending = s.cpt.restartPending ∧ (zcuTableChange i s).kli.lineLost = s.kli.lineLost ∧ (zcuTableChange i s).kli.leaveRequest = s.kli.leaveRequest
      ∧ (zcuTableChange i s).kli.attempt = s.kli.attempt ∧ (zcuTableChange i s).kli.hunting = s.kli.hunting ∧ (zcuTableChange i s).kli.heartbeat = s.kli.heartbeat ∧ (zcuTableChange i s).kli.failures = s.kli.failures
      ∧ (zcuTableChange i s).kli.discards = s.kli.discards ∧ (zcuTableChange i s).dcc.queue = s.dcc.queue := by
  unfold zcuTableChange
  (try dsimp only)
  (repeat' split) <;> simp_all

@[simp] theorem tableChangeWith_frame (b : Bool) (i : Option StationIx) :
    (tableChangeWith b i s).sck = s.sck ∧ (tableChangeWith b i s).cfs = s.cfs ∧ (tableChangeWith b i s).peers = s.peers ∧ (tableChangeWith b i s).pending = s.pending
      ∧ (tableChangeWith b i s).freeCount = s.freeCount ∧ (tableChangeWith b i s).cpt.mode = s.cpt.mode ∧ (tableChangeWith b i s).cpt.enables = s.cpt.enables ∧ (tableChangeWith b i s).cpt.response = s.cpt.response
      ∧ (tableChangeWith b i s).cpt.validating = s.cpt.validating ∧ (tableChangeWith b i s).cpt.restartPending = s.cpt.restartPending ∧ (tableChangeWith b i s).kli.lineLost = s.kli.lineLost ∧ (tableChangeWith b i s).kli.leaveRequest = s.kli.leaveRequest
      ∧ (tableChangeWith b i s).kli.attempt = s.kli.attempt ∧ (tableChangeWith b i s).kli.hunting = s.kli.hunting ∧ (tableChangeWith b i s).kli.heartbeat = s.kli.heartbeat ∧ (tableChangeWith b i s).kli.failures = s.kli.failures
      ∧ (tableChangeWith b i s).kli.discards = s.kli.discards ∧ (tableChangeWith b i s).dcc.queue = s.dcc.queue := by
  unfold tableChangeWith
  (try dsimp only)
  (repeat' split) <;> simp_all

@[simp] theorem tableChange_frame (i : Option StationIx) :
    (tableChange i s).sck = s.sck ∧ (tableChange i s).cfs = s.cfs ∧ (tableChange i s).peers = s.peers ∧ (tableChange i s).pending = s.pending
      ∧ (tableChange i s).cpt.mode = s.cpt.mode ∧ (tableChange i s).cpt.enables = s.cpt.enables ∧ (tableChange i s).cpt.response = s.cpt.response ∧ (tableChange i s).cpt.validating = s.cpt.validating
      ∧ (tableChange i s).cpt.restartPending = s.cpt.restartPending ∧ (tableChange i s).kli.lineLost = s.kli.lineLost ∧ (tableChange i s).kli.leaveRequest = s.kli.leaveRequest ∧ (tableChange i s).kli.attempt = s.kli.attempt
      ∧ (tableChange i s).kli.hunting = s.kli.hunting ∧ (tableChange i s).kli.heartbeat = s.kli.heartbeat ∧ (tableChange i s).kli.failures = s.kli.failures ∧ (tableChange i s).kli.discards = s.kli.discards
      ∧ (tableChange i s).dcc.queue = s.dcc.queue := by
  unfold tableChange
  (try dsimp only)
  (repeat' split) <;> simp_all

@[simp] theorem beginLineLost_frame (c : LineLostCause) :
    (beginLineLost c s).sck = s.sck ∧ (beginLineLost c s).cfs = s.cfs ∧ (beginLineLost c s).peers = s.peers ∧ (beginLineLost c s).pending = s.pending
      ∧ (beginLineLost c s).freeCount = s.freeCount ∧ (beginLineLost c s).inv = s.inv ∧ (beginLineLost c s).sgx = s.sgx ∧ (beginLineLost c s).hif = s.hif
      ∧ (beginLineLost c s).wgu = s.wgu ∧ (beginLineLost c s).acu = s.acu ∧ (beginLineLost c s).cpt.mode = s.cpt.mode ∧ (beginLineLost c s).cpt.enables = s.cpt.enables
      ∧ (beginLineLost c s).cpt.response = s.cpt.response ∧ (beginLineLost c s).cpt.validating = s.cpt.validating ∧ (beginLineLost c s).cpt.restartPending = s.cpt.restartPending ∧ (beginLineLost c s).dcc.stage = s.dcc.stage
      ∧ (beginLineLost c s).dcc.queue = s.dcc.queue ∧ (beginLineLost c s).dcc.faultCode = s.dcc.faultCode ∧ (beginLineLost c s).dcc.secondFaults = s.dcc.secondFaults ∧ (beginLineLost c s).dcc.active.map (·.job) = s.dcc.active.map (·.job)
      ∧ (beginLineLost c s).dcc.active.isSome = s.dcc.active.isSome := by
  unfold beginLineLost
  (try dsimp only)
  (repeat' split) <;> simp_all [Function.comp_def]

@[simp] theorem lineLostOccurs_frame (c : LineLostCause) :
    (lineLostOccurs c s).sck = s.sck ∧ (lineLostOccurs c s).cfs = s.cfs ∧ (lineLostOccurs c s).peers = s.peers ∧ (lineLostOccurs c s).pending = s.pending
      ∧ (lineLostOccurs c s).freeCount = s.freeCount ∧ (lineLostOccurs c s).inv = s.inv ∧ (lineLostOccurs c s).sgx = s.sgx ∧ (lineLostOccurs c s).hif = s.hif
      ∧ (lineLostOccurs c s).wgu = s.wgu ∧ (lineLostOccurs c s).acu = s.acu ∧ (lineLostOccurs c s).cpt.mode = s.cpt.mode ∧ (lineLostOccurs c s).cpt.enables = s.cpt.enables
      ∧ (lineLostOccurs c s).cpt.response = s.cpt.response ∧ (lineLostOccurs c s).cpt.validating = s.cpt.validating ∧ (lineLostOccurs c s).cpt.restartPending = s.cpt.restartPending ∧ (lineLostOccurs c s).dcc.stage = s.dcc.stage
      ∧ (lineLostOccurs c s).dcc.queue = s.dcc.queue ∧ (lineLostOccurs c s).dcc.faultCode = s.dcc.faultCode ∧ (lineLostOccurs c s).dcc.secondFaults = s.dcc.secondFaults ∧ (lineLostOccurs c s).dcc.active.map (·.job) = s.dcc.active.map (·.job)
      ∧ (lineLostOccurs c s).dcc.active.isSome = s.dcc.active.isSome := by
  unfold lineLostOccurs
  (try dsimp only)
  (repeat' split) <;> simp_all

@[simp] theorem lineBack_frame :
    (lineBack s).sck = s.sck ∧ (lineBack s).cfs = s.cfs ∧ (lineBack s).peers = s.peers ∧ (lineBack s).pending = s.pending
      ∧ (lineBack s).freeCount = s.freeCount ∧ (lineBack s).inv = s.inv ∧ (lineBack s).sgx = s.sgx ∧ (lineBack s).hif = s.hif
      ∧ (lineBack s).wgu = s.wgu ∧ (lineBack s).acu = s.acu ∧ (lineBack s).cpt.mode = s.cpt.mode ∧ (lineBack s).cpt.enables = s.cpt.enables
      ∧ (lineBack s).cpt.response = s.cpt.response ∧ (lineBack s).cpt.validating = s.cpt.validating ∧ (lineBack s).cpt.restartPending = s.cpt.restartPending ∧ (lineBack s).dcc.stage = s.dcc.stage
      ∧ (lineBack s).dcc.queue = s.dcc.queue ∧ (lineBack s).dcc.faultCode = s.dcc.faultCode ∧ (lineBack s).dcc.secondFaults = s.dcc.secondFaults ∧ (lineBack s).dcc.active.map (·.job) = s.dcc.active.map (·.job)
      ∧ (lineBack s).dcc.active.isSome = s.dcc.active.isSome := by
  unfold lineBack
  (try dsimp only)
  (repeat' split) <;> simp_all

@[simp] theorem attemptFailed_frame :
    (attemptFailed s).sck = s.sck ∧ (attemptFailed s).cfs = s.cfs ∧ (attemptFailed s).peers = s.peers ∧ (attemptFailed s).pending = s.pending
      ∧ (attemptFailed s).freeCount = s.freeCount ∧ (attemptFailed s).inv = s.inv ∧ (attemptFailed s).sgx = s.sgx ∧ (attemptFailed s).hif = s.hif
      ∧ (attemptFailed s).wgu = s.wgu ∧ (attemptFailed s).acu = s.acu ∧ (attemptFailed s).cpt.mode = s.cpt.mode ∧ (attemptFailed s).cpt.enables = s.cpt.enables
      ∧ (attemptFailed s).cpt.response = s.cpt.response ∧ (attemptFailed s).cpt.validating = s.cpt.validating ∧ (attemptFailed s).cpt.restartPending = s.cpt.restartPending ∧ (attemptFailed s).dcc.stage = s.dcc.stage
      ∧ (attemptFailed s).dcc.queue = s.dcc.queue ∧ (attemptFailed s).dcc.faultCode = s.dcc.faultCode ∧ (attemptFailed s).dcc.secondFaults = s.dcc.secondFaults ∧ (attemptFailed s).dcc.active.map (·.job) = s.dcc.active.map (·.job)
      ∧ (attemptFailed s).dcc.active.isSome = s.dcc.active.isSome := by
  unfold attemptFailed
  (try dsimp only)
  (repeat' split) <;> simp_all

@[simp] theorem dropAttempt_frame :
    (dropAttempt s).sck = s.sck ∧ (dropAttempt s).cfs = s.cfs ∧ (dropAttempt s).peers = s.peers ∧ (dropAttempt s).pending = s.pending
      ∧ (dropAttempt s).freeCount = s.freeCount ∧ (dropAttempt s).cpt = s.cpt ∧ (dropAttempt s).inv = s.inv ∧ (dropAttempt s).zcu = s.zcu
      ∧ (dropAttempt s).adm = s.adm ∧ (dropAttempt s).dcc = s.dcc ∧ (dropAttempt s).sgx = s.sgx ∧ (dropAttempt s).hif = s.hif
      ∧ (dropAttempt s).wgu = s.wgu ∧ (dropAttempt s).acu = s.acu := by
  unfold dropAttempt
  (try dsimp only)
  (repeat' split) <;> simp_all

end Sys2Proof.Machine
end

