-- ==== Sys2Proof/Laws/Layouts.lean ====
section
/-! SUPPORT. The byte order of the layouts: what `beBytes` and `beNat` make of each other, and where a field of joined bytes
lies. -/

namespace Sys2Proof.Machine

/-- `beBytes k` is `k` bytes. -/
@[simp] theorem beBytes_length (k n : Nat) : (beBytes k n).length = k := by
  induction k with
  | zero => rfl
  | succ k ih => simp [beBytes, ih]

/-- `beNat` from a carried value: the carry counts above the bytes. -/
theorem beNat_foldl (l : List Byte) (acc : Nat) :
    l.foldl (fun a (b : Byte) => a * 256 + b.toNat) acc = acc * 256 ^ l.length + beNat l := by
  induction l generalizing acc with
  | nil => simp [beNat]
  | cons b l ih =>
    simp only [beNat, List.foldl_cons, List.length_cons]
    rw [ih, ih (0 * 256 + b.toNat)]
    ring

/-- The number of joined bytes. -/
theorem beNat_append (l m : List Byte) : beNat (l ++ m) = beNat l * 256 ^ m.length + beNat m := by
  simp only [beNat, List.foldl_append]
  exact beNat_foldl m _

/-- The bytes of a number spell it, modulo what they can hold. -/
theorem beNat_beBytes (k n : Nat) : beNat (beBytes k n) = n % 256 ^ k := by
  induction k with
  | zero => simp [beBytes, beNat, Nat.mod_one]
  | succ k ih =>
    rw [beBytes, show BitVec.ofNat 8 (n / 256 ^ k) :: beBytes k n
      = [BitVec.ofNat 8 (n / 256 ^ k)] ++ beBytes k n from rfl, beNat_append, ih]
    simp only [beNat, List.foldl_cons, List.foldl_nil, BitVec.toNat_ofNat, beBytes_length]
    rw [show (2 : Nat) ^ 8 = 256 from rfl, Nat.pow_succ, Nat.mod_mul (x := n) (a := 256 ^ k) (b := 256)]
    generalize n / 256 ^ k % 256 = q
    ring

/-- A field of a whole list from byte 0. -/
theorem beField_all (l : List Byte) (n : Nat) (h : l.length = n) : beField l 0 n = beNat l := by
  simp [beField, List.take_of_length_le, h]

/-- A field beyond the first of two joined lists. -/
theorem beField_append_right (l m : List Byte) (at_ n : Nat) : beField (l ++ m) (l.length + at_) n = beField m at_ n := by
  rw [beField, beField, List.drop_append, List.drop_eq_nil_of_le (by omega), List.nil_append, Nat.add_sub_cancel_left]

/-- A field within the first of two joined lists. -/
theorem beField_append_left (l m : List Byte) (at_ n : Nat) (h : at_ + n ≤ l.length) :
    beField (l ++ m) at_ n = beField l at_ n := by
  simp only [beField]
  rw [List.drop_append_of_le_length (by omega), List.take_append_of_le_length (by simp; omega)]

end Sys2Proof.Machine
end

