-- ==== Sys2Proof/Laws/Steps.lean ====
section
/-! SUPPORT. What the attempt's last dominant bit time is, what a standing motion limit count is, and one lemma per step of the
walk of the Segment Executor. -/

namespace Sys2Proof.Machine

/-! ### The bit times of an attempt -/

/-- Beyond its bytes a notice sends nothing dominant (R114). -/
theorem sentDominant_beyond (bytes : List Byte) (n : Nat) (h : 10 * bytes.length ≤ n) : sentDominant bytes n = false := by
  have hn : bytes[n / 10]? = none := List.getElem?_eq_none (by omega)
  simp only [sentDominant, hn]

/-- A notice's last dominant bit time is one, and the last (R114, R115). -/
theorem lastDominant_spec (bytes : List Byte) (h : bytes ≠ []) :
    sentDominant bytes (lastDominant bytes) = true ∧ ∀ n, lastDominant bytes < n → sentDominant bytes n = false := by
  have hpos : 0 < bytes.length := List.length_pos_of_ne_nil h
  have h0 : sentDominant bytes 0 = true := by
    obtain ⟨b, rest, rfl⟩ := List.exists_cons_of_ne_nil h
    rfl
  let l := (List.range (10 * bytes.length)).filter (sentDominant bytes)
  have hm : ∀ n, n ∈ l ↔ n < 10 * bytes.length ∧ sentDominant bytes n = true := fun n => by simp [l]
  have hne : l ≠ [] := List.ne_nil_of_mem ((hm 0).mpr ⟨by omega, h0⟩)
  have hl : lastDominant bytes = l.getLast hne := by
    show (l.getLast?).getD 0 = _
    rw [List.getLast?_eq_some_getLast hne]; rfl
  have hs : l.Pairwise (· < ·) := List.Pairwise.filter _ List.pairwise_lt_range
  refine ⟨hl ▸ ((hm _).mp (List.getLast_mem hne)).2, fun n hn => ?_⟩
  by_contra hd
  have hnl : n ∈ l := (hm n).mpr ⟨by by_contra hb; exact hd (sentDominant_beyond bytes n (by omega)), by simpa using hd⟩
  have hle : n ≤ l.getLast hne := by
    have hp := hs
    rw [← List.dropLast_append_getLast hne] at hp hnl
    rcases List.mem_append.mp hnl with hx | hx
    · exact Nat.le_of_lt ((List.pairwise_append.mp hp).2.2 n hx _ (List.mem_singleton_self _))
    · exact Nat.le_of_eq (List.mem_singleton.mp hx)
  omega

/-! ### The motion limit count (R80) -/

@[simp] theorem stand_limit (m : MotionTimer) : m.stand.limit = m.limit := rfl
@[simp] theorem stand_count (m : MotionTimer) : m.stand.count = min m.count m.limit := rfl

/-- A standing count has not expired. -/
theorem stand_not_expired (m : MotionTimer) : ¬ m.stand.limit < m.stand.count := by simp

/-! ### The weigh operation (R92, R93) -/

/-- A request changes the weigh operation record only. -/
theorem weighRequest_wgu (s : State) : (weighRequest s).wgu = { s.wgu with op := some s.newWeighing } := rfl

@[simp] theorem newWeighing_settleTimer (s : State) : s.newWeighing.settleTimer = 0 := rfl
@[simp] theorem newWeighing_samples (s : State) : s.newWeighing.samples = [] := rfl
@[simp] theorem newWeighing_phase (s : State) : s.newWeighing.phase = if s.still then .averaging else .settling := rfl

/-- The operation made by a request is the one the state after it would make: the window is the same. -/
theorem newWeighing_weighRequest (s : State) : (weighRequest s).newWeighing = s.newWeighing := rfl

/-- A weigh sample never moves the settle timer. -/
@[simp] theorem settleWith_settleTimer (still : Bool) (x : Sample) (op : WeighOp) :
    (op.settleWith still x).settleTimer = op.settleTimer := by unfold WeighOp.settleWith; split <;> rfl

/-- In AVERAGING the settle timer is stopped. -/
theorem tick_averaging (n : Nat) (op : WeighOp) (h : op.phase = .averaging) : op.tick n = op := by
  simp only [WeighOp.tick, h]

/-- In SETTLING it runs to the settle time. -/
theorem tick_settling (n : Nat) (op : WeighOp) (h : op.phase = .settling) :
    op.tick n = { op with settleTimer := min n (op.settleTimer + 1) } := by
  simp only [WeighOp.tick, h]

/-! ### The hold time of a dip (R36, R104) -/

/-- The end of a hold adds its length to the hold time of the active dip; nothing else of the dip changes. -/
theorem endHold_active {s : State} {d : Dip} (h : s.dcc.active = some d) :
    (endHold s).dcc.active = some { d with holdTime := holdTimeAfter s.dcc.hold d } := by
  unfold endHold
  split
  · rename_i hn; simp [h, hn, holdTimeAfter]
  · rename_i b hb
    have hr : ∀ u : State, (raiseState u).dcc = u.dcc := fun u => by unfold raiseState; split <;> rfl
    rw [hr]
    simp [State.onDcc, State.onDip, h, hb, holdTimeAfter, saturate, maxHoldTime]

/-! ### The walk of the Segment Executor, step by step (R52 to R55) -/

variable {s : State} (n : Nat)

theorem sgxRun_nothing (h : s.find = .nothing) : sgxRun (n + 1) s = s := by simp only [sgxRun, h]

theorem sgxRun_back {next : Option Nat} (h : s.find = .back next) :
    sgxRun (n + 1) s = sgxRun n (s.onSgx fun x => { x with cursor := Cursor.ofNext next, returnIndex := none }) := by
  simp only [sgxRun, h]

theorem sgxRun_pass {seg : Segment} (h : s.find = .pass seg) :
    sgxRun (n + 1) s = sgxRun n (s.onSgx fun x => { x with cursor := Cursor.ofNext seg.next }) := by
  simp only [sgxRun, h]

theorem sgxRun_done_next {p q : Phase} (h : s.find = .done p) (hq : phaseFollowing p = some q) :
    sgxRun (n + 1) s = sgxRun n (handStage q s) := by
  simp only [sgxRun, h, hq]

theorem sgxRun_done_leave {p : Phase} (h : s.find = .done p) (hq : phaseFollowing p = none) :
    sgxRun (n + 1) s = leavePhase p s := by
  simp only [sgxRun, h, hq]

theorem sgxRun_yield {seg : Segment} (h : s.find = .start seg) (hy : s.dcc.stage = .approach ∧ s.zcu.yielding = true) :
    sgxRun (n + 1) s = waitHold .conflict s := by
  simp only [sgxRun, h, hy, and_self, if_true]

theorem sgxRun_call {seg : Segment} {target : Nat} (h : s.find = .start seg)
    (hy : ¬ (s.dcc.stage = .approach ∧ s.zcu.yielding = true)) (hw : seg.work = .call target) :
    sgxRun (n + 1) s = sgxRun n (takeCall seg target s) := by
  simp only [sgxRun, h, if_neg hy, hw]

theorem sgxRun_start {seg : Segment} (h : s.find = .start seg)
    (hy : ¬ (s.dcc.stage = .approach ∧ s.zcu.yielding = true)) (hw : ∀ k, seg.work ≠ .call k) :
    sgxRun (n + 1) s
      = if (startSegment seg s).sgx.current.isNone then sgxRun n (startSegment seg s) else startSegment seg s := by
  cases hseg : seg.work <;> first | exact absurd hseg (hw _) | simp only [sgxRun, h, if_neg hy, hseg]

end Sys2Proof.Machine
end

