-- ==== Sys2Proof/Tests/Slice0.lean ====
section
/-! SUPPORT. Tests of the model: the checks of well-formedness, frames and notices written out byte by byte, the worked figures
of the spec, one step of each family, and for every statement with hypotheses a state that meets them. -/

namespace Sys2Proof.Tests

-- The kernel evaluates the tests one after another.
set_option Elab.async false

open Sys2Proof Sys2Proof.Machine

/-! ### Helpers -/

/-- A command answers a next state of which a test holds. -/
def after (o : Host.Outcome State Fault Refusal) (p : State → Bool) : Bool :=
  match o with
  | .next t => p t
  | _ => false

/-- A short recipe: immerse, soak (a dwell), withdraw, drain (a wait), depart. -/
def segments : List Segment :=
  [ ⟨.approach, some 1, .set, .keep, .move .abs 2000 700⟩,
    ⟨.immerse, some 2, .keep, .pulse, .move .surf (-1500) 150⟩,
    ⟨.soak, some 3, .keep, .keep, .dwell 60000⟩,
    ⟨.withdraw, some 4, .keep, .keep, .move .surf 60 100⟩,
    ⟨.drain, some 5, .keep, .keep, .waitInput .t0 .rising 20000⟩,
    ⟨.depart, none, .clear, .keep, .move .abs 5000 500⟩ ]

/-- The settings of station 7 on the kettle of the worked case (01). -/
def settings : Settings :=
  { station := 6, zoneCount := 14, area := 2520, overflowLimit := 19000, minLevel := 17000
    initialInventory := 3000000, travelLow := 500, travelHigh := 9000, maxSpeed := 600, creepSpeed := 80
    slowBand := 200, arrivalBand := 5, exitClearance := 50, safeHeight := 2000, holdLimit := 30, divider := 1
    stillBand := 20, settleTime := 5000, weighZero := 12000, weighGain := 20000, event0 := .rising, event1 := .none
    heads := [some 0] ++ List.replicate 15 none, segments := segments }

/-- A station in READY with nothing in hand. -/
def ready : State :=
  { State.reset with
    cfs := some settings
    cpt := { Cpt.reset with mode := .ready }
    kli := { Kli.reset with hunting := false }
    inv := { Inv.reset with mass := 3000000, level := 18038, origin := 7 }
    adm := { Adm.reset with without := 18038, surface := 18038 }
    hif := { Hif.reset with
      hook := 5000, hookValid := true, driveReady := some true, driveFault := some false, halt := some true
      t0 := some false, t1 := some false } }

/-- The job of station 7 in the worked sequence of 02. -/
def job : Job := { id := 712, recipe := 0, firstZone := 9, zoneCount := 3, hang := 2300, height := 2500, tare := 1250 }

/-- Its dip, weighed. -/
def dip : Dip := { newDip job 200000 false with dry := some 91250, steel := some 90000 }

/-- A station in a stage, with its dip active and its claim and reservation as the stage has them. -/
def inStage (st : Stage) (claim : ClaimState) (mask : Mask) (resv : ResvState) : State :=
  { ready with
    dcc := { Dcc.reset with stage := st, active := some dip }
    zcu := { Zcu.reset with claim := claim, mask := mask }
    adm := { ready.adm with resv := resv, full := 455 }
    acu := { Acu.reset with reserved := true } }

/-- The Segment Executor in a stage with a segment running. -/
def running (s : State) (p : Phase) (cursor : Cursor) (r : Running) : State :=
  { s with sgx := { s.sgx with stage := some p, cursor := cursor, current := some r } }

def claiming : State := inStage .claim (.pending (some 0)) 0x0700 .none
def admitting : State := inStage .admitting .held 0x0700 (.pending (some 0))
def soaking : State := running (inStage .soak .held 0x0700 .admitted) .soak (.seg 3) .dwell
def withdrawing : State := running (inStage .withdraw .held 0x0700 .admitted) .withdraw .chainEnd (.move 1860 4160 100)
def draining : State := running (inStage .drain .held 0x0700 .none) .drain (.seg 5) (.wait .t0 .rising)
def faulted : State :=
  { inStage .fault .held 0x0700 .none with
    dcc := { Dcc.reset with
      stage := .fault, faultCode := .encoder
      active := some { dip with faultStage := some .soak, flags := { dip.flags with faulted := true } } } }

/-- A dip record: that of a dip stored with nothing weighed. -/
def record : DipRecord := recordOf ready dip

/-- What station 3 of the worked case announces. -/
def station3 : Announced :=
  { Announced.zero with stage := 6, claim := .held, mask := 0x0003, resv := .admitted, reserved := 304, actual := 123
                        origin := 3, inventory := 3000000 }

/-- Station 7 with station 3 heard at the clock's start. -/
def withPeer (presence : Presence) (s : State) : State := s.setPeer 2 ⟨presence, station3, 0, false⟩

/-! ### Well-formedness: each check refuses an ill-formed term -/

theorem test_wf_refuses_listed_code : (Instr.unknownCommand 0x04 []).wellFormed = false := by decide
theorem test_wf_refuses_last_listed_code : (Instr.unknownCommand 0x12 []).wellFormed = false := by decide
theorem test_wf_refuses_idle_code : (Instr.unknownCommand 0x00 []).wellFormed = false := by decide
theorem test_wf_takes_unlisted_code : (Instr.unknownCommand 0x13 []).wellFormed = true := by decide
theorem test_wf_refuses_late_bit : (Instr.bitReadBackMismatch 340 true).wellFormed = false := by decide
theorem test_wf_takes_last_bit : (Instr.bitReadBackMismatch 339 true).wellFormed = true := by decide

/-! ### Frames and notices, byte by byte -/

/-- No row of the table has bits (log 21). -/
theorem test_no_table_word (s : State) (nbits w : Nat) : decodeTableWord nbits w = none ∧ s.withFetchWord nbits w = s :=
  ⟨rfl, rfl⟩

theorem test_frame_get_status : decodeFrame [0x04, 0x00] = some (.getStatus [0x00]) := by decide
theorem test_frame_dip :
    decodeFrame [0x05, 0x0D, 0, 0, 0, 1, 2, 3, 3, 0x08, 0x98, 0x05, 0xDC, 0x04, 0xB0]
      = some (.dip [0x0D, 0, 0, 0, 1, 2, 3, 3, 0x08, 0x98, 0x05, 0xDC, 0x04, 0xB0]) := by decide
theorem test_job_of_frame :
    jobOfArgs [0, 0, 0, 1, 2, 3, 3, 0x08, 0x98, 0x05, 0xDC, 0x04, 0xB0]
      = { id := 1, recipe := 2, firstZone := 3, zoneCount := 3, hang := 2200, height := 1500, tare := 1200 } := by decide
theorem test_frame_forget : decodeFrame [0x0F, 0x01, 0x05] = some (.forgetPeer [0x01, 0x05]) := by decide
theorem test_frame_idle : decodeFrame [0x00, 0x12] = some .idleFrame := by decide
theorem test_frame_unlisted : decodeFrame [0x13, 0x00] = some (.unknownCommand 0x13 [0x00]) := by decide
theorem test_args_short : frameArgs [0x02, 0x01] = none := by decide
theorem test_args_above_60 : frameArgs (61 :: List.replicate 61 0) = none := by decide
theorem test_args_beyond_are_ignored : frameArgs [0x01, 0x05, 0x06] = some [0x05] := by decide

/-- The worked CRC-16 of 07: after 26h the register holds A554h. -/
theorem test_crc16_first_byte : crc16 [0x26] = 0xA554#16 := by decide
/-- The LEAVE notice of station 7 is 26h, 00h, B1h, 4Fh (07). -/
theorem test_leave_notice : noticeBytes 6 .leave = [0x26, 0x00, 0xB1, 0x4F] := by decide +kernel
theorem test_leave_received : checkNotice [0x26, 0x00, 0xB1, 0x4F] false = some ⟨6, .leave⟩ := by decide +kernel
theorem test_bad_crc_discarded : checkNotice [0x26, 0x00, 0xB1, 0x4E] false = none := by decide +kernel
theorem test_spoiled_discarded : checkNotice [0x26, 0x00, 0xB1, 0x4F] true = none := by decide

/-! ### The worked figures of the spec -/

theorem test_gross_exact : grossWeight 12000 20000 212704 = 61250 := by decide
theorem test_gross_rounds_down : grossWeight 12000 20000 212703 = 61249 := by decide
theorem test_level_of_worked_case : levelOf 2520 3000000 = 18038 ∧ levelOf 2520 2997310 = 18022 := by decide
theorem test_sounding : massOfSounding 2520 18000 = 2993760 ∧ levelOf 2520 2993760 = 18000 := by decide
theorem test_full_displacement :
    fullDisplacement 2520 60000 = 304 ∧ fullDisplacement 2520 82000 = 415 ∧ fullDisplacement 2520 90000 = 455 := by decide
theorem test_depth_and_displacement :
    immersedDepth 18038 3038 2200 2400 = 9658 ∧ ownDisplacement 304 9658 2400 = 123 := by decide
theorem test_below_surface : belowSurface 18038 4003 2200 = true ∧ belowSurface 18038 4004 2200 = false := by decide
theorem test_surface_clear : surfaceClear 18248 4075 2200 50 = true ∧ surfaceClear 18248 4074 2200 50 = false := by decide
theorem test_drawn_drip_pickup :
    drawnOf (some 61250) (some 63940) = (2690, false) ∧ dripBackOf (some 64180) (some 63940) = (some 240, false)
      ∧ pickupOf (some 61250) (some 63940) (some 60000) = some 44 := by decide
theorem test_motion_limit : motionLimit 2300 600 = 12667 ∧ motionLimit 100 80 = 7500 := by decide
theorem test_footprint : footprint job = 0x0700#16 := by decide
theorem test_counter_wrap : counterMovement false 1500#32 4294966000#32 = 2796 := by decide
theorem test_counter_restart : counterMovement false 0#32 1207190#32 = 0 := by decide
/-- 32 gross weights summing to 1,960,010 (01). -/
theorem test_average : averageWeight 0 (List.replicate 31 ⟨61250, false⟩ ++ [⟨61260, false⟩]) = 61250 := by decide
/-- SURF -1,450 at a surface of 18,229 with a hang of 2,200: 372 mm, hook 2,572 mm (03). -/
theorem test_frozen_target :
    ({ ready with adm := { ready.adm with surface := 18229 } } : State).freeze .surf (-1450) = 372
      ∧ clampHook settings 372 2200 = (2572, false) := by decide

/-! ### The configuration image -/

/-- A segment record (03, Segment record layout). -/
def segmentBytes (kind phase next reference : Nat) (target : BitVec 16) (speed flags : Nat) : List Byte :=
  beBytes 4 (kind * 16777216 + phase * 65536 + next * 256 + reference) ++ beBytes 2 target.toNat ++ beBytes 2 speed
    ++ beBytes 6 0 ++ beBytes 1 flags ++ beBytes 1 0

/-- The header of an image of three segments, that of the settings above with one recipe, in two parts. -/
def headerFirst : List Byte :=
  beBytes 2 1 ++ beBytes 1 7 ++ beBytes 1 14 ++ beBytes 2 2520 ++ beBytes 2 19000 ++ beBytes 2 17000
    ++ beBytes 4 3000000 ++ beBytes 2 500 ++ beBytes 2 9000 ++ beBytes 2 600 ++ beBytes 2 80 ++ beBytes 2 200
    ++ beBytes 2 5 ++ beBytes 2 50
def headerRest : List Byte :=
  beBytes 2 2000 ++ beBytes 2 30 ++ beBytes 1 1 ++ beBytes 2 20 ++ beBytes 2 5000 ++ beBytes 3 12000 ++ beBytes 2 20000
    ++ beBytes 1 1 ++ (beBytes 1 0 ++ List.replicate 15 0xFF) ++ beBytes 1 3

/-- Its segments: immerse, withdraw, depart. -/
def segmentPart : List Byte :=
  segmentBytes 0 1 1 1 0xFA24 150 0xC0 ++ segmentBytes 0 3 2 1 0x003C 100 0 ++ segmentBytes 0 5 255 0 5000 500 0x20

/-- The image without and with its CRC-32. -/
def imageBody : List Byte := headerFirst ++ headerRest ++ segmentPart
def image : List Byte := imageBody ++ beBytes 4 3744411333

/-- The load of that image, complete. -/
def loaded : Load := { buffer := image, declared := 112, received := 112, overflow := false }

/-- CRC-32 of "123456789" with these parameters. -/
theorem test_crc32 : crc32 [0x31, 0x32, 0x33, 0x34, 0x35, 0x36, 0x37, 0x38, 0x39] = 0x0376E6E7#32 := by
  decide +kernel

theorem test_image_crc : crc32 imageBody = 3744411333#32 := by
  have h1 : headerFirst.foldl crc32Byte 0xFFFFFFFF#32 = 3831532769#32 := by decide +kernel
  have h2 : headerRest.foldl crc32Byte 3831532769#32 = 155915334#32 := by decide +kernel
  have h3 : segmentPart.foldl crc32Byte 155915334#32 = 3744411333#32 := by decide +kernel
  rw [crc32, imageBody, List.foldl_append, List.foldl_append, h1, h2, h3]

theorem test_image_is_valid : validateLoad loaded = none := by
  have hb : loaded.buffer.take (loaded.declared - 4) = imageBody := by decide +kernel
  have hf : beField loaded.buffer (loaded.declared - 4) 4 = 3744411333 := by decide +kernel
  have hv : beField loaded.buffer 0 2 = 1 := by decide +kernel
  have hh : headerCheck loaded.buffer loaded.declared = none := by decide +kernel
  have hr : recipeCheck (rawRecipes loaded.buffer) = none := by decide +kernel
  have ho : loaded.overflow = false := rfl
  have hl : loaded.received = loaded.declared := rfl
  simp [validateLoad, hb, hf, hv, hh, hr, ho, hl, test_image_crc]

theorem test_image_segments :
    (settingsOf image).segments
      = [⟨.immerse, some 1, .keep, .pulse, .move .surf (-1500) 150⟩, ⟨.withdraw, some 2, .keep, .keep, .move .surf 60 100⟩,
         ⟨.depart, none, .clear, .keep, .move .abs 5000 500⟩] := by decide +kernel
theorem test_short_load : validateLoad { loaded with received := 111 } = some LoadResult.length := by decide
/-- The recipe part of an image with one head and its segments, to test the steps of R66 to R70. -/
def recipes (segments : List RawSegment) : RawRecipes := { heads := 0 :: List.replicate 15 255, segments := segments }

/-- A MOVE of a phase, absolute, with a next index. -/
def rawMove (phase next : Nat) (target : Int) : RawSegment :=
  { kind := 0, phase := phase, next := next, reference := 0, target := target, speed := 100, time := 0, amplitude := 0
    count := 0, m1 := 0, m0 := 0, input := 0, edge := 0, callTarget := 0 }

theorem test_recipe_bound : recipeCheck (recipes [rawMove 1 9 0]) = some (recipeFailure 0x06 0 255) := by decide
theorem test_recipe_loop : recipeCheck (recipes [rawMove 1 0 0]) = some (recipeFailure 0x07 0 0) := by decide
theorem test_recipe_nest :
    recipeCheck (recipes [{ rawMove 1 255 0 with kind := 4 }]) = some (recipeFailure 0x08 0 0) := by decide
theorem test_recipe_order :
    recipeCheck (recipes [rawMove 3 1 0, rawMove 1 255 0]) = some (recipeFailure 0x0A 1 0) := by decide
theorem test_recipe_missing : recipeCheck (recipes [rawMove 1 255 0]) = some (recipeFailure 0x0B 0 0) := by decide
theorem test_recipe_range :
    recipeCheck (recipes [rawMove 1 1 0, rawMove 3 2 25000, rawMove 5 255 0]) = some (recipeFailure 0x0C 1 255) := by decide

/-! ### One step of each family -/

theorem test_hardware_reset : after (exec .hardwareReset faulted) (fun t => decide (t = State.reset)) = true := by
  decide +kernel
theorem test_load_begin :
    after (exec (.loadBegin [3, 0x00, 0x40, 1]) State.reset)
      (fun t => decide (t.cpt.mode = .loading ∧ t.cpt.loadTimer = some 1000)) = true := by decide +kernel
theorem test_load_begin_too_long :
    after (exec (.loadBegin [3, 0x06, 0x41, 1]) State.reset) (fun t => decide (t = refusedWith .badArg State.reset)) = true := by
  decide +kernel
theorem test_status_of_reset :
    after (exec (.getStatus [0]) State.reset)
      (fun t => decide (t.cpt.response.data.length = 42 ∧ t.cpt.response.code = .ok)) = true := by decide +kernel
/-- Segment 0's hook target is 2,000 + 2,300 = 4,300 mm, the last one's 7,300 mm; both lie in the travel bounds. -/
theorem test_dip_queued :
    after (exec (.dip [13, 0, 0, 2, 0xC8, 0, 9, 3, 0x08, 0xFC, 0x09, 0xC4, 0x04, 0xE2]) ready)
      (fun t => decide (t.dcc.queue = [job] ∧ t.cpt.response = ⟨.ok, [1]⟩)) = true := by decide +kernel
theorem test_cancel_unknown :
    after (exec (.cancelJob [4, 0, 0, 2, 0xC8]) ready) (fun t => decide (t = refusedWith .noSuchJob ready)) = true := by
  decide +kernel
theorem test_abort_without_job :
    after (exec (.abortDip [0]) ready) (fun t => decide (t = refusedWith .noJob ready)) = true := by decide +kernel
theorem test_abort_in_soak :
    after (exec (.abortDip [0]) soaking)
      (fun t => decide (t.dcc.stage = .withdraw ∧ t.sgx.current = some (.move 1863 4163 100))) = true := by decide +kernel
theorem test_recover_with_force :
    after (exec (.recover [1, 1]) faulted)
      (fun t => decide (t.dcc.stage = .idle ∧ t.acu.log.map (·.endStage) = [.soak])) = true := by decide +kernel
/-- A sounding of 1,800.0 mm gives 2,993,760 and the pair (1, 7). -/
theorem test_set_level :
    after (exec (.setLevel [2, 0x46, 0x50]) ready)
      (fun t => decide (t.inv.mass = 2993760 ∧ t.inv.level = 18000 ∧ t.inv.epoch = 1 ∧ t.inv.origin = 7)) = true := by
  decide +kernel
theorem test_add_zinc :
    after (exec (.addZinc [4, 0, 0, 0x03, 0xE8]) ready)
      (fun t => decide (t.inv.mass = 3001000 ∧ t.inv.added = 1000)) = true := by decide +kernel
theorem test_remove_dross_too_much :
    after (exec (.removeDross [4, 0, 0, 0x4E, 0x21]) ready) (fun t => decide (t = refusedWith .badArg ready)) = true := by
  decide +kernel
theorem test_read_record_of_empty_log :
    after (exec (.readRecord [0]) ready) (fun t => decide (t = refusedWith .empty ready)) = true := by decide +kernel
/-- Station 3's record (06): presence mask 7Fh and flags 0200h. -/
theorem test_record_bytes :
    ((recordBytes { record with
        immersion := some 96400, dry := some 61250, exitWeight := some 64180, drained := some 63940, steel := some 60000
        drawn := 2690, dripBack := some 240, pickup := some 44
        flags := { DipFlags.clear with speedClamped := true } }).drop 2).take 4 = [0x7F, 0x0B, 0x02, 0x00] := by
  decide +kernel
theorem test_read_peer_of_absent :
    after (exec (.readPeer [1, 5]) ready)
      (fun t => decide (t.cpt.response.data = 5 :: List.replicate 34 0)) = true := by decide +kernel
theorem test_forget_present :
    after (exec (.forgetPeer [1, 3]) (withPeer .present ready))
      (fun t => decide (t.cpt.response.code = .notStale)) = true := by decide +kernel
theorem test_restart :
    after (exec (.restart [0]) ready)
      (fun t => decide (t.cpt.restartPending = true ∧ t.cpt.restartTimer = some 1000 ∧ t.kli.leaveRequest = true)) = true := by
  decide +kernel
theorem test_job_start :
    after (exec .jobStart { ready with dcc := { ready.dcc with queue := [job] } })
      (fun t => decide (t.dcc.stage = .weighDry ∧ t.dcc.queue = [] ∧ t.acu.reserved = true)) = true := by decide +kernel
theorem test_raw_sample :
    after (exec (.rawSample 212704) ready) (fun t => decide (t.wgu.window = [⟨61250, false⟩])) = true := by decide +kernel
/-- A weigh operation in a phase, in WEIGH_DRY. -/
def weighing (op : WeighOp) : State :=
  { inStage .weighDry .none 0 .none with wgu := { Wgu.reset with op := some op } }

/-- The worked dry weighing (05): the sample that completes stillness at 202,080 stops the settle timer at 2,080. -/
theorem test_stillness_stops_the_settle_timer :
    let s := weighing ⟨.settling, 2080, [⟨61250, false⟩]⟩
    after (exec (.rawSample 212704) { s with wgu := { s.wgu with window := List.replicate 16 ⟨61250, false⟩ } })
      (fun t => decide (t.wgu.op = some ⟨.averaging, 2080, []⟩)
        && after (exec .stationClockTick t) (fun u => decide (u.wgu.op = some ⟨.averaging, 2080, []⟩))) = true := by
  decide +kernel
theorem test_settle_timer_runs :
    after (exec .stationClockTick (weighing ⟨.settling, 4999, []⟩))
      (fun t => decide (t.wgu.op = some ⟨.settling, 5000, []⟩)) = true := by decide +kernel
theorem test_halt_stops :
    after (exec (.haltEdge false false) withdrawing) (fun t => decide (t.hif.speed = 0 ∧ t.haltAsserted = true)) = true := by
  decide +kernel
/-- 5,000 mm to 4,160 mm is beyond the slow band of 200: full speed, downward. -/
theorem test_halt_end_moves :
    after (exec (.haltEdge true true) { withdrawing with hif := { withdrawing.hif with halt := some false } })
      (fun t => decide (t.hif.speed = -100)) = true := by decide +kernel
/-- A count beyond its limit when halt is taken first stands short of expiry, and the leg goes on (R80). -/
theorem test_halt_before_expiry :
    let s := { withdrawing with hif := { withdrawing.hif with motion := some ⟨5001, 5000⟩ } }
    after (exec (.haltEdge false false) s)
      (fun t => decide (t.hif.motion = some ⟨5000, 5000⟩) && after (exec .motionLimitExpiry t) (fun u => decide (u = t))) = true := by
  decide +kernel
theorem test_expiry_before_halt :
    let s := { withdrawing with hif := { withdrawing.hif with motion := some ⟨5001, 5000⟩ } }
    after (exec .motionLimitExpiry s) (fun t => decide (t.dcc.faultCode = .motionTimeout)) = true := by decide +kernel
theorem test_drive_fault :
    after (exec (.driveFaultEdge true true) soaking)
      (fun t => decide (t.dcc.stage = .fault ∧ t.dcc.faultCode = .driveFault)) = true := by decide +kernel
theorem test_trigger_ends_wait :
    after (exec (.triggerEdge .t0 true true) draining) (fun t => decide (t.dcc.stage = .weighDrained)) = true := by
  decide +kernel
theorem test_one_sample_is_no_edge :
    after (exec (.triggerEdge .t0 false true) draining) (fun t => decide (t = draining)) = true := by decide +kernel
theorem test_claim_window :
    after (exec .claimWindowExpiry { claiming with sck := 400 })
      (fun t => decide (t.zcu.claim = .held ∧ t.dcc.stage = .approach ∧ t.sgx.current = some (.move 2000 4300 600)
        ∧ t.sgx.m0.high = true)) = true := by decide +kernel
theorem test_claim_window_not_due :
    after (exec .claimWindowExpiry { claiming with sck := 399 }) (fun t => decide (t.zcu.claim = .pending (some 0))) = true := by
  decide +kernel
/-- 18,038 + 455 is within 19,000; the frozen target is 1,803 - 1,500 = 303 mm. -/
theorem test_admission_window :
    after (exec .admissionWindowExpiry { admitting with sck := 400, sgx := { admitting.sgx with cursor := .seg 1 } })
      (fun t => decide (t.adm.resv = .admitted ∧ t.dcc.stage = .immerse ∧ t.sgx.current = some (.move 303 2603 150))) = true := by
  decide +kernel
theorem test_dwell_expiry :
    after (exec .dwellExpiry { soaking with sgx := { soaking.sgx with dwell := some 0 } })
      (fun t => decide (t.dcc.stage = .withdraw)) = true := by decide +kernel
theorem test_transmit_leave_first :
    after (exec .transmitAttemptStart { ready with kli := { ready.kli with leaveRequest := true, stateRequest := some 0 } })
      (fun t => decide (t.kli.attempt = some ⟨.leave, .driving, true⟩)) = true := by decide +kernel
/-- The arbitration byte of station 7's LEAVE is 26h = 00100110b: data bit 1 is the first sent recessive, at bit time 3. -/
theorem test_arbitration_lost :
    after (exec (.bitReadBackMismatch 3 true) { ready with kli := { ready.kli with attempt := some ⟨.leave, .driving, true⟩ } })
      (fun t => decide (t.kli.attempt = some ⟨.leave, .lost, true⟩ ∧ t.kli.failures = 0)) = true := by decide +kernel
/-- The last dominant bit time of that LEAVE is 34, in 4Fh (30 is its start bit): its notice ends with bit time 45 (R115). -/
theorem test_attempt_ends_at_45 :
    lastDominant [0x26, 0x00, 0xB1, 0x4F] = 34 ∧ attemptBits [0x26, 0x00, 0xB1, 0x4F] = 46 := by decide
theorem test_own_number_heard :
    after (exec (.noticeEnd [0x26, 0x00, 0xB1, 0x4F] false) ready) (fun t => decide (t.kli.lineLost = .duplicate)) = true := by
  decide +kernel
theorem test_notice_of_two_bytes_discarded :
    after (exec (.noticeEnd [0x26, 0x00] false) ready) (fun t => decide (t.kli.discards = 1)) = true := by decide +kernel
theorem test_unsent :
    after (exec .unsentExpiry { ready with sck := 1000, kli := { ready.kli with stateRequest := some 0 } })
      (fun t => decide (t.kli.lineLost = .unsent)) = true := by decide +kernel
theorem test_tick_wraps :
    after (exec .stationClockTick { ready with sck := 0xFFFFFFFF }) (fun t => decide (t.sck = 0)) = true := by decide +kernel
/-- The encoder height 4,003 = 0FA3h has eight ones: a parity bit of 1 makes them odd. -/
theorem test_parity : goodRead false 4003 true = true ∧ goodRead false 4003 false = false ∧ goodRead true 4003 true = false := by
  decide
theorem test_height_range : goodRead false 20000 false = true ∧ goodRead false 20001 true = false := by decide
/-- Arrival within the band of 5 mm in WITHDRAW, whichever block acts first (log 5): the dip weighs. -/
theorem test_arrival_ends_withdraw (admFirst : Bool) :
    decide ((hookUpdateWith admFirst (takeHeight 4155 withdrawing)).dcc.stage = .weighExit
      ∧ (hookUpdateWith admFirst (takeHeight 4166 withdrawing)).dcc.stage = .withdraw) = true := by
  cases admFirst <;> decide +kernel

/-! ### States that meet the hypotheses of the statements -/

/-- A frame at hand for `ready`. -/
theorem ready_open (tail args : List Byte) (h : frameArgs tail = some args) : FrameOpen ready tail args := ⟨rfl, h⟩

theorem witness_StepRunsTheFrontCommand :
    State.reset.pending = [] ∧ ({ State.reset with pending := [.idleFrame] } : State).pending = .idleFrame :: [] := by
  decide
theorem witness_EveryWellFormedCommandCompletes :
    (Instr.bitReadBackMismatch 339 true).wellFormed = true ∧ (Instr.unknownCommand 0xFF []).wellFormed = true := by decide
theorem witness_FrameDecodingInvertsEncoding :
    (Instr.unknownCommand 0x13 [0]).wellFormed = true ∧ encodeFrame (.unknownCommand 0x13 [0]) = some [0x13, 0]
      ∧ decodeFrame [0x12, 0] = some (.restart [0]) ∧ (0x01 : Byte) ≠ 0 := by decide
theorem witness_NoticeCheckInvertsNoticeBytes :
    let a := { station3 with
      stage := 255, reserved := 65535, actual := 65535, epoch := 65535, origin := 255, inventory := 4294967295 }
    a.stage < 256 ∧ a.reserved < 65536 ∧ a.actual < 65536 ∧ a.epoch < 65536 ∧ a.origin < 256
      ∧ a.inventory < 4294967296 := by decide
theorem witness_FramesAreAnsweredInOrder :
    (let s := { State.reset with cpt := { Cpt.reset with validating := true } };
      s.cpt.validating = true ∧ (0x05 : Byte) ≠ 0x04)
      ∧ frameArgs [1] = none ∧ listedCode 0x13 = false ∧ frameArgs [0] ≠ none ∧ State.reset.cpt.validating = false
      ∧ listedCode 0x12 = true ∧ takenIn (decodeCode 0x12 [0]) State.reset.cpt.mode = false
      ∧ (frameArgs [1, 9] = some [9] ∧ takenIn (decodeCode 0x12 [1, 9]) ready.cpt.mode = true
        ∧ lengthTaken (decodeCode 0x12 [1, 9]) 1 = false ∧ (0x12 : Byte) ≠ 0x05)
      ∧ (takenIn (decodeCode 0x05 [0]) ready.cpt.mode = true ∧ ready.cpt.restartPending = false
        ∧ lengthTaken (decodeCode 0x05 [0]) 0 = false ∧ lengthTaken (decodeCode 0x05 [13]) 13 = true) := by decide
theorem witness_RefusalsChangeOnlyTheResponse :
    exec (decodeCode 0x05 []) State.reset = .next (refusedWith .badFrame State.reset)
      ∧ (refusedWith .badFrame State.reset).cpt.response.code ≠ .ok := ⟨rfl, by decide⟩
theorem witness_FramesThatOnlyAnswer :
    unlistedCode 0x13 = true ∧ FrameOpen ready [0] [] ∧ unlistedCode 0x12 = false ∧ frameArgs [0] = some []
      ∧ frameArgs [1, 7] = some [7] := ⟨by decide, ⟨rfl, rfl⟩, by decide, rfl, rfl⟩
theorem witness_EventsEnablesAndIrq :
    FrameOpen ready [2, 0xFF, 0xFF] [0xFF, 0xFF] ∧ FrameOpen ready [1, 0xFF] [0xFF] := ⟨⟨rfl, rfl⟩, ⟨rfl, rfl⟩⟩
theorem witness_LoadCommandsFillTheBuffer :
    FrameOpen State.reset [3, 0x06, 0x40, 60] [0x06, 0x40, 60] ∧ beField [0x06, 0x40, 60] 0 2 = 1600
      ∧ FrameOpen State.reset [3, 0x00, 0x40, 1] [0x00, 0x40, 1] ∧ beField [0x00, 0x40, 1] 0 2 = 64
      ∧ FrameOpen State.reset [3, 0x06, 0x41, 61] [0x06, 0x41, 61] ∧ 1600 < beField [0x06, 0x41, 61] 0 2
      ∧ 60 < beField [0x06, 0x41, 61] 2 1 ∧ beField [0x00, 0x3F, 0] 0 2 < 64 ∧ beField [0x00, 0x3F, 0] 2 1 = 0
      ∧ (let s := { State.reset with cpt := { Cpt.reset with mode := .loading } };
        s.cpt.mode = .loading ∧ FrameOpen s [1, 0xAA] [0xAA] ∧ [(0xAA : Byte)] ≠ [] ∧ FrameOpen s [0] []) :=
  ⟨⟨rfl, rfl⟩, by decide, ⟨rfl, rfl⟩, by decide, ⟨rfl, rfl⟩, by decide, by decide, by decide, by decide, rfl, ⟨rfl, rfl⟩,
    by decide, ⟨rfl, rfl⟩⟩
theorem witness_LoadEndsAndTimersChangeTheMode :
    (let s := { State.reset with cpt := { Cpt.reset with validating := true, load := { loaded with received := 111 } } };
      s.cpt.validating = true ∧ validateLoad s.cpt.load = some LoadResult.length)
      ∧ State.reset.cpt.validating = false
      ∧ (let s := { State.reset with cpt := { Cpt.reset with mode := .loading, loadTimer := some 0 } };
        s.cpt.mode = .loading ∧ s.cpt.loadTimer = some 0)
      ∧ (let s := { ready with cpt := { Cpt.reset with mode := .listen, listenTimer := some 0 } };
        s.cpt.mode = .listen ∧ s.cpt.listenTimer = some 0) := by decide
theorem witness_PassedValidationEntersListen :
    let s := { State.reset with cpt := { Cpt.reset with mode := .loading, validating := true, load := loaded } }
    s.cpt.validating = true ∧ validateLoad s.cpt.load = none := ⟨rfl, test_image_is_valid⟩
theorem witness_RestartIsAcceptedAndCleared :
    (FrameOpen ready [0] [] ∧ ready.cpt.mode = .ready ∧ ready.cpt.restartPending = false ∧ ready.dcc.stage = .idle
        ∧ ready.zcu.claim = .none ∧ ready.adm.resv = .none)
      ∧ (soaking.cpt.restartPending = false ∧ soaking.dcc.stage ≠ .idle)
      ∧ (let s := { ready with cpt := { ready.cpt with restartPending := true, restartTimer := some 0 } };
        s.cpt.restartPending = true ∧ s.cpt.restartTimer = some 0 ∧ s.dcc.stage = .idle ∧ s.zcu.claim = .none
          ∧ s.adm.resv = .none) := ⟨⟨⟨rfl, rfl⟩, by decide⟩, by decide, by decide⟩
theorem witness_SoundingReadsBack :
    (100 ≤ 10000 ∧ 12121 ≤ 65535 ∧ 12121 * (33 * 10000) / 500 ≤ 8000000)
      ∧ (100 ≤ 100 ∧ 65535 ≤ 65535 ∧ 65535 * (33 * 100) / 500 ≤ 8000000)
      ∧ (FrameOpen ready [2, 0, 0] [0, 0] ∧ ready.online = true ∧ [(0 : Byte), 0].length = 2 ∧ ready.inv.epoch ≠ 65535
        ∧ 100 ≤ ready.settings.area ∧ beNat [0, 0] * (33 * ready.settings.area) / 500 ≤ 8000000 ∧ beNat [0, 0] = 0) :=
  ⟨by decide, by decide, ⟨rfl, rfl⟩, by decide⟩
theorem witness_SetLevelTakesASounding :
    FrameOpen ready [2, 0, 0] [0, 0] ∧ ready.online = true ∧ [(0 : Byte), 0].length = 2 ∧ ready.inv.epoch ≠ 65535
      ∧ ({ ready with inv := { ready.inv with epoch := 65535 } } : State).inv.epoch = 65535 :=
  ⟨⟨rfl, rfl⟩, by decide⟩
theorem witness_ZincCommandsCountTheirMass :
    FrameOpen ready [4, 0, 0, 0xC3, 0x50] [0, 0, 0xC3, 0x50] ∧ ready.online = true ∧ beNat [0, 0, 0xC3, 0x50] = 50000
      ∧ FrameOpen ready [4, 0, 0, 0, 1] [0, 0, 0, 1] ∧ beNat [0, 0, 0, 1] = 1
      ∧ FrameOpen ready [4, 0, 0, 0x4E, 0x20] [0, 0, 0x4E, 0x20] ∧ beNat [0, 0, 0x4E, 0x20] = 20000
      ∧ FrameOpen ready [4, 0, 0, 0xC3, 0x51] [0, 0, 0xC3, 0x51] ∧ 50000 < beNat [0, 0, 0xC3, 0x51]
      ∧ FrameOpen ready [4, 0, 0, 0, 0] [0, 0, 0, 0] ∧ beNat [0, 0, 0, 0] = 0 :=
  ⟨⟨rfl, rfl⟩, by decide, by decide, ⟨rfl, rfl⟩, by decide, ⟨rfl, rfl⟩, by decide, ⟨rfl, rfl⟩, by decide, ⟨rfl, rfl⟩,
    by decide⟩
theorem witness_EpochPairNeverDecreases :
    Instr.jobStart ≠ .hardwareReset ∧ Instr.jobStart ≠ .validationEnd ∧ exec .jobStart ready = .next ready :=
  ⟨by decide, by decide, rfl⟩
theorem witness_NamedRegistersHaveTheirCauses :
    Instr.stationClockTick ≠ .hardwareReset ∧ exec .stationClockTick ready = .next (drivePins (tickAll ready)) :=
  ⟨by decide, rfl⟩

/-- Nothing is in hand at the Segment Executor. -/
theorem sgxWf_of_none (s : State) (h1 : s.sgx.stage = none) (h2 : s.sgx.current = none) : SgxWf s :=
  ⟨fun p hp => by simp [h1] at hp, fun hc => by simp [h2] at hc⟩

theorem witness_IdleFaultAndModesAreLeftOnlySo :
    (Instr.jobStart ≠ .hardwareReset ∧ exec .jobStart ready = .next ready ∧ SgxWf ready ∧ ready.dcc.stage = .idle
        ∧ ready.cpt.mode = .ready)
      ∧ (exec .idleFrame faulted = .next faulted ∧ SgxWf faulted ∧ faulted.dcc.stage = .fault)
      ∧ (let s := { ready with cpt := { ready.cpt with mode := .listen } };
        exec .idleFrame s = .next s ∧ s.cpt.mode = .listen) :=
  ⟨⟨by decide, rfl, sgxWf_of_none _ rfl rfl, rfl, rfl⟩, ⟨rfl, sgxWf_of_none _ rfl rfl, rfl⟩, rfl, rfl⟩

/-- `ready` with one record in the log. -/
def oneRecord : State := { ready with acu := { ready.acu with log := [record] } }

theorem witness_RecordsAreReadAndPeeked :
    FrameOpen oneRecord [0] [] ∧ oneRecord.online = true ∧ oneRecord.acu.log = record :: []
      ∧ FrameOpen ready [0] [] ∧ ready.acu.log = [] ∧ FrameOpen ready [1, 9] [9] ∧ [(9 : Byte)] ≠ []
      ∧ FrameOpen State.reset [0] [] ∧ State.reset.online = false :=
  ⟨⟨rfl, rfl⟩, by decide, rfl, ⟨rfl, rfl⟩, rfl, ⟨rfl, rfl⟩, by decide, ⟨rfl, rfl⟩, by decide⟩
theorem witness_StoreKeepsTheAccount :
    soaking.dcc.active = some dip ∧ dip.flags.faulted = false ∧ dip.flags.aborted = false
      ∧ (∃ d, faulted.dcc.active = some d ∧ d.flags.faulted = true ∧ d.faultStage = some .soak)
      ∧ (let s := { soaking with acu := { soaking.acu with log := List.replicate 31 record } };
        s.dcc.active = some dip ∧ s.acu.log.length + 1 = 32)
      ∧ (let d := { dip with abortStage := some .soak, flags := { dip.flags with aborted := true } };
        d.flags.faulted = false ∧ d.flags.aborted = true ∧ d.abortStage = some .soak) ∧ 0 < 1
      ∧ (soaking.acu.log.length + 1 ≠ 32 ∧ dip.immersionStart = none)
      ∧ (let d := { dip with immersionStart := some 1, immersionEnd := some 96401 };
        d.immersionStart = some 1 ∧ d.immersionEnd = some 96401 ∧ dip.immersionEnd = none) :=
  ⟨rfl, rfl, rfl, ⟨_, rfl, rfl, rfl⟩, ⟨rfl, rfl⟩, by decide, by decide, by decide, by decide⟩

/-- `ready` with the job of the worked sequence queued. -/
def queued : State := { ready with dcc := { ready.dcc with queue := [job] } }

theorem witness_JobsAreQueuedAndCancelled :
    (FrameOpen ready [13, 0, 0, 2, 0xC8, 0, 9, 3, 0x08, 0xFC, 0x09, 0xC4, 0x04, 0xE2]
        [0, 0, 2, 0xC8, 0, 9, 3, 0x08, 0xFC, 0x09, 0xC4, 0x04, 0xE2] ∧ ready.online = true)
      ∧ (FrameOpen queued [4, 0, 0, 2, 0xC8] [0, 0, 2, 0xC8] ∧ queued.online = true
        ∧ BitVec.ofNat 32 (beNat [0, 0, 2, 0xC8]) = job.id ∧ ∃ j ∈ queued.dcc.queue, j.id = job.id)
      ∧ (FrameOpen soaking [4, 0, 0, 2, 0xC8] [0, 0, 2, 0xC8] ∧ soaking.dcc.queue = []
        ∧ ∃ d, soaking.dcc.active = some d ∧ d.job.id = job.id)
      ∧ (ready.dcc.queue = [] ∧ ready.dcc.active = none)
      ∧ (FrameOpen ready [3, 0, 2, 0xC8] [0, 2, 0xC8] ∧ [(0 : Byte), 2, 0xC8].length ≠ 4)
      ∧ (FrameOpen State.reset [0] [] ∧ State.reset.online = false) :=
  ⟨⟨⟨rfl, rfl⟩, by decide⟩, ⟨⟨rfl, rfl⟩, by decide, by decide, ⟨job, List.mem_cons_self .., rfl⟩⟩,
    ⟨⟨rfl, rfl⟩, rfl, ⟨_, rfl, rfl⟩⟩, ⟨rfl, rfl⟩, ⟨⟨rfl, rfl⟩, by decide⟩, ⟨rfl, rfl⟩, by decide⟩
theorem witness_JobStartTakesTheHead :
    (queued.dcc.queue = job :: [] ∧ queued.mayStart = true ∧ queued.driveFault = false ∧ queued.hif.hookValid = true)
      ∧ (let s := { queued with hif := { queued.hif with driveFault := some true } };
        s.dcc.queue = job :: [] ∧ s.mayStart = true ∧ s.driveFault = true)
      ∧ (let s := { queued with hif := { queued.hif with hookValid := false } };
        s.dcc.queue = job :: [] ∧ s.mayStart = true ∧ s.driveFault = false ∧ s.hif.hookValid = false)
      ∧ ready.dcc.queue = [] ∧ soaking.mayStart = false
      ∧ (queued.still = false
        ∧ ({ queued with wgu := { queued.wgu with window := List.replicate 16 ⟨61250, false⟩ } } : State).still = true) := by
  decide
theorem witness_AbortDipIsAnswered :
    (FrameOpen ready [0] [] ∧ ready.online = true ∧ ready.dcc.active = none)
      ∧ (FrameOpen soaking [0] [] ∧ soaking.online = true ∧ soaking.dcc.active = some dip ∧ dip.abortPending = false
        ∧ soaking.dcc.stage = .soak)
      ∧ (withdrawing.dcc.active = some dip ∧ withdrawing.dcc.stage = .withdraw)
      ∧ (admitting.dcc.active = some dip ∧ admitting.dcc.stage = .admitting)
      ∧ (let s := inStage .approach .held 0x0700 .none;
        s.dcc.active = some dip ∧ s.dcc.stage = .approach)
      ∧ (let s := inStage .depart .held 0x0700 .none;
        s.dcc.active = some dip ∧ s.dcc.stage = .depart)
      ∧ (faulted.dcc.active.isSome = true ∧ faulted.dcc.stage = .fault)
      ∧ (let d := { dip with abortPending := true };
        d.abortPending = true ∧ soaking.dcc.stage ≠ .fault) :=
  ⟨⟨⟨rfl, rfl⟩, by decide⟩, ⟨⟨rfl, rfl⟩, by decide⟩, by decide, by decide, by decide, by decide, by decide, by decide⟩
theorem witness_AbortCutsTheDipShort :
    (FrameOpen claiming [0] [] ∧ claiming.online = true ∧ claiming.dcc.active = some dip ∧ dip.abortPending = false
        ∧ dip.flags.faulted = false ∧ claiming.dcc.stage = .claim)
      ∧ (FrameOpen draining [0] [] ∧ draining.online = true ∧ draining.dcc.active = some dip
        ∧ draining.dcc.stage = .drain) := ⟨⟨⟨rfl, rfl⟩, by decide⟩, ⟨rfl, rfl⟩, by decide⟩
theorem witness_RecoverEndsTheFaultedDip :
    (FrameOpen faulted [1, 1] [1] ∧ faulted.online = true ∧ faulted.dcc.stage = .fault ∧ faulted.dcc.active.isSome = true
        ∧ beNat [1] = 1)
      ∧ (beNat [0] = 0 ∧ faulted.hif.hookValid = true
        ∧ (faulted.settings.safeHeight : Int) ≤ loadBottom faulted.hif.hook faulted.hang)
      ∧ (let s := { faulted with hif := { faulted.hif with hook := 4299 } };
        s.dcc.stage = .fault ∧ loadBottom s.hif.hook s.hang < (s.settings.safeHeight : Int))
      ∧ (FrameOpen ready [1, 0] [0] ∧ ready.dcc.stage ≠ .fault) ∧ 1 < beNat [2] :=
  ⟨⟨⟨rfl, rfl⟩, by decide⟩, by decide, by decide, ⟨⟨rfl, rfl⟩, by decide⟩, by decide⟩

/-- A hold of the claim in effect for some time. -/
def holding (elapsed : Nat) : State :=
  { claiming with dcc := { claiming.dcc with hold := some ⟨.zone, elapsed, false⟩ } }

/-- A dip in motion at the edge of its limits. -/
def limits (count lost failures : Nat) : State :=
  { withdrawing with
    hif := { withdrawing.hif with
      motion := some ⟨count, 5000⟩, driveLost := some lost, readFailures := failures } }

theorem witness_FaultCausesActByStage :
    (let s := limits 5001 2001 2;
      s.dcc.stage.faults = true ∧ s.hif.motion = some ⟨5001, 5000⟩ ∧ s.haltAsserted = false ∧ s.driveReady = true
        ∧ s.hif.driveLost = some 2001 ∧ s.hif.driveFault = some false ∧ goodRead true 0 false = false
        ∧ s.hif.readFailures = 2)
      ∧ (let s := { faulted with hif := { faulted.hif with readFailures := 2 } };
        s.dcc.stage = .fault ∧ s.hif.driveFault = some false ∧ s.hif.readFailures = 2 ∧ goodRead true 0 true = false)
      ∧ (let s := { ready with hif := { ready.hif with readFailures := 2 } };
        s.dcc.stage = .idle ∧ s.hif.driveFault = some false ∧ s.hif.readFailures = 2)
      ∧ (let s := { ready with hif := { ready.hif with driveFault := some true } };
        s.hif.driveFault = some true) := by decide
theorem witness_EdgesAndExpiriesActWhenDue :
    ((true ≠ false) ∧ ready.hif.driveReady = some true ∧ ready.hif.driveFault = some false ∧ ready.hif.halt = some true
      ∧ ready.triggerLevel .t0 = some false ∧ ready.inputLevel .t1 ≠ none ∧ State.reset.hif.halt = none)
      ∧ (ready.hif.motion = none ∧ (limits 5000 2000 0).hif.motion = some ⟨5000, 5000⟩ ∧ ready.hif.driveLost = none
        ∧ (limits 5000 2000 0).hif.driveLost = some 2000)
      ∧ (let s := { limits 5001 0 0 with hif := { (limits 5001 0 0).hif with halt := some false, driveReady := some false } };
        s.hif.motion = some ⟨5001, 5000⟩ ∧ s.haltAsserted = true ∧ s.hif.halt = some false ∧ s.driveReady = false
          ∧ s.hif.driveReady = some false)
      ∧ (let h := { ready.hif with halt := some false }; h.halt = some false)
      ∧ (let h := { ready.hif with driveReady := some false }; h.driveReady = some false) := by decide
theorem witness_TriggerEdgesAreLatched :
    (soaking.triggerLevel .t0 = some (!true) ∧ ∀ edge, soaking.sgx.current = some (.wait .t0 edge) → edgeTakes edge true = false)
      ∧ (draining.triggerLevel .t0 = some (!true) ∧ draining.sgx.current = some (.wait .t0 .rising)
        ∧ edgeTakes .rising true = true)
      ∧ State.reset.inputLevel .halt = none :=
  ⟨⟨rfl, fun _ h => by cases h⟩, ⟨rfl, rfl, rfl⟩, rfl⟩

/-- `withdrawing` with its hook at a height; the hook target is 4,160 mm and the slow band 200 mm. -/
def hookAt (h : Nat) : State := { withdrawing with hif := { withdrawing.hif with hook := h } }

/-- A dip that waits in CLAIM has a hold whose length its end adds (R36). -/
theorem witness_holds :
    holdTimeAfter (holding 30000).dcc.hold dip = 30000 ∧ holdTimeAfter none dip = 0
      ∧ holdTimeAfter (holding 2).dcc.hold { dip with holdTime := 4294967294 } = 4294967295 := by decide

theorem witness_SpeedCommandOfALeg :
    ready.leg = none
      ∧ (withdrawing.cpt.mode = .ready ∧ withdrawing.dcc.stage.moves = true ∧ withdrawing.haltAsserted = false
        ∧ withdrawing.driveReady = true ∧ withdrawing.leg = some (4160, 100))
      ∧ (hookAt 3959).hif.hook + (hookAt 3959).settings.slowBand < 4160
      ∧ (4160 ≤ (hookAt 3960).hif.hook + (hookAt 3960).settings.slowBand ∧ (hookAt 3960).hif.hook < 4160)
      ∧ 4160 + (hookAt 4361).settings.slowBand < (hookAt 4361).hif.hook
      ∧ (4160 < (hookAt 4360).hif.hook ∧ (hookAt 4360).hif.hook ≤ 4160 + (hookAt 4360).settings.slowBand) := by decide
theorem witness_EncoderReadMovesTheFigures :
    (goodRead false 4003 true = true ∧ soaking.leg = none ∧ soaking.dcc.active = some dip ∧ dip.steel.isSome = true)
      ∧ (let s := inStage .weighExit .held 0x0700 .admitted;
        s.leg = none ∧ s.dcc.active = some dip ∧ s.adm.resv = .admitted ∧ s.dcc.stage.testsClear = true
          ∧ surfaceClear s.adm.without 4155 job.hang s.settings.exitClearance = true
          ∧ surfaceClear s.adm.without 4153 job.hang s.settings.exitClearance = false)
      ∧ goodRead false 4003 false = false ∧ soaking.hif.readFailures ≠ 2 := by decide
/-- `withdrawing` at a cursor: segment 4 of its recipe is of DRAIN, segment 5 of DEPART. -/
def withdrawingAt (cursor : Cursor) (back : Option (Option Nat)) : State :=
  { withdrawing with sgx := { withdrawing.sgx with cursor := cursor, returnIndex := back } }

theorem witness_WithdrawalArrivalIsNotWetWhenClear :
    (goodRead false 4155 true = true ∧ withdrawing.dcc.active = some dip ∧ dip.immersionEnd = none
        ∧ withdrawing.dcc.stage = .withdraw ∧ withdrawing.sgx.stage = some .withdraw
        ∧ withdrawing.sgx.current = some (.move 1860 4160 100) ∧ hookDistance 4155 4160 ≤ withdrawing.settings.arrivalBand
        ∧ withdrawing.adm.resv = .admitted
        ∧ surfaceClear withdrawing.adm.without 4155 dip.job.hang withdrawing.settings.exitClearance = true)
      ∧ ((withdrawingAt (.seg 4) none).sgx.cursor = .seg 4
        ∧ segmentAt withdrawing.settings 4 = some ⟨.drain, some 5, .keep, .keep, .waitInput .t0 .rising 20000⟩)
      ∧ ((withdrawingAt .chainEnd (some (some 5))).sgx.cursor = .chainEnd
        ∧ (withdrawingAt .chainEnd (some (some 5))).sgx.returnIndex = some (some 5)
        ∧ segmentAt withdrawing.settings 5 = some ⟨.depart, none, .clear, .keep, .move .abs 5000 500⟩)
      ∧ (let s := { withdrawing with adm := { withdrawing.adm with without := 18100 } };
        surfaceClear s.adm.without 4155 dip.job.hang s.settings.exitClearance = false) := by decide

/-- In SOAK on a leg, with the dwell of segment 2 at the cursor. -/
def soakingOn (r : Running) (repeats : Nat) : State :=
  { soaking with sgx := { soaking.sgx with current := some r, cursor := .seg 2, repeats := repeats } }

theorem witness_HookUpdateAtARunningLeg :
    goodRead false 4003 true = true
      ∧ (let s := soakingOn (.move 300 4009 100) 0;
        s.leg = some (4009, 100) ∧ s.settings.arrivalBand < hookDistance 4003 4009 ∧ s.dcc.active = some dip
          ∧ dip.steel.isSome = true)
      ∧ (ready.leg = none ∧ ready.dcc.active = none)
      ∧ (let s := { inStage .weighDry .none 0 .none with dcc := { Dcc.reset with stage := .weighDry, active := some (newDip job 0 false) } };
        s.leg = none ∧ s.dcc.active = some (newDip job 0 false) ∧ (newDip job 0 false).steel = none)
      ∧ (hookDistance 4003 3998 ≤ (soakingOn .dwell 0).settings.arrivalBand
        ∧ (soakingOn .dwell 0).settings.arrivalBand < hookDistance 4003 4009
        ∧ (soakingOn (.shake 300 3998 4009 100 2 .first) 0).sgx.current = some (.shake 300 3998 4009 100 2 .first)
        ∧ (soakingOn (.shake 300 4009 3998 100 2 .up) 2).sgx.current = some (.shake 300 4009 3998 100 2 .up)
        ∧ (soakingOn (.shake 300 3998 4009 100 2 .down) 2).sgx.current = some (.shake 300 3998 4009 100 2 .down)
        ∧ 2 ≤ (soakingOn (.shake 300 3998 4009 100 2 .down) 2).sgx.repeats)
      ∧ (let s := soakingOn (.shake 300 3998 4009 100 2 .down) 1;
        s.sgx.stage = some .soak ∧ s.sgx.cursor = .seg 2
          ∧ segmentAt s.settings 2 = some ⟨.soak, some 3, .keep, .keep, .dwell 60000⟩ ∧ 0 < 60000
          ∧ s.dcc.stage = phaseStage .soak ∧ s.zcu.yielding = false ∧ s.sgx.repeats ≤ 1)
      ∧ (soakingOn (.move 300 4008 100) 0).sgx.current = some (.move 300 4008 100) ∧ hookDistance 4003 4008 ≤ 5
      ∧ (soakingOn (.shake 300 3998 4008 100 2 .up) 2).sgx.current = some (.shake 300 3998 4008 100 2 .up) := by decide
theorem witness_SegmentAndHoldTimersExpire :
    (let s := { soaking with sgx := { soaking.sgx with dwell := some 0 } };
      s.sgx.current = some .dwell ∧ s.sgx.dwell = some 0)
      ∧ (let s := { draining with sgx := { draining.sgx with wait := some 0 } };
        s.sgx.current = some (.wait .t0 .rising) ∧ s.sgx.wait = some 0 ∧ s.dcc.active = some dip)
      ∧ (let s := { ready with sgx := { ready.sgx with m0 := ⟨true, some 0⟩, m1 := ⟨true, some 0⟩ } };
        s.sgx.m0.pulse = some 0 ∧ s.sgx.m1.pulse = some 0)
      ∧ (ready.sgx.current ≠ some .dwell ∧ ready.sgx.wait ≠ some 0 ∧ ready.sgx.m0.pulse ≠ some 0
        ∧ ready.sgx.m1.pulse ≠ some 0)
      ∧ ((holding 30001).dcc.hold = some ⟨.zone, 30001, false⟩ ∧ 1000 * (holding 30001).settings.holdLimit < 30001)
      ∧ ready.dcc.hold = none
      ∧ ((holding 30000).dcc.hold = some ⟨.zone, 30000, false⟩ ∧ 30000 ≤ 1000 * (holding 30000).settings.holdLimit) := by
  decide
/-- A recipe with a CALL in SOAK at 2, whose called chain is the dwell at 6, and a dwell of no time at 7 before the dwell at 8. -/
def callSegments : List Segment :=
  [ ⟨.approach, some 1, .keep, .keep, .dwell 5⟩, ⟨.immerse, some 2, .keep, .keep, .dwell 5⟩,
    ⟨.soak, some 7, .set, .keep, .call 6⟩, ⟨.withdraw, some 4, .clear, .set, .dwell 9⟩,
    ⟨.drain, some 5, .keep, .keep, .dwell 5⟩, ⟨.depart, none, .keep, .keep, .dwell 5⟩,
    ⟨.soak, none, .keep, .keep, .dwell 6⟩, ⟨.soak, some 8, .keep, .keep, .dwell 0⟩, ⟨.soak, some 3, .keep, .keep, .dwell 8⟩ ]

/-- A station in a stage of that recipe with its cursor at a segment. -/
def onCalls (st : Stage) (p : Phase) (cursor : Cursor) (back : Option (Option Nat)) (yielding : Bool) : State :=
  let s := inStage st .held 0x0700 .admitted
  { s with
    cfs := some { settings with segments := callSegments }
    sgx := { s.sgx with stage := some p, cursor := cursor, returnIndex := back }
    zcu := { s.zcu with yielding := yielding, conflict := yielding } }

/-- A work is no CALL. -/
def noCall (w : Work) : Bool :=
  match w with
  | .call _ => false
  | _ => true

theorem ne_call_of_noCall {w : Work} (h : noCall w = true) (k : Nat) : w ≠ .call k := by rintro rfl; cases h

/-- The segment at an index of that recipe. -/
def callSegment (i : Nat) : Segment := callSegments.getD i ⟨.soak, none, .keep, .keep, .dwell 0⟩

theorem witness_NextSegmentStartsAtOnce :
    (let s := onCalls .soak .soak (.seg 8) none false;
      s.sgx.stage = some .soak ∧ s.dcc.stage ≠ .approach ∧ segmentAt s.settings 8 = some (callSegment 8)
        ∧ noCall (callSegment 8).work = true ∧ s.sgx.cursor = .seg 8 ∧ (callSegment 8).phase = .soak
        ∧ (startSegment (callSegment 8) (dropSegment s)).sgx.current.isSome = true)
      ∧ (let s := onCalls .soak .soak (.seg 2) none false;
        segmentAt s.settings 2 = some (callSegment 2) ∧ (callSegment 2).work = .call 6 ∧ s.sgx.cursor = .seg 2
          ∧ segmentAt s.settings 6 = some (callSegment 6) ∧ (callSegment 6).phase = .soak
          ∧ noCall (callSegment 6).work = true
          ∧ (startSegment (callSegment 6) (takeCall (callSegment 2) 6 (dropSegment s))).sgx.current.isSome = true)
      ∧ (let s := onCalls .soak .soak .chainEnd (some (some 8)) false;
        s.sgx.cursor = .chainEnd ∧ s.sgx.returnIndex = some (some 8)
          ∧ (startSegment (callSegment 8)
              (dropSegment { s with sgx := { s.sgx with returnIndex := none } })).sgx.current.isSome = true)
      ∧ (let s := onCalls .soak .soak (.seg 7) none false;
        (callSegment 7).next = some 8 ∧ (startSegment (callSegment 7) (dropSegment s)).sgx.current = none
          ∧ (startSegment (callSegment 8) (startSegment (callSegment 7) (dropSegment s))).sgx.current.isSome = true)
      ∧ (let s := onCalls .soak .soak (.seg 3) none false;
        s.sgx.cursor = .seg 3 ∧ (callSegment 3).phase = .withdraw ∧ noCall (callSegment 3).work = true
          ∧ (startSegment (callSegment 3) (handStage .withdraw (dropSegment s))).sgx.current.isSome = true)
      ∧ (let s := onCalls .immerse .immerse (.seg 8) none false;
        s.sgx.cursor = .seg 8 ∧ (callSegment 8).phase = .soak
          ∧ (startSegment (callSegment 8) (handStage .soak (dropSegment s))).sgx.current.isSome = true)
      ∧ (let s := onCalls .soak .soak (.seg 8) none false;
        s.sgx.cursor = .seg ([8, 3].getD 0 0)
          ∧ (∀ m < 1, ∃ passed ∈ callSegments, segmentAt s.settings ([8, 3].getD m 0) = some passed
            ∧ phaseOrder passed.phase < phaseOrder .withdraw ∧ passed.next = some ([8, 3].getD (m + 1) 0))
          ∧ (startSegment (callSegment 3) (handStage .withdraw s)).sgx.current.isSome = true)
      ∧ (let s := onCalls .approach .approach (.seg 3) none false;
        (∀ m < 2, ∃ passed ∈ callSegments, segmentAt s.settings ([3, 4, 5].getD m 0) = some passed
            ∧ phaseOrder passed.phase < phaseOrder .depart ∧ passed.next = some ([3, 4, 5].getD (m + 1) 0))
          ∧ (startSegment (callSegment 5) (handStage .depart s)).sgx.current.isSome = true)
      ∧ (let s := onCalls .approach .approach (.seg 0) none true;
        s.dcc.stage = .approach ∧ s.zcu.yielding = true ∧ s.sgx.cursor = .seg 0 ∧ (callSegment 0).phase = .approach
          ∧ segmentAt s.settings 0 = some (callSegment 0)) := by decide +kernel

/-- An abort in SOAK within the called chain 6: 6 ends it, 7 and 8 are SOAK and passed over, 3 is WITHDRAW. -/
theorem witness_NextSegmentStartsAtOnce_called :
    (let s := onCalls .soak .soak (.seg 6) (some (some 7)) false;
      s.sgx.cursor = .seg 6 ∧ s.sgx.returnIndex = some (some 7)
        ∧ (∃ last ∈ callSegments, segmentAt s.settings 6 = some last ∧ phaseOrder last.phase < phaseOrder .withdraw
          ∧ last.next = none)
        ∧ (∀ m < 2, ∃ passed ∈ callSegments, segmentAt s.settings ([7, 8, 3].getD m 0) = some passed
          ∧ phaseOrder passed.phase < phaseOrder .withdraw ∧ passed.next = some ([7, 8, 3].getD (m + 1) 0))
        ∧ segmentAt s.settings 3 = some (callSegment 3) ∧ (callSegment 3).phase = .withdraw
        ∧ noCall (callSegment 3).work = true
        ∧ (startSegment (callSegment 3)
            (handStage .withdraw { s with sgx := { s.sgx with returnIndex := none } })).sgx.current.isSome = true)
      ∧ (onCalls .soak .soak .chainEnd (some (some 3)) false).sgx.cursor = .chainEnd := by decide +kernel
theorem test_abort_in_a_called_chain :
    after (exec (.abortDip [0]) (onCalls .soak .soak (.seg 6) (some (some 7)) false))
      (fun t => decide (t.dcc.stage = .withdraw ∧ t.sgx.cursor = .seg 4 ∧ t.sgx.returnIndex = none
        ∧ t.sgx.current = some .dwell ∧ t.sgx.m0.pulse = none)) = true := by decide +kernel

/-- In DEPART with nothing running, the hook at a height; the hang is 2,300 mm and the bounds are 500 mm and 9,000 mm. -/
def standingAt (hook : Nat) : State :=
  let s := inStage .depart .held 0x0700 .none
  { s with hif := { s.hif with hook := hook } }

theorem witness_SegmentsStartByTheirKind :
    ((-1801 : Int) + 2300 < settings.travelLow ∧ (settings.travelLow : Int) ≤ -1800 + 2300
        ∧ (6700 : Int) + 2300 ≤ settings.travelHigh ∧ (settings.travelHigh : Int) < 6701 + 2300)
      ∧ ((standingAt 4305).sgx.current = none ∧ (standingAt 4305).hif.motion = none ∧ (standingAt 4305).hif.driveLost = none
        ∧ (standingAt 4305).dcc.active = some dip)
      ∧ ((standingAt 4305).freeze .abs 2000 = 2000 ∧ (clampHook settings 2000 dip.job.hang).1 = 4300
        ∧ hookDistance (standingAt 4305).hif.hook 4300 ≤ (standingAt 4305).settings.arrivalBand
        ∧ (standingAt 4306).settings.arrivalBand < hookDistance (standingAt 4306).hif.hook 4300)
      ∧ ((clampHook settings (2000 + 11) dip.job.hang).1 = 4311
        ∧ (standingAt 4305).settings.arrivalBand < hookDistance (standingAt 4305).hif.hook 4311
        ∧ (clampHook settings (2000 + 10) dip.job.hang).1 = 4310
        ∧ hookDistance (standingAt 4305).hif.hook 4310 ≤ (standingAt 4305).settings.arrivalBand) := by decide
theorem witness_StillnessAndAverage :
    (∀ x ∈ ready.wgu.window, x.gross ≤ maxWeight)
      ∧ (let list : List Sample := [⟨200000, false⟩];
        list ≠ [] ∧ (∀ x ∈ list, x.overrange = false) ∧ ∀ x ∈ list, x.gross ≤ 200000)
      ∧ (let list : List Sample := [⟨5, true⟩];
        list ≠ [] ∧ ∃ x ∈ list, x.overrange = true) := by decide

theorem witness_RawSamplesAreRetained :
    State.reset.online = false
      ∧ (let s := { ready with cfs := some { settings with divider := 100 }, wgu := { Wgu.reset with divider := 98 } };
        s.online = true ∧ s.wgu.divider + 1 < s.settings.divider)
      ∧ (ready.online = true ∧ ready.settings.divider ≤ ready.wgu.divider + 1 ∧ ready.wgu.op = none)
      ∧ ((weighing ⟨.settling, 0, []⟩).wgu.op = some ⟨.settling, 0, []⟩
        ∧ ({ weighing ⟨.settling, 0, []⟩ with
            wgu := { Wgu.reset with window := List.replicate 16 ⟨61250, false⟩ } } : State).still = true
        ∧ ({ weighing ⟨.settling, 0, []⟩ with
            wgu := { Wgu.reset with window := List.replicate 15 ⟨61250, false⟩ } } : State).still = false)
      ∧ ((weighing ⟨.averaging, 0, List.replicate 30 ⟨0, false⟩⟩).wgu.op
          = some ⟨.averaging, 0, List.replicate 30 ⟨0, false⟩⟩
        ∧ (List.replicate 30 (⟨0, false⟩ : Sample)).length < 31) := by decide +kernel
/-- A station with a full AVERAGING but for one sample, in a stage with its cursor at segment 4 (DRAIN) or 5 (DEPART). -/
def averaging (st : Stage) (claim : ClaimState) (cursor : Cursor) : State :=
  let s := inStage st claim 0 .none
  { s with
    wgu := { Wgu.reset with op := some ⟨.averaging, 2080, List.replicate 31 ⟨61250, false⟩⟩ }
    sgx := { s.sgx with cursor := cursor } }

/-- The sample 212,704 makes it 32 (05). -/
theorem averaging_delivers (st : Stage) (claim : ClaimState) (cursor : Cursor) :
    DeliversWeight (averaging st claim cursor) (.rawSample 212704)
      (List.replicate 31 ⟨61250, false⟩ ++ [weighSample settings.weighZero settings.weighGain 212704]) false :=
  .inl ⟨212704, List.replicate 31 ⟨61250, false⟩, rfl, rfl, Nat.le_refl 1, ⟨2080, rfl⟩, rfl, rfl, rfl⟩

theorem witness_WeightsAreDelivered :
    ((averaging .weighDry .none .none).dcc.stage = .weighDry ∧ (averaging .weighDry .none .none).dcc.active = some dip
        ∧ (averaging .weighDry .none .none).zcu.claim = .none ∧ (averaging .weighDry .none .none).claimBlocked = none)
      ∧ (let s := { averaging .weighDry .none .none with kli := { Kli.reset with lineLost := .unsent } };
        s.claimBlocked = some .line)
      ∧ (let s := weighing ⟨.settling, 5000, [⟨61250, false⟩]⟩;
        DeliversWeight s .settleTimeout [⟨61250, false⟩] true ∧ s.dcc.stage = .weighDry ∧ s.zcu.claim = .none)
      ∧ ((averaging .weighExit .held (.seg 4)).dcc.stage = .weighExit ∧ dip.abortPending = false
        ∧ (averaging .weighExit .held (.seg 5)).sgx.cursor = .seg 5
        ∧ segmentAt settings 5 = some ⟨.depart, none, .clear, .keep, .move .abs 5000 500⟩
        ∧ (onCalls .weighExit .withdraw (.seg 4) none false).sgx.cursor = .seg 4 ∧ (callSegment 4).phase = .drain
        ∧ (callSegment 4).work = .dwell 5)
      ∧ ((averaging .weighDrained .held (.seg 5)).dcc.stage = .weighDrained
        ∧ (averaging .weighDrained .held .chainEnd).sgx.cursor = .chainEnd
        ∧ (averaging .weighDrained .held .chainEnd).sgx.returnIndex = none ∧ (callSegment 5).phase = .depart
        ∧ (callSegment 5).work = .dwell 5)
      ∧ (let s := weighing ⟨.settling, 4999, []⟩;
        s.wgu.op = some ⟨.settling, 4999, []⟩ ∧ 4999 < s.settings.settleTime) :=
  ⟨by decide +kernel, by decide +kernel,
    ⟨.inr ⟨5000, rfl, rfl, by decide, by decide, rfl⟩, by decide⟩, by decide, by decide, by decide⟩

/-- An own LEAVE on the line, after some failures. -/
def leaving (failures : Nat) : State :=
  { ready with kli := { ready.kli with attempt := some ⟨.leave, .driving, true⟩, failures := failures } }

theorem witness_AttemptsBeginAndAreJudged :
    (let s := { ready with kli := { ready.kli with leaveRequest := true } };
      s.online = true ∧ s.kli.hunting = false ∧ s.kli.attempt = none ∧ s.kli.leaveRequest = true)
      ∧ (let s := { ready with kli := { ready.kli with stateRequest := some 0 } };
        s.online = true ∧ s.kli.hunting = false ∧ s.kli.attempt = none ∧ s.kli.leaveRequest = false
          ∧ s.kli.stateRequest.isSome = true)
      ∧ (ready.kli.leaveRequest = false ∧ ready.kli.stateRequest = none)
      ∧ ((leaving 15).kli.attempt = some ⟨.leave, .driving, true⟩
        ∧ noticeBytes (leaving 15).own .leave = [0x26, 0x00, 0xB1, 0x4F])
      ∧ (sentDominant [0x26, 0x00, 0xB1, 0x4F] 34 = true ∧ 45 ≤ 34 + 11 ∧ 34 + 11 < 46
        ∧ sentDominant [0x26, 0x00, 0xB1, 0x4F] 3 = !true ∧ sentDominant [0x26, 0x00, 0xB1, 0x4F] 8 = !false
        ∧ sentDominant [0x26, 0x00, 0xB1, 0x4F] 45 = !true ∧ sentDominant [0x26, 0x00, 0xB1, 0x4F] 44 = false)
      ∧ (∀ n, 34 < n → sentDominant [0x26, 0x00, 0xB1, 0x4F] n = false)
      ∧ (leaving 14).kli.failures + 1 < 16 ∧ (16 ≤ (leaving 15).kli.failures + 1 ∧ (leaving 15).lineLost = false) :=
  ⟨by decide, by decide, by decide, ⟨rfl, by decide +kernel⟩, by decide, fun n h => by
    by_cases h40 : 40 ≤ n
    · have : [(0x26 : Byte), 0x00, 0xB1, 0x4F][n / 10]? = none := List.getElem?_eq_none (by simp; omega)
      simp only [sentDominant, this]
    · have hn : ∀ k < 40, 34 < k → sentDominant [0x26, 0x00, 0xB1, 0x4F] k = false := by decide
      exact hn n (by omega) h, by decide⟩
theorem witness_NoticesThatAreNotHandedOn :
    State.reset.kli.hunting = true
      ∧ (let s := { State.reset with kli := { Kli.reset with hunting := false } };
        s.kli.hunting = false ∧ s.kli.attempt = none ∧ s.online = false)
      ∧ (ready.kli.hunting = false ∧ ready.kli.attempt = none ∧ ready.online = true ∧ checkNotice [] false = none)
      ∧ (ready.own = 6 ∧ checkNotice [0x26, 0x00, 0xB1, 0x4F] false = some ⟨6, .leave⟩)
      ∧ (claiming.kli.hunting = false ∧ claiming.lineLost = false ∧ claiming.zcu.claim = .pending (some 0))
      ∧ (admitting.adm.resv = .pending (some 0) ∧ admitting.zcu.claim = .held ∧ admitting.dcc.active = some dip)
      ∧ soaking.adm.resv = .admitted := by decide +kernel
theorem witness_OwnAttemptsEndWithTheirNotice :
    ((leaving 15).kli.hunting = false ∧ (leaving 15).kli.attempt = some ⟨.leave, .driving, true⟩
        ∧ (leaving 15).cpt.restartPending = false)
      ∧ (let s := { leaving 15 with cpt := { (leaving 15).cpt with restartPending := true, restartTimer := some 1 } };
        s.cpt.restartPending = true ∧ s.dcc.stage = .idle ∧ s.zcu.claim = .none ∧ s.adm.resv = .none)
      ∧ (let s := { ready with kli := { ready.kli with attempt := some ⟨.leave, .driving, false⟩ } };
        s.kli.hunting = false ∧ s.kli.attempt = some ⟨.leave, .driving, false⟩)
      ∧ (let s := { ready with kli := { ready.kli with attempt := some ⟨.leave, .lost, true⟩ } };
        s.kli.attempt = some ⟨.leave, .lost, true⟩ ∧ AttemptStatus.lost ≠ .driving)
      ∧ (noticeBytes (leaving 15).own .leave = 0x26 :: [0x00, 0xB1, 0x4F] ∧ (0x25 : Byte).toNat < (0x26 : Byte).toNat
        ∧ [(0x46 : Byte), 0x00] ≠ 0x26 :: [0x00, 0xB1, 0x4F] ∧ (0x26 : Byte).toNat ≤ (0x46 : Byte).toNat)
      ∧ ((leaving 14).kli.failures + 1 < 16 ∧ 16 ≤ (leaving 15).kli.failures + 1 ∧ (leaving 15).lineLost = false
        ∧ (leaving 15).online = true ∧ checkNotice [0x46, 0x00] false = none) :=
  ⟨by decide, by decide, by decide, by decide, ⟨by decide +kernel, by decide⟩, by decide⟩

/-- The STATE notice of station 3, received as it was sent. -/
theorem station3_received : checkNotice (noticeBytes 2 (.state station3)) false = some ⟨2, .state station3⟩ := by
  decide +kernel

theorem witness_PeerNoticesAreStored :
    (SgxWf ready ∧ ready.kli.hunting = false ∧ ready.kli.attempt = none ∧ ready.online = true ∧ (2 : StationIx) ≠ ready.own)
      ∧ checkNotice (noticeBytes 2 (.state station3)) false = some ⟨2, .state station3⟩
      ∧ (ready.peers.get 2).presence = .absent ∧ ((withPeer .stale ready).peers.get 2).presence ≠ .absent
      ∧ checkNotice (noticeBytes 2 .leave) false = some ⟨2, .leave⟩ :=
  ⟨⟨sgxWf_of_none _ rfl rfl, by decide⟩, station3_received, by decide, by decide, by decide +kernel⟩
theorem witness_PeerStateMovesTheInventory :
    (SgxWf ready ∧ ready.kli.hunting = false ∧ ready.kli.attempt = none ∧ ready.online = true
        ∧ (2 : StationIx) ≠ ready.own ∧ ready.dcc.active = none ∧ ready.zcu.claim = .none ∧ ready.adm.resv = .none
        ∧ pairGreater station3.epoch station3.origin ready.inv.epoch ready.inv.origin = true ∧ 1 ≤ station3.origin
        ∧ station3.origin ≤ 16)
      ∧ checkNotice (noticeBytes 2 (.state station3)) false = some ⟨2, .state station3⟩
      ∧ (let s := { ready with inv := { ready.inv with epoch := 1 } };
        pairGreater station3.epoch station3.origin s.inv.epoch s.inv.origin = false)
      ∧ ((0x80000000#32 - 1#32).toNat ≤ 2147483647 ∧ 2147483648 ≤ (0x80000000#32 - 0#32).toNat)
      ∧ (SgxWf soaking ∧ soaking.kli.hunting = false ∧ soaking.kli.attempt = none ∧ soaking.online = true
        ∧ (2 : StationIx) ≠ soaking.own ∧ soaking.dcc.active = some dip) :=
  ⟨⟨sgxWf_of_none _ rfl rfl, by decide⟩, station3_received, by decide, by decide,
    ⟨⟨fun p hp => by cases hp; exact .inl rfl, fun _ => ⟨.soak, rfl, rfl⟩⟩, by decide⟩⟩
theorem witness_OwnStateNoticeSucceeds :
    (let s := { claiming with kli := { ready.kli with attempt := some ⟨.state station3, .driving, true⟩ } };
      s.kli.hunting = false ∧ s.kli.attempt = some { sending := .state station3, status := .driving, reported := true }
        ∧ s.kli.lineLost = .none)
      ∧ (let s := inStage .claim (.pending none) 0x0700 .none;
        s.lineLost = false ∧ s.zcu.claim = .pending none ∧ s.announce.claim = .pending ∧ s.announce.mask = s.zcu.mask)
      ∧ (let s := inStage .admitting .held 0x0700 (.pending none);
        s.lineLost = false ∧ s.adm.resv = .pending none ∧ s.announce.resv = .pending ∧ s.announce.reserved = s.adm.full)
      ∧ (let s := { ready with kli := { ready.kli with lineLost := .failures } };
        s.kli.lineLost = .failures)
      ∧ (let s := { ready with kli := { ready.kli with lineLost := .duplicate } };
        s.kli.lineLost = .duplicate)
      ∧ (let s := { claiming with kli := { ready.kli with attempt := some ⟨.state station3, .driving, false⟩ } };
        s.kli.hunting = false ∧ s.kli.attempt = some { sending := .state station3, status := .driving, reported := false }
          ∧ s.zcu.claim = .pending (some 0) ∧ admitting.adm.resv = .pending (some 0) ∧ s.kli.lineLost = .none) := by decide
theorem witness_LineTimersExpire :
    (let s := { ready with sck := 1000, kli := { ready.kli with heartbeat := some 200, stateRequest := some 0 } };
      s.online = true ∧ s.kli.heartbeat = some 200 ∧ s.kli.stateRequest = some 0 ∧ 1000 ≤ (s.sck - 0).toNat
        ∧ s.lineLost = false)
      ∧ (let s := { ready with sck := 999, kli := { ready.kli with heartbeat := some 199, stateRequest := some 0, lineLost := .unsent } };
        s.online = true ∧ s.kli.heartbeat = some 199 ∧ (s.sck - 0).toNat < 1000 ∧ s.lineLost = true) := by decide
theorem witness_EntriesAgeAndAreForgotten :
    (let s := { withPeer .present ready with sck := 1000 };
      s.online = true ∧ (2 : StationIx) ≠ s.own ∧ (s.peers.get 2).presence = .present
        ∧ 1000 ≤ (s.sck - (s.peers.get 2).time).toNat)
      ∧ SgxWf (withPeer .present ready)
      ∧ (let s := { withPeer .present ready with sck := 999 };
        (s.sck - (s.peers.get 2).time).toNat < 1000)
      ∧ (FrameOpen (withPeer .stale ready) [1, 3] [3] ∧ (withPeer .stale ready).online = true
        ∧ beNat [3] = (2 : StationIx).val + 1 ∧ ((withPeer .stale ready).peers.get 2).presence = .stale)
      ∧ (FrameOpen ready [1, 16] [16] ∧ beNat [16] = (15 : StationIx).val + 1 ∧ (ready.peers.get 15).presence = .absent)
      ∧ (16 < beNat [17] ∧ beNat [0] = 0) :=
  ⟨by decide, sgxWf_of_none _ rfl rfl, by decide, ⟨⟨rfl, rfl⟩, by decide⟩, ⟨⟨rfl, rfl⟩, by decide⟩, by decide⟩
theorem witness_ClaimWindowExpiryHolds :
    (let s := { claiming with sck := 400 };
      s.zcu.claim = .pending (some 0) ∧ 400 ≤ (s.sck - 0).toNat ∧ s.dcc.stage = .claim)
      ∧ (let s := { inStage .fault (.pending (some 0)) 0x0700 .none with sck := 400 };
        s.zcu.claim = .pending (some 0) ∧ s.dcc.stage = .fault)
      ∧ (let s := { claiming with sck := 399 };
        s.zcu.claim = .pending (some 0) ∧ (s.sck - 0).toNat < 400)
      ∧ ∀ start, ready.zcu.claim ≠ .pending (some start) :=
  ⟨by decide, by decide, by decide, fun _ h => by cases h⟩
theorem witness_AdmissionWindowExpiryAdmits :
    (let s := { admitting with sck := 400 };
      s.adm.resv = .pending (some 0) ∧ 400 ≤ (s.sck - 0).toNat ∧ s.dcc.stage = .admitting ∧ s.committedFits = true)
      ∧ (let s := { admitting with sck := 400, inv := { admitting.inv with level := 18546 } };
        s.committedFits = false)
      ∧ (let s := { inStage .fault .held 0x0700 (.pending (some 0)) with sck := 400 };
        s.adm.resv = .pending (some 0) ∧ s.dcc.stage = .fault)
      ∧ (let s := { admitting with sck := 399 };
        s.adm.resv = .pending (some 0) ∧ (s.sck - 0).toNat < 400)
      ∧ ∀ start, ready.adm.resv ≠ .pending (some start) :=
  ⟨by decide, by decide, by decide, by decide, fun _ h => by cases h⟩
theorem witness_BlockingAndAdmissionTests :
    (ready.kli.lineLost = .none ∧ ({ ready with kli := { ready.kli with lineLost := .unsent } } : State).kli.lineLost ≠ .none)
      ∧ ({ admitting with inv := { admitting.inv with level := 18545 } } : State).admissionSum = 19000 := by decide

/-! ### Table changes -/

/-- With nothing in hand at the Segment Executor, the conditions of the dip cycle are decidable. -/
theorem cycleWf_of (s : State) (h1 : s.sgx.stage = none) (h2 : s.sgx.current = none) (hz : ZcuWf s) (hs : StageWf s)
    (ha : ActiveWf s) (hr : s.dcc.stage ≠ .release) : CycleWf s := ⟨hz, hs, sgxWf_of_none s h1 h2, ha, hr⟩

/-- Station 3's STATE, first heard: the state after it, in either order of the blocks (log 5). -/
def heard (admFirst : Bool) (a : Announced) (s : State) : State :=
  tableChangeWith admFirst (some 2) (invPeerState true a Announced.zero (s.setPeer 2 ⟨.present, a, s.sck, true⟩))

/-- In CLAIM with a claim on zones 1 and 2, those of station 3. -/
def claimOn (c : ClaimState) (mask : Mask) : State := inStage .claim c mask .none

/-- In a stage with zones 1 and 2 HELD, the gate closed while the yield is in effect. -/
def heldOn (st : Stage) (resv : ResvState) (yielding : Bool) : State :=
  let s := withPeer .present (inStage st .held 0x0003 resv)
  { s with
    zcu := { s.zcu with conflict := yielding, yielding := yielding }, adm := { s.adm with gateClosed := yielding } }

theorem cycle_ready : CycleWf ready := cycleWf_of _ rfl rfl (by unfold ZcuWf; decide) (by unfold StageWf; decide)
  (by unfold ActiveWf; decide) (by decide)
theorem cycle_waiting : CycleWf (claimOn (.waiting .zone) 0) := cycleWf_of _ rfl rfl (by unfold ZcuWf; decide)
  (by unfold StageWf; decide) (by unfold ActiveWf; decide) (by decide)
theorem cycle_pending : CycleWf (claimOn (.pending (some 0)) 0x0003) := cycleWf_of _ rfl rfl (by unfold ZcuWf; decide)
  (by unfold StageWf; decide) (by unfold ActiveWf; decide) (by decide)
theorem cycle_yielding : CycleWf (heldOn .approach .none true) := cycleWf_of _ rfl rfl (by unfold ZcuWf; decide)
  (by unfold StageWf; decide) (by unfold ActiveWf; decide) (by decide)
theorem cycle_clear : CycleWf (heldOn .approach .none false) := cycleWf_of _ rfl rfl (by unfold ZcuWf; decide)
  (by unfold StageWf; decide) (by unfold ActiveWf; decide) (by decide)
theorem cycle_asking : CycleWf (heldOn .admitting (.pending (some 0)) false) := cycleWf_of _ rfl rfl
  (by unfold ZcuWf; decide) (by unfold StageWf; decide) (by unfold ActiveWf; decide) (by decide)
theorem cycle_resv_waiting : CycleWf (heldOn .admitting (.waiting .conflict) true) := cycleWf_of _ rfl rfl
  (by unfold ZcuWf; decide) (by unfold StageWf; decide) (by unfold ActiveWf; decide) (by decide)
theorem cycle_fault : CycleWf (heldOn .fault (.waiting .level) false) := cycleWf_of _ rfl rfl
  (by unfold ZcuWf; decide) (by unfold StageWf; decide) (by unfold ActiveWf; decide) (by decide)
theorem cycle_admitted : CycleWf (heldOn .immerse .admitted false) := cycleWf_of _ rfl rfl
  (by unfold ZcuWf; decide) (by unfold StageWf; decide) (by unfold ActiveWf; decide) (by decide)

/-- The STATE notice of station 3 is a table arrival at a station in READY that is free to hear it. -/
theorem table_arrival (s : State) (h1 : s.online = true) (h2 : (2 : StationIx) ≠ s.own) (h3 : s.kli.hunting = false)
    (h4 : s.kli.attempt = none) : TableArrival s (.noticeEnd (noticeBytes 2 (.state station3)) false) (some 2) :=
  ⟨h1, 2, h2, .inl ⟨_, station3, rfl, h3, h4, station3_received, rfl⟩⟩

/-- What station 3 announces, with another claim on the same zones. -/
def showing (c : ClaimStatus) : Announced := { station3 with claim := c }

theorem witness_TableArrival :
    TableArrival (withPeer .present ready) (.noticeEnd (noticeBytes 2 .leave) false) none
      ∧ TableArrival { withPeer .present ready with sck := 1000 } (.peerAgeing 2) none
      ∧ TableArrival (withPeer .stale ready) (.forgetPeer [1, 3]) none :=
  ⟨⟨rfl, 2, by decide, .inr (.inl ⟨_, rfl, rfl, rfl, by decide +kernel, by decide, rfl⟩)⟩,
    ⟨rfl, 2, by decide, .inr (.inr (.inl ⟨rfl, by decide, by decide, rfl⟩))⟩,
    ⟨rfl, 2, by decide, .inr (.inr (.inr ⟨[1, 3], [3], rfl, ⟨rfl, rfl⟩, rfl, by decide, by decide, rfl⟩))⟩⟩

theorem witness_TableChangesMoveTheClaim :
    (CycleWf ready ∧ TableArrival ready (.noticeEnd (noticeBytes 2 (.state station3)) false) (some 2)
        ∧ ready.zcu.claim = .none)
      ∧ (CycleWf (claimOn (.waiting .zone) 0)
        ∧ TableArrival (claimOn (.waiting .zone) 0) (.noticeEnd (noticeBytes 2 (.state station3)) false) (some 2))
      ∧ (CycleWf (claimOn (.pending (some 0)) 0x0003) ∧ (2 : StationIx) < (claimOn (.pending (some 0)) 0x0003).own)
      ∧ CycleWf (heldOn .approach .none true) ∧ CycleWf (heldOn .approach .none false) ∧ CycleWf (heldOn .immerse .admitted false) :=
  ⟨⟨cycle_ready, table_arrival _ rfl (by decide) rfl rfl, rfl⟩, ⟨cycle_waiting, table_arrival _ rfl (by decide) rfl rfl⟩,
    ⟨cycle_pending, by decide⟩, cycle_yielding, cycle_clear, cycle_admitted⟩

/-- The states after, in either order of the blocks, on both sides of the clauses on a claim. -/
theorem witness_claims_after (b : Bool) :
    decide ((heard b station3 { claimOn (.waiting .zone) 0 with dcc := { Dcc.reset with stage := .claim, active := some { dip with job := { job with firstZone := 1 } } } }).claimBlocked = some .zone
      ∧ (heard b (showing .none) (claimOn (.waiting .zone) 0)).claimBlocked = none
      ∧ (heard b station3 (claimOn (.pending (some 0)) 0x0003)).zcu.claim = .waiting .zone
      ∧ (heard b (showing .pending) (claimOn (.pending (some 0)) 0x0003)).zcu.claim = .waiting .zone
      ∧ (heard b (showing .none) (claimOn (.pending (some 0)) 0x0003)).zcu.claim = .pending (some 0)
      ∧ (heard b station3 (claimOn (.pending (some 0)) 0x0700)).zcu.claim = .pending (some 0)
      ∧ (heard b station3 (heldOn .approach .none false)).zcu.yielding = true
      ∧ (heard b (showing .none) (heldOn .approach .none true)).zcu.conflict = false
      ∧ (heard b (showing .pending) (heldOn .approach .none true)).zcu.yielding = false) = true := by
  cases b <;> decide +kernel

theorem witness_holds_of_a_wait :
    (let s := { claimOn (.waiting .zone) 0 with dcc := { (claimOn (.waiting .zone) 0).dcc with hold := some ⟨.zone, 5, false⟩ } };
      s.zcu.claim = .waiting .zone ∧ s.dcc.stage = .claim ∧ s.dcc.hold = some ⟨.zone, 5, false⟩ ∧ s.dcc.active = some dip)
      ∧ (let s := heldOn .admitting (.waiting .conflict) true;
        let t := { s with dcc := { s.dcc with hold := some ⟨.conflict, 5, false⟩ } };
        t.dcc.hold = some ⟨.conflict, 5, false⟩ ∧ t.dcc.active = some dip) := by decide

theorem witness_TableChangesMoveTheReservation :
    (CycleWf (heldOn .approach .none true) ∧ (heldOn .approach .none true).adm.resv = .none
        ∧ TableArrival (heldOn .approach .none true) (.noticeEnd (noticeBytes 2 (.state station3)) false) (some 2))
      ∧ CycleWf (heldOn .admitting (.waiting .conflict) true) ∧ CycleWf (heldOn .admitting (.pending (some 0)) false)
      ∧ CycleWf (heldOn .fault (.waiting .level) false) ∧ CycleWf (heldOn .immerse .admitted false) :=
  ⟨⟨cycle_yielding, rfl, table_arrival _ rfl (by decide) rfl rfl⟩, cycle_resv_waiting, cycle_asking, cycle_fault,
    cycle_admitted⟩

/-- The states after, in either order of the blocks, on both sides of the clauses on a reservation: 18,038 + 455 leaves 507 of
the 19,000. -/
theorem witness_reservations_after (b : Bool) :
    decide ((heard b (showing .none) (heldOn .admitting (.waiting .conflict) true)).admissionTest = none
      ∧ (heard b { showing .none with reserved := 508 } (heldOn .admitting (.waiting .conflict) true)).admissionTest = some .level
      ∧ (heard b { showing .none with reserved := 507 } (heldOn .admitting (.pending (some 0)) false)).committedFits = true
      ∧ (heard b { showing .none with reserved := 508 } (heldOn .admitting (.pending (some 0)) false)).committedFits = false
      ∧ (heard b station3 (heldOn .admitting (.pending (some 0)) false)).zcu.yielding = true
      ∧ (heard b { station3 with reserved := 508 } (heldOn .fault (.pending none) false)).committedFits = false
      ∧ (let s := heldOn .approach .none true;
        (heard b (showing .none) { s with
            sgx := { s.sgx with stage := some .approach, cursor := .seg 1 }
            dcc := { s.dcc with hold := some ⟨.conflict, 0, false⟩ } }).dcc.stage = .admitting)) = true := by
  cases b <;> decide +kernel

/-! ### The invariants hold of a state with a dip in the zinc, which steps -/

/-- `soaking` with its pins as its blocks make them and a tick waiting. -/
def waiting : State := { drivePins soaking with pending := [.stationClockTick] }

theorem waiting_steps : ∃ t, step waiting = .next t := ⟨_, rfl⟩
theorem witness_StepKeepsThePins : PinsFollow waiting ∧ ∃ t, step waiting = .next t :=
  ⟨by unfold PinsFollow; decide +kernel, waiting_steps⟩
theorem witness_StepKeepsTheInventory : InventoryWf waiting ∧ ∃ t, step waiting = .next t :=
  ⟨by unfold InventoryWf; decide +kernel, waiting_steps⟩
theorem witness_StepKeepsTheLogAndTheQueue : LogWf waiting ∧ QueueWf waiting ∧ ∃ t, step waiting = .next t :=
  ⟨by unfold LogWf; decide +kernel, by unfold QueueWf; decide +kernel, waiting_steps⟩
theorem witness_StepKeepsTheSurface : SurfaceWf waiting ∧ ∃ t, step waiting = .next t :=
  ⟨by unfold SurfaceWf; decide +kernel, waiting_steps⟩
theorem witness_StepKeepsTheCycle : CycleWf waiting ∧ ∃ t, step waiting = .next t :=
  ⟨⟨by unfold ZcuWf; decide +kernel, by unfold StageWf; decide +kernel,
    ⟨fun p hp => by cases hp; exact .inl rfl, fun _ => ⟨.soak, rfl, rfl⟩⟩, by unfold ActiveWf; decide +kernel,
    by decide +kernel⟩, waiting_steps⟩
theorem witness_StepKeepsTheSamplesAndTheConfiguration : WeighWf waiting ∧ ConfigWf waiting ∧ ∃ t, step waiting = .next t :=
  ⟨⟨by decide +kernel, by decide +kernel, fun op h => by cases h⟩,
    fun c h => by cases h; unfold SettingsOk; decide +kernel, waiting_steps⟩

end Sys2Proof.Tests
end

section
/-! PROOF. STATION_CLOCK_TICK, whole (O53). -/

namespace Sys2Proof.Machine

/-- The motion limit count moves only where halt is negated and drive-ready asserted (R80). -/
theorem motionTimer_tick_eq (halted ready : Bool) (m : MotionTimer) :
    m.tick (!halted && ready) = { m with count := if halted = false ∧ ready = true then m.count + 1 else m.count } := by
  cases halted <;> cases ready <;> rfl

/-- The Hoist Interface at a millisecond, with the condition of its motion limit count written out (R76, R80, R82). -/
theorem hif_tick_eq (halted ready : Bool) (h : Hif) :
    h.tick (!halted && ready)
      = { h with
          motion := h.motion.map fun m =>
            { m with count := if halted = false ∧ ready = true then m.count + 1 else m.count }
          driveLost := h.driveLost.map fun n => n + 1
          speedWord := BitVec.ofInt 16 h.speed } := by
  simp only [Hif.tick, motionTimer_tick_eq]

/-- Settles O53: the arrival settles `tickAll`, the `tick` of each block; the Hoist Interface's is the one that hangs on a
condition, and the others are the statement's own maps. -/
theorem tickMovesTheTimers : Obligations.TickMovesTheTimers := by
  intro s
  show settle (tickAll s) = _
  rw [settle_eq_drivePins, tickAll, hif_tick_eq]
  rfl

end Sys2Proof.Machine
end

section
/-! SUPPORT. The registers that O18 names, as one record of the state: what each shared operation leaves of them, and what it
posts to the drawn counter. -/

namespace Sys2Proof.Machine

/-! ### The named registers -/

/-- The registers of O18 but the drawn counter, which moves with the log. -/
structure Named where
  sck          : Word
  cfs          : Option Settings
  added        : Word
  removed      : Word
  enables      : EventSet
  captured     : Response
  response     : Response
  load         : Load
  mode         : Mode
  hook         : Nat
  hookValid    : Bool
  readFailures : Nat
  driveReady   : Option Bool
  driveFault   : Option Bool
  halt         : Option Bool
  t0           : Option Bool
  t1           : Option Bool
  attempt      : Option Attempt
  failures     : Nat
  discards     : Nat
  hunting      : Bool
  peers        : Vector PeerEntry 16
  window       : List Sample
  queue        : List Job
  pending      : List Instr

/-- The named registers of a state. -/
def State.named (s : State) : Named :=
  { sck := s.sck, cfs := s.cfs, added := s.inv.added, removed := s.inv.removed, enables := s.cpt.enables
    captured := s.cpt.captured, response := s.cpt.response, load := s.cpt.load, mode := s.cpt.mode
    hook := s.hif.hook, hookValid := s.hif.hookValid, readFailures := s.hif.readFailures
    driveReady := s.hif.driveReady, driveFault := s.hif.driveFault, halt := s.hif.halt, t0 := s.hif.t0, t1 := s.hif.t1
    attempt := s.kli.attempt, failures := s.kli.failures, discards := s.kli.discards, hunting := s.kli.hunting
    peers := s.peers, window := s.wgu.window, queue := s.dcc.queue, pending := s.pending }

variable (s : State)

/-! ### Operations that write no named register -/

@[simp] theorem onZcu_named (f : Zcu → Zcu) : (s.onZcu f).named = s.named := rfl
@[simp] theorem onAdm_named (f : Adm → Adm) : (s.onAdm f).named = s.named := rfl
@[simp] theorem onSgx_named (f : Sgx → Sgx) : (s.onSgx f).named = s.named := rfl
@[simp] theorem onAcu_named (f : Acu → Acu) : (s.onAcu f).named = s.named := rfl
@[simp] theorem nextFree_named : s.nextFree.named = s.named := rfl
@[simp] theorem onDip_named (f : Dip → Dip) : (s.onDip f).named = s.named := rfl
@[simp] theorem onFlags_named (f : DipFlags → DipFlags) : (s.onFlags f).named = s.named := rfl
@[simp] theorem raiseEvent_named (e : Event) : (raiseEvent e s).named = s.named := rfl
@[simp] theorem drivePins_named : (drivePins s).named = s.named := rfl

@[simp] theorem raiseState_named : (raiseState s).named = s.named := by simp [State.named]
@[simp] theorem raiseStateIf_named (c : Bool) : (raiseStateIf c s).named = s.named := by simp [State.named]
@[simp] theorem setStage_named (st : Stage) : (setStage st s).named = s.named := by simp [State.named]

@[simp] theorem waitHold_named (r : HoldReason) : (waitHold r s).named = s.named := by
  unfold waitHold
  split
  · rfl
  · exact raiseState_named _

@[simp] theorem endHold_named : (endHold s).named = s.named := by simp [State.named]

/-! #### Admission (R173 to R184) -/

@[simp] theorem refreshSurface_named : (refreshSurface s).named = s.named := rfl
@[simp] theorem formFull_named (steel : Nat) : (formFull steel s).named = s.named := rfl
@[simp] theorem clearFull_named : (clearFull s).named = s.named := rfl
@[simp] theorem admCompletion_named (c : Announced) : (admCompletion c s).named = s.named := by simp [State.named]
@[simp] theorem refreshActual_named : (refreshActual s).named = s.named := by simp [State.named]

@[simp] theorem reportResv_named : (reportResv s).named = s.named := by
  unfold reportResv
  repeat' split
  all_goals simp

@[simp] theorem setResv_named (r : ResvState) : (setResv r s).named = s.named := by simp [setResv]

@[simp] theorem testResv_named : (testResv s).named = s.named := by
  unfold testResv
  split <;> simp

@[simp] theorem reviewResv_named : (reviewResv s).named = s.named := by
  unfold reviewResv
  repeat' split
  all_goals simp

@[simp] theorem admLevelChanged_named : (admLevelChanged s).named = s.named := by simp [admLevelChanged]

@[simp] theorem admLineLost_named : (admLineLost s).named = s.named := by
  unfold admLineLost
  repeat' split
  all_goals simp

@[simp] theorem admLineBack_named : (admLineBack s).named = s.named := by
  unfold admLineBack
  repeat' split
  all_goals simp

@[simp] theorem closeGate_named : (closeGate s).named = s.named := by
  unfold closeGate
  dsimp only
  repeat' split
  all_goals simp

@[simp] theorem openGate_named : (openGate s).named = s.named := by
  unfold openGate
  dsimp only
  repeat' split
  all_goals simp

@[simp] theorem releaseResv_named : (releaseResv s).named = s.named := by simp [releaseResv]

@[simp] theorem testClear_named : (testClear s).named = s.named := by
  unfold testClear
  split <;> simp only [onDip_named, setResv_named]

@[simp] theorem admHookUpdate_named : (admHookUpdate s).named = s.named := by simp [admHookUpdate]

/-! #### Inventory and log (R102 to R109, R148 to R157) -/

@[simp] theorem lowTest_named : (lowTest s).named = s.named := by
  unfold lowTest
  dsimp only
  split <;> rfl

/-- An arrival at the INV writes the counters its change writes, and no other named register (R148). -/
theorem invArrive_named (f : Inv → Inv) :
    (invArrive f s).named = { s.named with added := (f s.inv).added, removed := (f s.inv).removed } := by
  unfold invArrive
  rw [raiseStateIf_named, lowTest_named]
  split
  · rfl
  · exact admLevelChanged_named _

@[simp] theorem logRecord_named (r : DipRecord) : (logRecord r s).named = s.named := by
  unfold logRecord
  dsimp only
  split <;> rfl

@[simp] theorem storeDip_named : (storeDip s).named = s.named := by
  unfold storeDip
  split
  · rfl
  · rw [invArrive_named, logRecord_named]
    simp [Inv.draw, Inv.shift, State.named]

@[simp] theorem invPeerState_named (first : Bool) (new last : Announced) :
    (invPeerState first new last s).named = s.named := by
  unfold invPeerState
  split
  · exact invArrive_named _ _
  · exact invArrive_named _ _

/-! #### Claims (R161 to R171) -/

@[simp] theorem zcuCompletion_named (c : Announced) : (zcuCompletion c s).named = s.named := by simp [State.named]

@[simp] theorem reportClaim_named : (reportClaim s).named = s.named := by
  unfold reportClaim
  repeat' split
  all_goals simp

@[simp] theorem setClaim_named (c : ClaimState) (m : Mask) : (setClaim c m s).named = s.named := by simp [setClaim]

@[simp] theorem testClaim_named : (testClaim s).named = s.named := by
  unfold testClaim
  split <;> simp

@[simp] theorem releaseClaim_named : (releaseClaim s).named = s.named := by simp [releaseClaim]

@[simp] theorem zcuLineChanged_named : (zcuLineChanged s).named = s.named := by
  unfold zcuLineChanged
  repeat' split
  all_goals simp

@[simp] theorem reviewPending_named (i : StationIx) : (reviewPending i s).named = s.named := by
  unfold reviewPending
  dsimp only
  repeat' split
  all_goals simp

@[simp] theorem reviewHeld_named (i : StationIx) : (reviewHeld i s).named = s.named := by simp [reviewHeld]
@[simp] theorem beginConflict_named : (beginConflict s).named = s.named := by
  unfold beginConflict
  rw [raiseState_named, raiseEvent_named, onFlags_named, onZcu_named]

/-! #### Weighing, markers, legs and segments (R53 to R62, R92) -/

@[simp] theorem weighRequest_named : (weighRequest s).named = s.named := rfl
@[simp] theorem dropWeigh_named : (dropWeigh s).named = s.named := rfl
@[simp] theorem markersLow_named : (markersLow s).named = s.named := rfl
@[simp] theorem applyMarkers_named (g : Segment) : (applyMarkers g s).named = s.named := rfl
@[simp] theorem noteClamps_named (d sp : Bool) : (noteClamps d sp s).named = s.named := rfl
@[simp] theorem startMotion_named : (startMotion s).named = s.named := rfl
@[simp] theorem dropSegment_named : (dropSegment s).named = s.named := rfl
@[simp] theorem dropRecipe_named : (dropRecipe s).named = s.named := rfl
@[simp] theorem takeCall_named (g : Segment) (target : Nat) : (takeCall g target s).named = s.named := rfl

@[simp] theorem startLeg_named (r : Running) : (startLeg r s).named = s.named := by
  unfold startLeg
  split <;> rfl

@[simp] theorem startMove_named (r : Reference) (target : Int) (speed : Nat) :
    (startMove r target speed s).named = s.named := by
  unfold startMove
  dsimp only
  split <;> simp

@[simp] theorem startShake_named (r : Reference) (target : Int) (speed amplitude count : Nat) :
    (startShake r target speed amplitude count s).named = s.named := by
  unfold startShake
  dsimp only
  repeat' split
  all_goals simp

@[simp] theorem startDwell_named (time : Nat) : (startDwell time s).named = s.named := by
  unfold startDwell
  split <;> rfl

@[simp] theorem clearLatch_named (t : Trigger) : (clearLatch t s).named = s.named := by cases t <;> rfl

@[simp] theorem startWait_named (input : Trigger) (edge : EdgeChoice) (time : Nat) :
    (startWait input edge time s).named = s.named := by simp [startWait]

@[simp] theorem startWork_named (w : Work) : (startWork w s).named = s.named := by cases w <;> simp [startWork]
@[simp] theorem startSegment_named (g : Segment) : (startSegment g s).named = s.named := by simp [startSegment]

/-! #### The course of a dip (R26 to R34, R51 to R54) -/

@[simp] theorem dropActive_named : (s.onDcc fun d => { d with active := none }).named = s.named := rfl
@[simp] theorem finishDip_named : (finishDip s).named = s.named := by simp [finishDip]
@[simp] theorem releaseDip_named : (releaseDip s).named = s.named := by simp [releaseDip]

@[simp] theorem enterWeighExit_named : (enterWeighExit s).named = s.named := by
  unfold enterWeighExit
  rw [weighRequest_named, setStage_named, onDip_named]

@[simp] theorem enterWeighDrained_named : (enterWeighDrained s).named = s.named := by simp [enterWeighDrained]
@[simp] theorem enterAdmit_named : (enterAdmit s).named = s.named := by simp [enterAdmit]
@[simp] theorem handStage_named (p : Phase) : (handStage p s).named = s.named := by simp [handStage]
@[simp] theorem leavePhase_named (p : Phase) : (leavePhase p s).named = s.named := by cases p <;> simp [leavePhase]

/-- What every step of the walk keeps, the walk keeps (R52 to R55). -/
theorem sgxRun_keeps {P : State → Prop} (hsgx : ∀ u f, P u → P (u.onSgx f)) (hhand : ∀ u p, P u → P (handStage p u))
    (hcall : ∀ u g k, P u → P (takeCall g k u)) (hstart : ∀ u g, P u → P (startSegment g u))
    (hleave : ∀ u p, P u → P (leavePhase p u)) (hwait : ∀ u r, P u → P (waitHold r u)) (n : Nat) (h : P s) :
    P (sgxRun n s) := by
  induction n generalizing s with
  | zero => exact h
  | succ n ih =>
    cases hf : s.find with
    | nothing => rw [sgxRun_nothing n hf]; exact h
    | back next => rw [sgxRun_back n hf]; exact ih _ (hsgx _ _ h)
    | pass seg => rw [sgxRun_pass n hf]; exact ih _ (hsgx _ _ h)
    | done p =>
      cases hq : phaseFollowing p with
      | some q => rw [sgxRun_done_next n hf hq]; exact ih _ (hhand _ _ h)
      | none => rw [sgxRun_done_leave n hf hq]; exact hleave _ _ h
    | start seg =>
      by_cases hy : s.dcc.stage = .approach ∧ s.zcu.yielding = true
      · rw [sgxRun_yield n hf hy]; exact hwait _ _ h
      · by_cases hw : ∃ k, seg.work = .call k
        · obtain ⟨k, hk⟩ := hw
          rw [sgxRun_call n hf hy hk]; exact ih _ (hcall _ _ _ h)
        · rw [sgxRun_start n hf hy (by simpa using hw)]
          split
          · exact ih _ (hstart _ _ h)
          · exact hstart _ _ h

@[simp] theorem sgxRun_named (n : Nat) : (sgxRun n s).named = s.named :=
  sgxRun_keeps (P := fun u => u.named = s.named) s (fun _ _ => (onSgx_named _ _).trans)
    (fun _ _ => (handStage_named _ _).trans) (fun _ _ _ => (takeCall_named _ _ _).trans)
    (fun _ _ => (startSegment_named _ _).trans) (fun _ _ => (leavePhase_named _ _).trans)
    (fun _ _ => (waitHold_named _ _).trans) n rfl

@[simp] theorem sgxGo_named : (sgxGo s).named = s.named := sgxRun_named s sgxFuel
@[simp] theorem enterMotion_named (p : Phase) : (enterMotion p s).named = s.named := by simp [enterMotion]
@[simp] theorem endSegment_named : (endSegment s).named = s.named := by simp [endSegment]

@[simp] theorem sgxHookUpdate_named : (sgxHookUpdate s).named = s.named := by
  unfold sgxHookUpdate
  repeat' split
  all_goals simp

/-! #### Weights delivered, and faults (R27, R32, R43, R44, R97) -/

@[simp] theorem deliverDry_named (mass : Nat) (unsettled overrange : Bool) :
    (deliverDry mass unsettled overrange s).named = s.named := by
  unfold deliverDry
  rw [testClaim_named, setStage_named, formFull_named, onDip_named]

@[simp] theorem deliverExit_named (mass : Nat) (unsettled overrange : Bool) :
    (deliverExit mass unsettled overrange s).named = s.named := by
  unfold deliverExit
  dsimp only
  split
  · rw [enterWeighDrained_named, onDip_named]
  · rw [enterMotion_named, onDip_named]

@[simp] theorem deliverDrained_named (mass : Nat) (unsettled overrange : Bool) :
    (deliverDrained mass unsettled overrange s).named = s.named := by
  unfold deliverDrained
  rw [enterMotion_named, onDip_named]

@[simp] theorem deliverWeight_named (mass : Nat) (unsettled overrange : Bool) :
    (deliverWeight mass unsettled overrange s).named = s.named := by
  unfold deliverWeight
  dsimp only
  split <;> simp

@[simp] theorem deliverSamples_named (samples : List Sample) (unsettled : Bool) :
    (deliverSamples samples unsettled s).named = s.named := by simp [deliverSamples]

@[simp] theorem enterFault_named (c : FaultCode) : (enterFault c s).named = s.named := by
  unfold enterFault
  simp only [raiseEvent_named, setStage_named, dropWeigh_named, markersLow_named, dropSegment_named, endHold_named]
  rfl

@[simp] theorem secondFault_named : (secondFault s).named = s.named := rfl

@[simp] theorem faultCause_named (c : FaultCode) : (faultCause c s).named = s.named := by
  unfold faultCause
  repeat' split
  all_goals simp

/-! #### Conflict, yield, table changes and LINE_LOST (R37, R128 to R130, R141, R168, R169) -/

@[simp] theorem beginYield_named : (beginYield s).named = s.named := by
  unfold beginYield
  dsimp only
  split <;> simp

@[simp] theorem endYield_named : (endYield s).named = s.named := by
  unfold endYield
  dsimp only
  split <;> simp

@[simp] theorem checkFlag_named (l : List (StationIx × PeerEntry)) : (checkFlag l s).named = s.named := by
  unfold checkFlag
  repeat' split
  all_goals simp

@[simp] theorem conflictCheck_named : (conflictCheck s).named = s.named := by
  unfold conflictCheck
  dsimp only
  repeat' split
  all_goals simp

@[simp] theorem zcuTableChange_named (i : Option StationIx) : (zcuTableChange i s).named = s.named := by
  unfold zcuTableChange
  repeat' split
  all_goals simp

@[simp] theorem tableChangeWith_named (b : Bool) (i : Option StationIx) : (tableChangeWith b i s).named = s.named := by
  unfold tableChangeWith
  split <;> simp

@[simp] theorem tableChange_named (i : Option StationIx) : (tableChange i s).named = s.named := by simp [tableChange]

@[simp] theorem beginLineLost_named (c : LineLostCause) : (beginLineLost c s).named = s.named := by
  unfold beginLineLost
  rw [onFlags_named, admLineLost_named, zcuLineChanged_named, raiseState_named, raiseEvent_named]
  rfl

@[simp] theorem lineLostOccurs_named (c : LineLostCause) : (lineLostOccurs c s).named = s.named := by
  unfold lineLostOccurs
  repeat' split
  · rfl
  · rfl
  · exact beginLineLost_named s c

@[simp] theorem lineBack_named : (lineBack s).named = s.named := by
  unfold lineBack
  split
  · rw [admLineBack_named, zcuLineChanged_named, raiseState_named, raiseEvent_named]
    rfl
  · rfl

end Sys2Proof.Machine
end

section
/-! SUPPORT. The drawn counter and the dip log (R102, R108): a command stores at most one record, the active dip's, and posts
the drawn mass of that record. -/

namespace Sys2Proof.Machine

/-! ### The account: log, drawn counter, and whether a dip is active -/

/-- The registers a stored record moves together. -/
structure Account where
  log    : List DipRecord
  drawn  : Word
  active : Bool

/-- The account of a state. -/
def State.account (s : State) : Account := { log := s.acu.log, drawn := s.inv.drawn, active := s.dcc.active.isSome }

/-- A record joins the log and its drawn mass the counter (R102, R108). -/
def Account.store (r : DipRecord) (a : Account) : Account :=
  { log := a.log ++ [r], drawn := a.drawn + BitVec.ofNat 32 r.drawn, active := false }

/-- The account stays, or the active dip ends with its record stored. As no dip is active afterwards, a second store in the
same step finds none: this is what makes the relation transitive. -/
def Posts (s t : State) : Prop :=
  t.account = s.account ∨ s.dcc.active.isSome = true ∧ ∃ r, t.account = s.account.store r

variable {s t u : State}

theorem Posts.refl (s : State) : Posts s s := .inl rfl

theorem Posts.trans (h : Posts s t) (h' : Posts t u) : Posts s u := by
  rcases h with h | ⟨hs, r, h⟩
  · have hactive : t.dcc.active.isSome = s.dcc.active.isSome := congrArg Account.active h
    rw [Posts, h, hactive] at h'
    exact h'
  · have hactive : t.dcc.active.isSome = false := congrArg Account.active h
    rcases h' with h' | ⟨ht, -⟩
    · exact .inr ⟨hs, r, h'.trans h⟩
    · simp [hactive] at ht

/-- What comes before a posting leaves the account. -/
theorem Posts.after (h : Posts t u) (hst : t.account = s.account) : Posts s u := Posts.trans (.inl hst) h

/-- What comes after a posting leaves the account. -/
theorem Posts.before (h : Posts s t) (htu : u.account = t.account) : Posts s u := h.trans (.inl htu)

/-! ### Operations that leave the account -/

variable (s)

@[simp] theorem onSgx_account (f : Sgx → Sgx) : (s.onSgx f).account = s.account := rfl
@[simp] theorem nextFree_account : s.nextFree.account = s.account := rfl
@[simp] theorem raiseEvent_account (e : Event) : (raiseEvent e s).account = s.account := rfl
@[simp] theorem setStage_account (st : Stage) : (setStage st s).account = s.account := by simp [State.account]
@[simp] theorem endHold_account : (endHold s).account = s.account := by simp [State.account]
@[simp] theorem waitHold_account (r : HoldReason) : (waitHold r s).account = s.account := by simp [State.account]
@[simp] theorem testResv_account : (testResv s).account = s.account := by simp [State.account]
@[simp] theorem startSegment_account (g : Segment) : (startSegment g s).account = s.account := by simp [State.account]
@[simp] theorem takeCall_account (g : Segment) (k : Nat) : (takeCall g k s).account = s.account := rfl
@[simp] theorem dropSegment_account : (dropSegment s).account = s.account := rfl
@[simp] theorem weighRequest_account : (weighRequest s).account = s.account := rfl
@[simp] theorem formFull_account (n : Nat) : (formFull n s).account = s.account := rfl

@[simp] theorem onDip_account (f : Dip → Dip) : (s.onDip f).account = s.account := by simp [State.account]
@[simp] theorem onFlags_account (f : DipFlags → DipFlags) : (s.onFlags f).account = s.account := by simp [State.account]

@[simp] theorem enterAdmit_account : (enterAdmit s).account = s.account := by simp [enterAdmit]
@[simp] theorem handStage_account (p : Phase) : (handStage p s).account = s.account := by simp [handStage]

@[simp] theorem enterWeighExit_account : (enterWeighExit s).account = s.account := by
  unfold enterWeighExit
  rw [weighRequest_account, setStage_account, onDip_account]

@[simp] theorem enterWeighDrained_account : (enterWeighDrained s).account = s.account := by simp [enterWeighDrained]

/-! ### The store of a record (R102, R108) -/

/-- An arrival at the INV takes its drawn counter from its change: no later part of the arrival writes it (R148). -/
theorem invArrive_drawn (f : Inv → Inv) : (invArrive f s).inv.drawn = (f s.inv).drawn := by
  have hlow : ∀ u : State, (lowTest u).inv.drawn = u.inv.drawn := fun u => by
    unfold lowTest
    dsimp only
    split <;> rfl
  unfold invArrive
  simp only [raiseStateIf_frame, hlow]
  split
  · rfl
  · simp [Inv.relevel]

theorem logRecord_log (r : DipRecord) : (logRecord r s).acu.log = s.acu.log ++ [r] := by
  unfold logRecord
  dsimp only
  split <;> simp

/-- Without an active dip nothing is stored. -/
theorem storeDip_of_none (h : s.dcc.active = none) : storeDip s = s := by simp only [storeDip, h]

/-- The active dip's record joins the log, and the drawn counter rises by its drawn mass (R102, R108). -/
theorem storeDip_of_some {d : Dip} (h : s.dcc.active = some d) :
    (storeDip s).acu.log = s.acu.log ++ [recordOf s d]
      ∧ (storeDip s).inv.drawn = s.inv.drawn + BitVec.ofNat 32 (recordOf s d).drawn := by
  simp only [storeDip, h]
  refine ⟨?_, ?_⟩
  · simp [logRecord_log]
  · simp [invArrive_drawn, Inv.draw, Inv.shift]

/-- The end of a dip stores its record and leaves no dip active (R34, R46). -/
theorem finishDip_posts : Posts s (finishDip s) := by
  let u := dropRecipe (markersLow (releaseResv (releaseClaim s)))
  have hu : u.account = s.account := by simp [u, State.account]
  have hlog : (finishDip s).acu.log = (storeDip u).acu.log := by simp [finishDip, u]
  have hdrawn : (finishDip s).inv.drawn = (storeDip u).inv.drawn := by simp [finishDip, u]
  have hactive : (finishDip s).dcc.active = none := by simp [finishDip]
  refine Posts.after ?_ hu
  cases h : u.dcc.active with
  | none =>
    rw [storeDip_of_none u h] at hlog hdrawn
    exact .inl (by simp [State.account, hlog, hdrawn, hactive, h])
  | some d =>
    obtain ⟨hl, hd⟩ := storeDip_of_some u h
    exact .inr ⟨by rw [h]; rfl, recordOf u d, by simp [State.account, Account.store, hlog, hdrawn, hactive, hl, hd]⟩

theorem releaseDip_posts : Posts s (releaseDip s) :=
  ((finishDip_posts _).after (by simp)).before (setStage_account _ _)

/-! ### The walk of the Segment Executor, and what reaches it -/

theorem leavePhase_posts (p : Phase) : Posts s (leavePhase p s) := by
  cases p with
  | depart => exact (releaseDip_posts _).after (onSgx_account _ _)
  | approach => exact .inl (by simp [leavePhase])
  | immerse => exact .inl rfl
  | soak => exact .inl rfl
  | withdraw => exact .inl (by simp [leavePhase])
  | drain => exact .inl (by simp [leavePhase])

/-- Every step of the walk leaves the account but the leaving of DEPART, which is its last. -/
theorem sgxRun_posts (n : Nat) : Posts s (sgxRun n s) :=
  sgxRun_keeps (P := Posts s) s (fun _ _ h => h.before (onSgx_account _ _))
    (fun _ _ h => h.before (handStage_account _ _)) (fun _ _ _ h => h.before (takeCall_account _ _ _))
    (fun _ _ h => h.before (startSegment_account _ _)) (fun _ _ h => h.trans (leavePhase_posts _ _))
    (fun _ _ h => h.before (waitHold_account _ _)) n (.refl s)

theorem sgxGo_posts : Posts s (sgxGo s) := sgxRun_posts s sgxFuel
theorem enterMotion_posts (p : Phase) : Posts s (enterMotion p s) := (sgxGo_posts _).after (handStage_account _ _)
theorem endSegment_posts : Posts s (endSegment s) := (sgxGo_posts _).after (dropSegment_account _)

theorem sgxHookUpdate_posts : Posts s (sgxHookUpdate s) := by
  unfold sgxHookUpdate
  repeat' split
  -- a MOVE; a SHAKE within both bands; its first, up and down legs; nothing that has a leg
  exacts [endSegment_posts s, .refl s, endSegment_posts s, .inl rfl, .refl s, .inl rfl, .refl s, endSegment_posts s,
    .inl rfl, .refl s, .refl s]

theorem deliverDry_posts (mass : Nat) (unsettled overrange : Bool) : Posts s (deliverDry mass unsettled overrange s) := by
  have htest : ∀ u : State, (testClaim u).account = u.account := fun u => by simp [State.account]
  unfold deliverDry
  exact .inl (by rw [htest, setStage_account, formFull_account, onDip_account])

theorem deliverExit_posts (mass : Nat) (unsettled overrange : Bool) : Posts s (deliverExit mass unsettled overrange s) := by
  unfold deliverExit
  dsimp only
  split
  · exact .inl (by rw [enterWeighDrained_account, onDip_account])
  · exact (enterMotion_posts _ _).after (onDip_account _ _)

theorem deliverDrained_posts (mass : Nat) (unsettled overrange : Bool) :
    Posts s (deliverDrained mass unsettled overrange s) := (enterMotion_posts _ _).after (onDip_account _ _)

theorem deliverSamples_posts (samples : List Sample) (unsettled : Bool) : Posts s (deliverSamples samples unsettled s) := by
  refine Posts.trans (t := dropWeigh s.nextFree) (.inl rfl) ?_
  unfold deliverSamples deliverWeight
  dsimp only
  split
  · exact deliverDry_posts _ _ _ _
  · exact deliverExit_posts _ _ _ _
  · exact deliverDrained_posts _ _ _ _
  · exact Posts.refl _

/-! ### Table changes (R141, R168, R169) -/

theorem endYield_posts : Posts s (endYield s) := by
  have hopen : ∀ u : State, (openGate u).account = u.account := fun u => by simp [State.account]
  have h : (openGate (s.onZcu fun z => { z with yielding := false })).account = s.account := hopen _
  unfold endYield
  dsimp only
  split
  · exact (sgxGo_posts _).after ((endHold_account _).trans h)
  · exact .inl h

theorem conflictCheck_posts : Posts s (conflictCheck s) := by
  have hflag : ∀ l, (checkFlag l s).account = s.account := fun l => by simp [State.account]
  have hyield : ∀ u : State, (beginYield u).account = u.account := fun u => by simp [State.account]
  unfold conflictCheck
  dsimp only
  repeat' split
  · exact .inl (hflag _)
  · exact .inl ((hyield _).trans (hflag _))
  · exact (endYield_posts _).after (hflag _)
  · exact .inl (hflag _)

theorem zcuTableChange_posts (i : Option StationIx) : Posts s (zcuTableChange i s) := by
  unfold zcuTableChange
  repeat' split
  · exact Posts.refl s
  · exact .inl (by simp [State.account])
  · exact .inl (by simp [State.account])
  · exact Posts.refl s
  · exact (conflictCheck_posts _).after (by simp [State.account])
  · exact conflictCheck_posts s

theorem tableChangeWith_posts (b : Bool) (i : Option StationIx) : Posts s (tableChangeWith b i s) := by
  have hreview : ∀ u : State, (reviewResv u).account = u.account := fun u => by simp [State.account]
  cases b with
  | true => exact ((zcuTableChange_posts (refreshSurface s) i).after rfl).before (hreview _)
  | false => exact (zcuTableChange_posts s i).before ((hreview _).trans rfl)

theorem tableChange_posts (i : Option StationIx) : Posts s (tableChange i s) :=
  (tableChangeWith_posts _ _ i).after (nextFree_account s)

end Sys2Proof.Machine
end

section
/-! PROOF. Which command may write which of the named registers (O18): the table, the scope of every command under it, and
the clauses of the statement read off from the table. -/

namespace Sys2Proof.Machine

/-! ### The table of the registers that a command may write -/

/-- A filtered level of the record. -/
def Named.level (a : Named) (i : DiscreteInput) : Option Bool :=
  match i with
  | .driveReady => a.driveReady
  | .driveFault => a.driveFault
  | .halt => a.halt
  | .t0 => a.t0
  | .t1 => a.t1

/-- `a` with the filtered level of one input taken from `b`. -/
def Named.levelFrom (i : DiscreteInput) (a b : Named) : Named :=
  { a with
    driveReady := if i = .driveReady then b.driveReady else a.driveReady
    driveFault := if i = .driveFault then b.driveFault else a.driveFault
    halt := if i = .halt then b.halt else a.halt
    t0 := if i = .t0 then b.t0 else a.t0
    t1 := if i = .t1 then b.t1 else a.t1 }

/-- The discrete input of a trigger. -/
def triggerInput (t : Trigger) : DiscreteInput :=
  match t with
  | .t0 => .t0
  | .t1 => .t1

/-- `a` with the registers that a command may write taken from `b`: the table of O18. A command without a row writes none;
hardware reset, which writes them all, is left out as in the statement. -/
def Named.changedBy (c : Instr) (a b : Named) : Named :=
  match c with
  | .stationClockTick => { a with sck := b.sck }
  | .csnFallingEdge => { a with captured := b.captured }
  | .loadBegin _ => { a with response := b.response, load := b.load, mode := b.mode }
  | .loadData _ => { a with response := b.response, load := b.load }
  | .validationEnd =>
    { a with cfs := b.cfs, response := b.response, load := b.load, mode := b.mode, peers := b.peers }
  | .loadTimerExpiry => { a with load := b.load, mode := b.mode }
  | .listenTimerExpiry => { a with mode := b.mode }
  | .restartTimerExpiry => { a with mode := b.mode, attempt := b.attempt, peers := b.peers, queue := b.queue }
  | .dip _ => { a with response := b.response, queue := b.queue }
  | .cancelJob _ => { a with response := b.response, queue := b.queue }
  | .addZinc _ => { a with response := b.response, added := b.added }
  | .removeDross _ => { a with response := b.response, removed := b.removed }
  | .forgetPeer _ => { a with response := b.response, peers := b.peers }
  | .setEventEnable _ => { a with response := b.response, enables := b.enables }
  | .loadEnd _ => { a with response := b.response }
  | .getStatus _ => { a with response := b.response }
  | .abortDip _ => { a with response := b.response }
  | .recover _ => { a with response := b.response }
  | .setLevel _ => { a with response := b.response }
  | .readRecord _ => { a with response := b.response }
  | .peekRecord _ => { a with response := b.response }
  | .readPeer _ => { a with response := b.response }
  | .clearEvents _ => { a with response := b.response }
  | .restart _ => { a with response := b.response }
  | .unknownCommand _ _ => { a with response := b.response }
  | .jobStart => { a with queue := b.queue }
  | .rawSample _ => { a with window := b.window }
  | .encoderRead _ _ _ => { a with hook := b.hook, hookValid := b.hookValid, readFailures := b.readFailures }
  | .driveReadyEdge _ _ => a.levelFrom .driveReady b
  | .driveFaultEdge _ _ => a.levelFrom .driveFault b
  | .haltEdge _ _ => a.levelFrom .halt b
  | .triggerEdge t _ _ => a.levelFrom (triggerInput t) b
  | .firstFilteredLevel i _ _ => a.levelFrom i b
  | .transmitAttemptStart => { a with attempt := b.attempt }
  | .bitReadBackMismatch _ _ => { a with attempt := b.attempt, failures := b.failures }
  | .noticeEnd _ _ =>
    { a with
      mode := b.mode, attempt := b.attempt, failures := b.failures, discards := b.discards, hunting := b.hunting
      peers := b.peers, queue := b.queue }
  | .peerAgeing _ => { a with peers := b.peers }
  | _ => a

theorem levelFrom_self (i : DiscreteInput) (a : Named) : Named.levelFrom i a a = a := by cases i <;> rfl

theorem levelFrom_levelFrom (i : DiscreteInput) (a b d : Named) :
    Named.levelFrom i (Named.levelFrom i a b) d = Named.levelFrom i a d := by cases i <;> rfl

/-- A command may leave every register as it is. -/
theorem changedBy_self (c : Instr) (a : Named) : a.changedBy c a = a := by
  cases c with
  | driveReadyEdge | driveFaultEdge | haltEdge | triggerEdge | firstFilteredLevel => exact levelFrom_self _ a
  | _ => rfl

/-- Of two changes in one command the registers it may write show the second. -/
theorem changedBy_changedBy (c : Instr) (a b d : Named) : (a.changedBy c b).changedBy c d = a.changedBy c d := by
  cases c with
  | driveReadyEdge | driveFaultEdge | haltEdge | triggerEdge | firstFilteredLevel => exact levelFrom_levelFrom _ a b d
  | _ => rfl

/-! ### Changes within the table -/

/-- From `s` to `t` no named register has changed but those the command may write. -/
def Within (c : Instr) (s t : State) : Prop := t.named = s.named.changedBy c t.named

/-- The drawn counter is as it was, or a record has joined the log and its drawn mass the counter (R108, R149). -/
def DrawnByRecord (s t : State) : Prop :=
  t.inv.drawn = s.inv.drawn
    ∨ ∃ r, t.acu.log = s.acu.log ++ [r] ∧ t.inv.drawn = s.inv.drawn + BitVec.ofNat 32 r.drawn

/-- What O18 asks of a step: the named registers by the table, the drawn counter by a record. -/
structure Scope (c : Instr) (s t : State) : Prop where
  within : Within c s t
  drawn  : DrawnByRecord s t

variable {c : Instr} {s t u : State}

theorem Within.of_eq (h : t.named = s.named) : Within c s t := by
  rw [Within, h]
  exact (changedBy_self c _).symm

theorem Within.refl (s : State) : Within c s s := .of_eq rfl

theorem Within.trans (h : Within c s t) (h' : Within c t u) : Within c s u :=
  calc u.named = t.named.changedBy c u.named := h'
    _ = (s.named.changedBy c t.named).changedBy c u.named := congrArg (·.changedBy c u.named) h
    _ = s.named.changedBy c u.named := changedBy_changedBy c _ _ _

/-- What follows a change within the table keeps every named register. -/
theorem Within.before (h : Within c s t) (hu : u.named = t.named) : Within c s u := h.trans (.of_eq hu)

theorem Posts.drawnByRecord (h : Posts s t) : DrawnByRecord s t := by
  rcases h with h | ⟨-, r, h⟩
  · exact .inl (congrArg Account.drawn h)
  · exact .inr ⟨r, congrArg Account.log h, congrArg Account.drawn h⟩

theorem Scope.refl (s : State) : Scope c s s := ⟨.refl s, .inl rfl⟩

/-- A command that writes no named register, posting at most the active dip's record. -/
theorem Scope.of_kept (hn : t.named = s.named) (hp : Posts s t) : Scope c s t := ⟨.of_eq hn, hp.drawnByRecord⟩

/-- A scope reached from a state that has changed within the table and kept the account. -/
theorem Scope.after (h : Scope c t u) (hw : Within c s t) (ha : t.account = s.account) : Scope c s u := by
  have hlog : t.acu.log = s.acu.log := congrArg Account.log ha
  have hdrawn : t.inv.drawn = s.inv.drawn := congrArg Account.drawn ha
  obtain ⟨hu, hd⟩ := h
  rw [DrawnByRecord, hlog, hdrawn] at hd
  exact ⟨hw.trans hu, hd⟩

/-! ### The answers of a command -/

/-- The outcome of an arrival that finds nothing to act on. -/
theorem unchanged_scope (h : unchanged s = .next t) : Scope c s t := by
  cases h
  exact .refl s

/-- The pins that follow are none of the named registers. -/
theorem settle_scope (h : settle u = .next t) (hu : Scope c s u) : Scope c s t := by
  cases h
  exact ⟨hu.within.before (drivePins_named u), hu.drawn⟩

/-- A command of the table that may write the response buffer: a frame's (R185). -/
def Answers (c : Instr) : Prop := ∀ a r, Named.changedBy c a { a with response := r } = { a with response := r }

theorem respond_scope (hc : Answers c) (hu : Scope c s u) (code : ResultCode) (data : List Byte) :
    Scope c s (respond code data u) :=
  ⟨hu.within.trans (hc u.named _).symm, hu.drawn⟩

theorem refuse_scope (hc : Answers c) {code : ResultCode} (h : refuse code s = .next t) : Scope c s t := by
  cases h
  exact respond_scope hc (.refl s) code []

theorem accept_scope (hc : Answers c) {data : List Byte} (h : accept data u = .next t) (hu : Scope c s u) : Scope c s t :=
  settle_scope h (respond_scope hc hu .ok data)

theorem answerFrame_scope (hc : Answers c) {taken : Taken} {tail : List Byte}
    {body : List Byte → Host.Outcome State Fault Refusal} (h : answerFrame taken tail s body = .next t)
    (hbody : ∀ args, body args = .next t → Scope c s t) : Scope c s t := by
  unfold answerFrame at h
  split at h
  · exact refuse_scope hc h
  · split at h
    · exact hbody _ h
    · exact refuse_scope hc h

/-- A frame is refused without effect, or its body answers (R186). -/
theorem takeFrame_scope (hc : Answers c) {taken : Taken} {tail : List Byte}
    {body : List Byte → Host.Outcome State Fault Refusal} (h : takeFrame taken tail s body = .next t)
    (hbody : ∀ args, body args = .next t → Scope c s t) : Scope c s t := by
  unfold takeFrame at h
  split at h
  · exact refuse_scope hc h
  · exact answerFrame_scope hc h hbody

/-- A frame whose argument length is checked first (R187). -/
theorem takeArgs_scope (hc : Answers c) {taken : Taken} {tail : List Byte} {n : Nat}
    {body : List Byte → Host.Outcome State Fault Refusal}
    (h : takeFrame taken tail s (fun args => withArgs n args s (body args)) = .next t)
    (hbody : ∀ args, body args = .next t → Scope c s t) : Scope c s t := by
  refine takeFrame_scope hc h fun args h => ?_
  unfold withArgs at h
  split at h
  · exact hbody args h
  · exact refuse_scope hc h

/-! ### Frames (R185 to R197) -/

section Frames

variable {tail : List Byte}

theorem execLoadBegin_scope (h : execLoadBegin tail s = .next t) : Scope (.loadBegin tail) s t := by
  have hc : Answers (.loadBegin tail) := fun _ _ => rfl
  refine takeArgs_scope hc h fun args h => ?_
  dsimp only at h
  split at h
  · exact accept_scope hc h ⟨rfl, .inl rfl⟩
  · exact refuse_scope hc h

theorem execLoadData_scope (h : execLoadData tail s = .next t) : Scope (.loadData tail) s t := by
  have hc : Answers (.loadData tail) := fun _ _ => rfl
  refine takeFrame_scope hc h fun args h => ?_
  split at h
  · exact accept_scope hc h ⟨rfl, .inl rfl⟩
  · exact refuse_scope hc h

theorem execLoadEnd_scope (h : execLoadEnd tail s = .next t) : Scope (.loadEnd tail) s t := by
  have hc : Answers (.loadEnd tail) := fun _ _ => rfl
  refine takeArgs_scope hc h fun args h => settle_scope h (respond_scope hc ?_ .busy [])
  exact .of_kept rfl (.inl rfl)

theorem execGetStatus_scope (h : execGetStatus tail s = .next t) : Scope (.getStatus tail) s t := by
  have hc : Answers (.getStatus tail) := fun _ _ => rfl
  refine answerFrame_scope hc h fun args h => ?_
  unfold withArgs at h
  split at h
  · cases h
    exact respond_scope hc (.refl s) _ _
  · exact refuse_scope hc h

theorem execUnknownCommand_scope {code : Byte} (h : execUnknownCommand code tail s = .next t) :
    Scope (.unknownCommand code tail) s t := by
  have hc : Answers (.unknownCommand code tail) := fun _ _ => rfl
  unfold execUnknownCommand at h
  repeat' split at h
  · exact refuse_scope hc h
  · exact refuse_scope hc h
  · exact refuse_scope hc h
  · cases h

theorem execIdleFrame_scope (h : execIdleFrame s = .next t) : Scope .idleFrame s t := unchanged_scope h

theorem execSetEventEnable_scope (h : execSetEventEnable tail s = .next t) : Scope (.setEventEnable tail) s t :=
  takeArgs_scope (fun _ _ => rfl) h fun _ h => accept_scope (fun _ _ => rfl) h ⟨rfl, .inl rfl⟩

theorem execClearEvents_scope (h : execClearEvents tail s = .next t) : Scope (.clearEvents tail) s t :=
  takeArgs_scope (fun _ _ => rfl) h fun _ h => accept_scope (fun _ _ => rfl) h (.of_kept rfl (.inl rfl))

theorem execRestart_scope (h : execRestart tail s = .next t) : Scope (.restart tail) s t := by
  have hc : Answers (.restart tail) := fun _ _ => rfl
  refine takeArgs_scope hc h fun args h => ?_
  repeat' split at h
  · exact refuse_scope hc h
  · exact accept_scope hc h (.of_kept rfl (.inl rfl))
  · exact refuse_scope hc h

/-- An arrival at the INV that leaves the drawn counter. -/
theorem invArrive_scope (f : Inv → Inv) (hd : (f s.inv).drawn = s.inv.drawn)
    (hw : { s.named with added := (f s.inv).added, removed := (f s.inv).removed }
      = s.named.changedBy c { s.named with added := (f s.inv).added, removed := (f s.inv).removed }) :
    Scope c s (invArrive f s) :=
  ⟨by rw [Within, invArrive_named]; exact hw, .inl ((invArrive_drawn s f).trans hd)⟩

/-- SET_LEVEL leaves the counters (R156). -/
theorem execSetLevel_scope (h : execSetLevel tail s = .next t) : Scope (.setLevel tail) s t := by
  have hc : Answers (.setLevel tail) := fun _ _ => rfl
  refine takeArgs_scope hc h fun args h => ?_
  split at h
  · exact refuse_scope hc h
  · exact accept_scope hc h (invArrive_scope _ rfl rfl)

theorem execAddZinc_scope (h : execAddZinc tail s = .next t) : Scope (.addZinc tail) s t := by
  have hc : Answers (.addZinc tail) := fun _ _ => rfl
  refine takeArgs_scope hc h fun args h => ?_
  split at h
  · exact accept_scope hc h (invArrive_scope _ rfl rfl)
  · exact refuse_scope hc h

theorem execRemoveDross_scope (h : execRemoveDross tail s = .next t) : Scope (.removeDross tail) s t := by
  have hc : Answers (.removeDross tail) := fun _ _ => rfl
  refine takeArgs_scope hc h fun args h => ?_
  split at h
  · exact accept_scope hc h (invArrive_scope _ rfl rfl)
  · exact refuse_scope hc h

/-- READ_RECORD takes a record from the log; the drawn counter stays (R110). -/
theorem execReadRecord_scope (h : execReadRecord tail s = .next t) : Scope (.readRecord tail) s t := by
  have hc : Answers (.readRecord tail) := fun _ _ => rfl
  refine takeArgs_scope hc h fun args h => ?_
  split at h
  · exact refuse_scope hc h
  · exact accept_scope hc h ⟨.of_eq rfl, .inl rfl⟩

theorem execPeekRecord_scope (h : execPeekRecord tail s = .next t) : Scope (.peekRecord tail) s t := by
  have hc : Answers (.peekRecord tail) := fun _ _ => rfl
  refine takeArgs_scope hc h fun args h => ?_
  split at h
  · exact refuse_scope hc h
  · exact accept_scope hc h (.refl s)

theorem execReadPeer_scope (h : execReadPeer tail s = .next t) : Scope (.readPeer tail) s t := by
  have hc : Answers (.readPeer tail) := fun _ _ => rfl
  refine takeArgs_scope hc h fun args h => ?_
  split at h
  · exact refuse_scope hc h
  · exact accept_scope hc h (.refl s)

/-- An entry dropped changes the table, and the table change that is reported may end a dip (R138, R142). -/
theorem dropPeer_scope (i : StationIx) (hc : Within c s (s.setPeer i PeerEntry.empty)) : Scope c s (dropPeer i s) :=
  ⟨hc.before (tableChange_named _ _), ((tableChange_posts (s.setPeer i PeerEntry.empty) none).after rfl).drawnByRecord⟩

theorem execForgetPeer_scope (h : execForgetPeer tail s = .next t) : Scope (.forgetPeer tail) s t := by
  have hc : Answers (.forgetPeer tail) := fun _ _ => rfl
  refine takeArgs_scope hc h fun args h => ?_
  repeat' split at h
  · exact refuse_scope hc h
  · exact refuse_scope hc h
  · exact refuse_scope hc h
  · exact accept_scope hc h (dropPeer_scope _ rfl)

end Frames

/-! ### Frames of the dip (R21 to R46) -/

section DipFrames

variable {tail : List Byte}

theorem execDip_scope (h : execDip tail s = .next t) : Scope (.dip tail) s t := by
  have hc : Answers (.dip tail) := fun _ _ => rfl
  refine takeFrame_scope hc h fun args h => ?_
  repeat' split at h
  · exact refuse_scope hc h
  · exact refuse_scope hc h
  · exact accept_scope hc h ⟨rfl, .inl rfl⟩

theorem execCancelJob_scope (h : execCancelJob tail s = .next t) : Scope (.cancelJob tail) s t := by
  have hc : Answers (.cancelJob tail) := fun _ _ => rfl
  refine takeArgs_scope hc h fun args h => ?_
  dsimp only at h
  repeat' split at h
  · exact accept_scope hc h ⟨rfl, .inl rfl⟩
  · exact refuse_scope hc h
  · exact refuse_scope hc h

theorem routeAbort_named (s : State) : (routeAbort s).named = s.named := by
  unfold routeAbort
  split <;> simp

/-- An abort ends the dip at once in WEIGH_DRY and CLAIM, and by the recipe's own end elsewhere (R40 to R42, R63). -/
theorem routeAbort_posts (s : State) : Posts s (routeAbort s) := by
  unfold routeAbort
  split
  · exact (releaseDip_posts _).after rfl
  · exact releaseDip_posts s
  · exact (enterMotion_posts _ _).after (by simp)
  · exact (enterMotion_posts _ _).after (by simp [State.account])
  · exact (enterMotion_posts _ _).after rfl
  · exact (enterMotion_posts _ _).after rfl
  · exact .inl (by simp)
  · exact .refl s

theorem execAbortDip_scope (h : execAbortDip tail s = .next t) : Scope (.abortDip tail) s t := by
  have hc : Answers (.abortDip tail) := fun _ _ => rfl
  have hmark : (markAbort s).account = s.account := onDip_account _ _
  refine takeArgs_scope hc h fun args h => ?_
  repeat' split at h
  · exact refuse_scope hc h
  · exact refuse_scope hc h
  · exact refuse_scope hc h
  · exact refuse_scope hc h
  · exact accept_scope hc h (.of_kept (routeAbort_named _) ((routeAbort_posts _).after hmark))

theorem recoverDip_kept (s : State) : (recoverDip s).named = s.named ∧ Posts s (recoverDip s) := by
  have hcode : ∀ u : State, (u.onDcc fun d => { d with faultCode := .none }).named = u.named
      ∧ (u.onDcc fun d => { d with faultCode := .none }).account = u.account := fun _ => ⟨rfl, rfl⟩
  obtain ⟨hnamed, haccount⟩ := hcode (finishDip s)
  unfold recoverDip
  exact ⟨by rw [setStage_named, hnamed, finishDip_named],
    (finishDip_posts s).before ((setStage_account _ _).trans haccount)⟩

theorem execRecover_scope (h : execRecover tail s = .next t) : Scope (.recover tail) s t := by
  have hc : Answers (.recover tail) := fun _ _ => rfl
  obtain ⟨hnamed, hposts⟩ := recoverDip_kept s
  refine takeArgs_scope hc h fun args h => ?_
  dsimp only at h
  repeat' split at h
  · exact refuse_scope hc h
  · exact refuse_scope hc h
  · exact refuse_scope hc h
  · exact accept_scope hc h (.of_kept hnamed hposts)

end DipFrames

/-! ### Arrivals at the port and the clock -/

theorem execCsnFallingEdge_scope (h : execCsnFallingEdge s = .next t) : Scope .csnFallingEdge s t := by
  cases h
  exact ⟨rfl, .inl rfl⟩

theorem clearDivider_kept (s : State) :
    (s.onWgu fun w => { w with divider := 0 }).named = s.named
      ∧ (s.onWgu fun w => { w with divider := 0 }).account = s.account := ⟨rfl, rfl⟩

theorem lowTest_account (s : State) : (lowTest s).account = s.account := by
  unfold lowTest
  dsimp only
  split <;> rfl

theorem raiseState_account (s : State) : (raiseState s).account = s.account := by simp [State.account]

/-- A validation that passes starts the inventory anew but for the counters (R147, R193). -/
theorem loadPasses_scope (k : Settings) : Scope .validationEnd s (loadPasses k s) := by
  let v := (({ s with cfs := some k }.onCpt Cpt.listenFromLoad).onInv (Inv.load k)).setPeer k.station
    { presence := .present, heard := Announced.zero, time := s.sck, firstHeard := false }
  let w := raiseState (refreshSurface (lowTest v))
  have hv : Within .validationEnd s v := rfl
  have hw : w.named = v.named := by simp [w]
  have ha : w.account = s.account := (raiseState_account _).trans (lowTest_account v)
  obtain ⟨hdn, hda⟩ := clearDivider_kept w
  have hscope : Scope .validationEnd s (raiseEvent .loadDone (w.onWgu fun g => { g with divider := 0 })) :=
    ⟨hv.before ((raiseEvent_named _ _).trans (hdn.trans hw)), .inl (congrArg Account.drawn (hda.trans ha))⟩
  exact respond_scope (fun _ _ => rfl) hscope .ok LoadResult.ok.bytes

theorem execValidationEnd_scope (h : execValidationEnd s = .next t) : Scope .validationEnd s t := by
  unfold execValidationEnd at h
  repeat' split at h
  · exact settle_scope h ⟨rfl, .inl rfl⟩
  · exact settle_scope h (loadPasses_scope _)
  · exact unchanged_scope h

theorem execLoadTimerExpiry_scope (h : execLoadTimerExpiry s = .next t) : Scope .loadTimerExpiry s t := by
  unfold execLoadTimerExpiry at h
  split at h
  · exact settle_scope h ⟨rfl, .inl rfl⟩
  · exact unchanged_scope h

theorem execListenTimerExpiry_scope (h : execListenTimerExpiry s = .next t) : Scope .listenTimerExpiry s t := by
  unfold execListenTimerExpiry at h
  split at h
  · exact settle_scope h ⟨rfl, .inl rfl⟩
  · exact unchanged_scope h

theorem execStationClockTick_scope (h : execStationClockTick s = .next t) : Scope .stationClockTick s t :=
  settle_scope h ⟨rfl, .inl rfl⟩

/-- What the clear of RESTART writes, under any command that may write it (R131, R145, R197). -/
theorem restartClear_scope
    (hc : ∀ a mode attempt peers queue, Named.changedBy c a
        { a with mode := mode, attempt := attempt, peers := peers, queue := queue }
      = { a with mode := mode, attempt := attempt, peers := peers, queue := queue }) :
    Scope c s (restartClear s) := by
  let v := ((s.onKli (·.restart s.sck)).onDcc fun d => { d with queue := [] })
  let w : State := { markersLow v with peers := clearPeers s.own s.peers }
  have hw : (tableChange none w).named = w.named := tableChange_named w none
  refine ⟨?_, ((tableChange_posts w none).after rfl).drawnByRecord⟩
  have hclear : (restartClear s).named = { w.named with mode := .listen } :=
    congrArg (fun a : Named => { a with mode := .listen }) hw
  rw [Within, hclear]
  exact (hc s.named _ _ _ _).symm

theorem execRestartTimerExpiry_scope (h : execRestartTimerExpiry s = .next t) : Scope .restartTimerExpiry s t := by
  unfold execRestartTimerExpiry at h
  split at h
  · exact settle_scope h (restartClear_scope fun _ _ _ _ _ => rfl)
  · exact unchanged_scope h

/-! ### Arrivals of the dip cycle -/

theorem execJobStart_scope (h : execJobStart s = .next t) : Scope .jobStart s t := by
  unfold execJobStart at h
  repeat' split at h
  · exact unchanged_scope h
  · rename_i j rest _ _
    refine settle_scope h ?_
    have hfault : ∀ u : State, (faultAtStart u).named = u.named ∧ (faultAtStart u).inv = u.inv := fun u => by
      unfold faultAtStart
      repeat' split
      all_goals simp
    have hstart : Within .jobStart s (startJob j rest s) :=
      .before (t := s.onDcc fun d => { d with queue := rest }) rfl (setStage_named _ _)
    exact ⟨hstart.before (hfault _).1, .inl (by rw [(hfault _).2]; simp [startJob])⟩
  · exact unchanged_scope h

theorem execHoldLimitExpiry_scope (h : execHoldLimitExpiry s = .next t) : Scope .holdLimitExpiry s t := by
  unfold execHoldLimitExpiry at h
  repeat' split at h
  · exact unchanged_scope h
  · exact settle_scope h (.of_kept rfl (.inl rfl))
  · exact unchanged_scope h

theorem setClaim_account (k : ClaimState) (m : Mask) (s : State) : (setClaim k m s).account = s.account := by
  simp [State.account]

theorem setResv_account (r : ResvState) (s : State) : (setResv r s).account = s.account := by simp [State.account]

theorem holdClaim_scope (s : State) : Scope c s (holdClaim s) := by
  unfold holdClaim
  dsimp only
  split
  · exact .of_kept (by simp)
      (((enterMotion_posts _ _).after (setClaim_account _ _ _)).trans (conflictCheck_posts _))
  · exact .of_kept (by simp) ((conflictCheck_posts _).after (setClaim_account _ _ _))

theorem execClaimWindowExpiry_scope (h : execClaimWindowExpiry s = .next t) : Scope .claimWindowExpiry s t := by
  unfold execClaimWindowExpiry at h
  repeat' split at h
  · exact settle_scope h (holdClaim_scope s)
  · exact unchanged_scope h
  · exact unchanged_scope h

theorem admitResv_scope (s : State) : Scope c s (admitResv s) := by
  unfold admitResv
  dsimp only
  repeat' split
  · exact .of_kept (by simp) ((enterMotion_posts _ _).after (setResv_account _ _))
  · exact .of_kept (by simp) (.inl (setResv_account _ _))
  · exact .of_kept (by simp) (.inl (setResv_account _ _))

theorem execAdmissionWindowExpiry_scope (h : execAdmissionWindowExpiry s = .next t) :
    Scope .admissionWindowExpiry s t := by
  unfold execAdmissionWindowExpiry at h
  repeat' split at h
  · exact settle_scope h (admitResv_scope s)
  · exact unchanged_scope h
  · exact unchanged_scope h

theorem execPulseExpiry_scope {marker : Marker} (h : execPulseExpiry marker s = .next t) :
    Scope (.pulseExpiry marker) s t := by
  unfold execPulseExpiry at h
  split at h
  · exact settle_scope h (.of_kept rfl (.inl rfl))
  · exact unchanged_scope h

theorem execDwellExpiry_scope (h : execDwellExpiry s = .next t) : Scope .dwellExpiry s t := by
  unfold execDwellExpiry at h
  split at h
  · exact settle_scope h (.of_kept (endSegment_named s) (endSegment_posts s))
  · exact unchanged_scope h

theorem execWaitTimeout_scope (h : execWaitTimeout s = .next t) : Scope .waitTimeout s t := by
  unfold execWaitTimeout at h
  split at h
  · exact settle_scope h (.of_kept (endSegment_named _) ((endSegment_posts _).after (onFlags_account _ _)))
  · exact unchanged_scope h

/-! ### Arrivals at the hoist signals and the load cell -/

/-- A fault cause stores no record: the dip stays in hand in FAULT (R43, R44). -/
theorem faultCause_scope (code : FaultCode) (hu : Scope c s u) : Scope c s (faultCause code u) := by
  refine ⟨hu.within.before (faultCause_named u code), ?_⟩
  simpa [DrawnByRecord] using hu.drawn

theorem execMotionLimitExpiry_scope (h : execMotionLimitExpiry s = .next t) : Scope .motionLimitExpiry s t := by
  unfold execMotionLimitExpiry at h
  repeat' split at h
  · exact unchanged_scope h
  · exact settle_scope h (faultCause_scope _ (.refl s))
  · exact unchanged_scope h

theorem execDriveLostExpiry_scope (h : execDriveLostExpiry s = .next t) : Scope .driveLostExpiry s t := by
  unfold execDriveLostExpiry at h
  repeat' split at h
  · exact unchanged_scope h
  · exact settle_scope h (faultCause_scope _ (.refl s))
  · exact unchanged_scope h

theorem execDriveReadyEdge_scope {a b : Bool} (h : execDriveReadyEdge a b s = .next t) :
    Scope (.driveReadyEdge a b) s t := by
  unfold execDriveReadyEdge at h
  split at h
  · exact unchanged_scope h
  · exact settle_scope h ⟨rfl, .inl rfl⟩

theorem execHaltEdge_scope {a b : Bool} (h : execHaltEdge a b s = .next t) : Scope (.haltEdge a b) s t := by
  unfold execHaltEdge at h
  split at h
  · exact unchanged_scope h
  · exact settle_scope h ⟨rfl, .inl rfl⟩

theorem execDriveFaultEdge_scope {a b : Bool} (h : execDriveFaultEdge a b s = .next t) :
    Scope (.driveFaultEdge a b) s t := by
  unfold execDriveFaultEdge setDriveFault at h
  split at h
  · exact unchanged_scope h
  · rename_i level _
    have hlevel : Scope (.driveFaultEdge a b) s (s.onHif fun x => { x with driveFault := some level }) := ⟨rfl, .inl rfl⟩
    dsimp only at h
    split at h
    · exact settle_scope h (faultCause_scope _ hlevel)
    · exact settle_scope h hlevel

theorem execFirstFilteredLevel_scope {i : DiscreteInput} {a b : Bool}
    (h : execFirstFilteredLevel i a b s = .next t) : Scope (.firstFilteredLevel i a b) s t := by
  unfold execFirstFilteredLevel at h
  split at h
  · exact unchanged_scope h
  · exact settle_scope h ⟨by cases i <;> rfl, .inl rfl⟩

theorem raiseTrigger_named (k : Trigger) (rising : Bool) (s : State) : (raiseTrigger k rising s).named = s.named := by
  unfold raiseTrigger
  split <;> rfl

theorem raiseTrigger_account (k : Trigger) (rising : Bool) (s : State) :
    (raiseTrigger k rising s).account = s.account := by
  unfold raiseTrigger
  split <;> rfl

/-- An edge of a trigger writes its level, and may end the dip with the wait that it ends (R84). -/
theorem takeEdge_scope (k : Trigger) (a b rising : Bool) (s : State) :
    Scope (.triggerEdge k a b) s (takeEdge k rising s) := by
  have hlatch : Within (.triggerEdge k a b) s (raiseTrigger k rising (latchEdge k rising s)) :=
    Within.before (t := latchEdge k rising s) (by cases k <;> rfl) (raiseTrigger_named _ _ _)
  have haccount : (raiseTrigger k rising (latchEdge k rising s)).account = s.account := raiseTrigger_account _ _ _
  unfold takeEdge
  dsimp only
  split
  · exact ⟨hlatch.before (endSegment_named _), ((endSegment_posts _).after haccount).drawnByRecord⟩
  · exact ⟨hlatch, .inl (congrArg Account.drawn haccount)⟩

theorem execTriggerEdge_scope {k : Trigger} {a b : Bool} (h : execTriggerEdge k a b s = .next t) :
    Scope (.triggerEdge k a b) s t := by
  unfold execTriggerEdge at h
  split at h
  · exact unchanged_scope h
  · exact settle_scope h (takeEdge_scope k a b _ s)

theorem mendExitWet_named (s t : State) : (mendExitWet s t).named = t.named := by
  unfold mendExitWet
  split <;> rfl

theorem mendExitWet_account (s t : State) : (mendExitWet s t).account = t.account := by
  unfold mendExitWet
  split
  · exact onFlags_account _ _
  · rfl

theorem testImmersion_named (s : State) : (testImmersion s).named = s.named := by
  unfold testImmersion
  split <;> rfl

theorem testImmersion_account (s : State) : (testImmersion s).account = s.account := by
  unfold testImmersion
  split
  · exact onDip_account _ _
  · rfl

theorem admHookUpdate_account (s : State) : (admHookUpdate s).account = s.account := by simp [State.account]

/-- The receivers of a hook-height update write none of the named registers, in either order (R74). -/
theorem hookUpdate_kept (s : State) : (hookUpdate s).named = s.named ∧ Posts s (hookUpdate s) := by
  have hstart : (testImmersion s.nextFree).account = s.account := testImmersion_account _
  unfold hookUpdate hookUpdateWith
  dsimp only
  split
  · refine ⟨?_, (sgxHookUpdate_posts _).after ((admHookUpdate_account _).trans hstart)⟩
    rw [sgxHookUpdate_named, admHookUpdate_named, testImmersion_named, nextFree_named]
  · refine ⟨?_, ((sgxHookUpdate_posts _).after hstart).before
      ((mendExitWet_account _ _).trans (admHookUpdate_account _))⟩
    rw [mendExitWet_named, admHookUpdate_named, sgxHookUpdate_named, testImmersion_named, nextFree_named]

theorem execEncoderRead_scope {start : Bool} {height : BitVec 16} {parity : Bool}
    (h : execEncoderRead start height parity s = .next t) : Scope (.encoderRead start height parity) s t := by
  have hcount : Scope (.encoderRead start height parity) s (countFailedRead s) := ⟨rfl, .inl rfl⟩
  unfold execEncoderRead failedRead at h
  split at h
  · obtain ⟨hnamed, hposts⟩ := hookUpdate_kept (takeHeight height.toNat s)
    exact settle_scope h ⟨Within.before (t := takeHeight height.toNat s) rfl hnamed,
      (hposts.after rfl).drawnByRecord⟩
  · split at h
    · exact settle_scope h (faultCause_scope _ hcount)
    · exact settle_scope h hcount

theorem setWeighing_kept (f : Wgu → Option WeighOp) (s : State) :
    (s.onWgu fun w => { w with op := f w }).named = s.named
      ∧ (s.onWgu fun w => { w with op := f w }).account = s.account := ⟨rfl, rfl⟩

/-- A retained sample enters the window, and may be the last that a weigh operation waits for (R90, R94). -/
theorem takeSample_scope {raw : BitVec 24} (x : Sample) (s : State) : Scope (.rawSample raw) s (takeSample x s) := by
  have hpush : Within (.rawSample raw) s (pushWindow x s) := rfl
  have hset : ∀ f : Wgu → Option WeighOp,
      Scope (.rawSample raw) (pushWindow x s) ((pushWindow x s).onWgu fun w => { w with op := f w }) := fun f =>
    .of_kept (setWeighing_kept f _).1 (.inl (setWeighing_kept f _).2)
  unfold takeSample settleSample averageSample
  dsimp only
  refine Scope.after ?_ hpush rfl
  repeat' split
  · exact .refl _
  · exact hset _
  · exact .of_kept (deliverSamples_named _ _ _) (deliverSamples_posts _ _ _)
  · exact hset _

theorem execRawSample_scope {raw : BitVec 24} (h : execRawSample raw s = .next t) : Scope (.rawSample raw) s t := by
  unfold execRawSample takeRaw at h
  repeat' split at h
  · exact settle_scope h ((takeSample_scope _ _).after (.of_eq (clearDivider_kept s).1) (clearDivider_kept s).2)
  · exact settle_scope h (.of_kept rfl (.inl rfl))
  · exact unchanged_scope h

theorem execSettleTimeout_scope (h : execSettleTimeout s = .next t) : Scope .settleTimeout s t := by
  unfold execSettleTimeout at h
  repeat' split at h
  · exact unchanged_scope h
  · exact unchanged_scope h
  · exact settle_scope h (.of_kept (deliverSamples_named _ _ _) (deliverSamples_posts _ _ _))
  · exact unchanged_scope h

/-! ### Arrivals at the kettle line and the peer table -/

theorem lineLostOccurs_account (k : LineLostCause) (s : State) : (lineLostOccurs k s).account = s.account := by
  simp [State.account]

theorem execTransmitAttemptStart_scope (h : execTransmitAttemptStart s = .next t) : Scope .transmitAttemptStart s t := by
  unfold execTransmitAttemptStart at h
  split at h
  · exact settle_scope h ⟨rfl, .inl rfl⟩
  · exact unchanged_scope h

theorem execHeartbeatTimerExpiry_scope (h : execHeartbeatTimerExpiry s = .next t) : Scope .heartbeatTimerExpiry s t := by
  unfold execHeartbeatTimerExpiry at h
  repeat' split at h
  · exact unchanged_scope h
  · exact settle_scope h ⟨.of_eq (raiseState_named _), .inl (by simp)⟩
  · exact unchanged_scope h

theorem execUnsentExpiry_scope (h : execUnsentExpiry s = .next t) : Scope .unsentExpiry s t := by
  unfold execUnsentExpiry at h
  repeat' split at h
  · exact unchanged_scope h
  · exact settle_scope h (.of_kept (lineLostOccurs_named _ _) (.inl (lineLostOccurs_account _ _)))
  · exact unchanged_scope h

theorem execPeerAgeing_scope {i : StationIx} (h : execPeerAgeing i s = .next t) : Scope (.peerAgeing i) s t := by
  unfold execPeerAgeing agePeer at h
  split at h
  · refine settle_scope h ⟨Within.before (t := s.setPeer i { s.peers.get i with presence := .stale }) rfl ?_, ?_⟩
    · exact tableChange_named _ _
    · exact ((tableChange_posts _ none).after rfl).drawnByRecord
  · exact unchanged_scope h

/-- A failed attempt is counted, and may begin LINE_LOST (R118, R128). -/
theorem attemptFailed_within
    (hc : ∀ a n, Named.changedBy c a { a with failures := n } = { a with failures := n }) :
    Within c s (attemptFailed s) := by
  have hcount : Within c s (s.onKli fun k => { k with failures := saturate 255 (k.failures + 1) }) :=
    (hc s.named _).symm
  unfold attemptFailed
  dsimp only
  split
  · exact hcount.before (lineLostOccurs_named _ _)
  · exact hcount

theorem attemptFailed_account (s : State) : (attemptFailed s).account = s.account := by simp [State.account]

theorem execBitReadBackMismatch_scope {n : Nat} {dominant : Bool} (h : execBitReadBackMismatch n dominant s = .next t) :
    Scope (.bitReadBackMismatch n dominant) s t := by
  unfold execBitReadBackMismatch stopAttempt at h
  split at h
  · exact unchanged_scope h
  · rename_i a _
    have hstop : Within (.bitReadBackMismatch n dominant) s
        (s.onKli fun k => { k with attempt := some { a with status := judgeMismatch n dominant } }) := rfl
    dsimp only at h
    repeat' split at h
    · exact settle_scope h ⟨hstop.trans (attemptFailed_within fun _ _ => rfl),
        .inl (congrArg Account.drawn (attemptFailed_account _))⟩
    · exact settle_scope h ⟨hstop, .inl rfl⟩
    · exact unchanged_scope h

/-! #### The end of a notice (R115 to R123) -/

section Notice

variable {bytes : List Byte} {spoiled : Bool}

/-- A peer's STATE moves the inventory but no own counter (R151 to R154). -/
theorem invPeerState_account (first : Bool) (new last : Announced) (s : State) :
    (invPeerState first new last s).account = s.account := by
  have hdrawn : (invPeerState first new last s).inv.drawn = s.inv.drawn := by
    unfold invPeerState
    split
    · simp [invArrive_drawn, Inv.adopt, Inv.shift]
    · simp [invArrive_drawn, Inv.shift]
  simp [State.account, hdrawn]

theorem storeState_scope (i : StationIx) (a : Announced) (s : State) :
    Scope (.noticeEnd bytes spoiled) s (storeState i a s) := by
  let e := s.peers.get i
  let first := decide (e.presence = .absent)
  let v := s.setPeer i (e.store s.settings.zoneCount s.sck a)
  have hv : Within (.noticeEnd bytes spoiled) s v := rfl
  have hn : (tableChange (some i) (invPeerState first a e.heard v)).named = v.named := by
    rw [tableChange_named, invPeerState_named]
  have hp : Posts s (tableChange (some i) (invPeerState first a e.heard v)) :=
    (tableChange_posts _ _).after (invPeerState_account _ _ _ _)
  unfold storeState
  dsimp only
  split
  · exact ⟨hv.before hn, (hp.before (raiseEvent_account _ _)).drawnByRecord⟩
  · exact ⟨hv.before hn, hp.drawnByRecord⟩

theorem receiveNotice_scope (bytes' : List Byte) (spoiled' : Bool) (s : State) :
    Scope (.noticeEnd bytes spoiled) s (receiveNotice bytes' spoiled' s) := by
  unfold receiveNotice storeLeave
  repeat' split
  · exact ⟨rfl, .inl rfl⟩
  · exact .of_kept (lineLostOccurs_named _ _) (.inl (lineLostOccurs_account _ _))
  · exact .refl s
  · exact dropPeer_scope _ rfl
  · exact storeState_scope _ _ s
  · exact .refl s

theorem leaveSent_scope (reported : Bool) (s : State) : Scope (.noticeEnd bytes spoiled) s (leaveSent reported s) := by
  let v := dropAttempt (s.onKli fun k => { k with failures := 0 })
  have hv : Within (.noticeEnd bytes spoiled) s v := rfl
  unfold leaveSent
  dsimp only
  repeat' split
  · exact (restartClear_scope fun _ _ _ _ _ => rfl).after (t := v.onKli fun k => { k with leaveRequest := false }) hv rfl
  · exact ⟨rfl, .inl rfl⟩
  · exact ⟨hv, .inl rfl⟩

theorem lineBack_account (s : State) : (lineBack s).account = s.account := by simp [State.account]

theorem stateSent_scope (contents : Announced) (reported : Bool) (s : State) :
    Scope (.noticeEnd bytes spoiled) s (stateSent contents reported s) := by
  let v := s.onKli fun k =>
    { k with failures := 0, attempt := none, stateRequest := k.lateRaise, lateRaise := none, heartbeat := some 0 }
  let w := v.setPeer v.own { v.peers.get v.own with time := v.sck }
  have hw : Within (.noticeEnd bytes spoiled) s w := rfl
  have hreport : (admCompletion contents (zcuCompletion contents w)).account = s.account := by
    simp [State.account, w, v]
  unfold stateSent
  dsimp only
  split
  · exact ⟨hw.before (by rw [lineBack_named, admCompletion_named, zcuCompletion_named]),
      .inl (congrArg Account.drawn ((lineBack_account _).trans hreport))⟩
  · exact ⟨hw.before (lineBack_named _), .inl (congrArg Account.drawn (lineBack_account w))⟩

theorem attemptSucceeded_scope (a : Attempt) (s : State) :
    Scope (.noticeEnd bytes spoiled) s (attemptSucceeded a s) := by
  unfold attemptSucceeded
  split
  · exact leaveSent_scope _ s
  · exact stateSent_scope _ _ s

theorem endNotice_scope (s : State) : Scope (.noticeEnd bytes spoiled) s (endNotice bytes spoiled s) := by
  have hdrop : Within (.noticeEnd bytes spoiled) s (dropAttempt s) := rfl
  unfold endNotice
  repeat' split
  · exact ⟨rfl, .inl rfl⟩
  · exact receiveNotice_scope _ _ s
  · exact attemptSucceeded_scope _ s
  · exact (receiveNotice_scope _ _ _).after hdrop rfl
  · exact (receiveNotice_scope _ _ _).after (hdrop.trans (attemptFailed_within fun _ _ => rfl))
      (attemptFailed_account _)
  · exact (receiveNotice_scope _ _ _).after hdrop rfl

theorem execNoticeEnd_scope (h : execNoticeEnd bytes spoiled s = .next t) : Scope (.noticeEnd bytes spoiled) s t :=
  settle_scope h (endNotice_scope s)

end Notice

/-! ### Every command -/

/-- No command but hardware reset writes a named register outside the table (O18). -/
theorem exec_scope (hc : c ≠ .hardwareReset) (h : exec c s = .next t) : Scope c s t := by
  cases c with
  | hardwareReset => exact absurd rfl hc
  | loadBegin => exact execLoadBegin_scope h
  | loadData => exact execLoadData_scope h
  | loadEnd => exact execLoadEnd_scope h
  | validationEnd => exact execValidationEnd_scope h
  | loadTimerExpiry => exact execLoadTimerExpiry_scope h
  | listenTimerExpiry => exact execListenTimerExpiry_scope h
  | getStatus => exact execGetStatus_scope h
  | dip => exact execDip_scope h
  | cancelJob => exact execCancelJob_scope h
  | abortDip => exact execAbortDip_scope h
  | recover => exact execRecover_scope h
  | setLevel => exact execSetLevel_scope h
  | addZinc => exact execAddZinc_scope h
  | removeDross => exact execRemoveDross_scope h
  | readRecord => exact execReadRecord_scope h
  | peekRecord => exact execPeekRecord_scope h
  | readPeer => exact execReadPeer_scope h
  | forgetPeer => exact execForgetPeer_scope h
  | setEventEnable => exact execSetEventEnable_scope h
  | clearEvents => exact execClearEvents_scope h
  | restart => exact execRestart_scope h
  | idleFrame => exact execIdleFrame_scope h
  | unknownCommand => exact execUnknownCommand_scope h
  | restartTimerExpiry => exact execRestartTimerExpiry_scope h
  | jobStart => exact execJobStart_scope h
  | rawSample => exact execRawSample_scope h
  | settleTimeout => exact execSettleTimeout_scope h
  | encoderRead => exact execEncoderRead_scope h
  | driveReadyEdge => exact execDriveReadyEdge_scope h
  | driveFaultEdge => exact execDriveFaultEdge_scope h
  | haltEdge => exact execHaltEdge_scope h
  | triggerEdge => exact execTriggerEdge_scope h
  | motionLimitExpiry => exact execMotionLimitExpiry_scope h
  | driveLostExpiry => exact execDriveLostExpiry_scope h
  | dwellExpiry => exact execDwellExpiry_scope h
  | waitTimeout => exact execWaitTimeout_scope h
  | pulseExpiry => exact execPulseExpiry_scope h
  | holdLimitExpiry => exact execHoldLimitExpiry_scope h
  | transmitAttemptStart => exact execTransmitAttemptStart_scope h
  | noticeEnd => exact execNoticeEnd_scope h
  | heartbeatTimerExpiry => exact execHeartbeatTimerExpiry_scope h
  | unsentExpiry => exact execUnsentExpiry_scope h
  | peerAgeing => exact execPeerAgeing_scope h
  | claimWindowExpiry => exact execClaimWindowExpiry_scope h
  | admissionWindowExpiry => exact execAdmissionWindowExpiry_scope h
  | stationClockTick => exact execStationClockTick_scope h
  | firstFilteredLevel => exact execFirstFilteredLevel_scope h
  | bitReadBackMismatch => exact execBitReadBackMismatch_scope h
  | csnFallingEdge => exact execCsnFallingEdge_scope h

end Sys2Proof.Machine
end

section
/-! PROOF. O18, read off from the table of the registers that a command may write. -/

namespace Sys2Proof.Machine

/-! ### The commands that the table names for a register -/

section Clauses

variable (c : Instr) (a b : Named)

theorem changedBy_added :
    (a.changedBy c b).added = a.added ∨ ∃ tail, c = .addZinc tail := by
  cases c with
  | addZinc tail => exact .inr ⟨tail, rfl⟩
  | _ => exact .inl rfl

theorem changedBy_removed :
    (a.changedBy c b).removed = a.removed ∨ ∃ tail, c = .removeDross tail := by
  cases c with
  | removeDross tail => exact .inr ⟨tail, rfl⟩
  | _ => exact .inl rfl

theorem changedBy_sck :
    (a.changedBy c b).sck = a.sck ∨ c = .stationClockTick := by
  cases c with
  | stationClockTick => exact .inr rfl
  | _ => exact .inl rfl

theorem changedBy_cfs :
    (a.changedBy c b).cfs = a.cfs ∨ c = .validationEnd := by
  cases c with
  | validationEnd => exact .inr rfl
  | _ => exact .inl rfl

theorem changedBy_enables :
    (a.changedBy c b).enables = a.enables ∨ ∃ tail, c = .setEventEnable tail := by
  cases c with
  | setEventEnable tail => exact .inr ⟨tail, rfl⟩
  | _ => exact .inl rfl

theorem changedBy_captured :
    (a.changedBy c b).captured = a.captured ∨ c = .csnFallingEdge := by
  cases c with
  | csnFallingEdge => exact .inr rfl
  | _ => exact .inl rfl

theorem changedBy_response :
    (a.changedBy c b).response = a.response ∨ (encodeFrame c).isSome = true ∨ c = .validationEnd := by
  cases c with
  | validationEnd => exact .inr (.inr rfl)
  | loadBegin | loadData | loadEnd | getStatus | dip | cancelJob | abortDip | recover | setLevel
  | addZinc | removeDross | readRecord | peekRecord | readPeer | forgetPeer | setEventEnable | clearEvents | restart
  | unknownCommand => exact .inr (.inl rfl)
  | _ => exact .inl rfl

theorem changedBy_load :
    (a.changedBy c b).load = a.load ∨ c = .validationEnd ∨ c = .loadTimerExpiry
      ∨ ∃ tail, c = .loadBegin tail ∨ c = .loadData tail := by
  cases c with
  | validationEnd => exact .inr (.inl rfl)
  | loadTimerExpiry => exact .inr (.inr (.inl rfl))
  | loadBegin tail => exact .inr (.inr (.inr ⟨tail, .inl rfl⟩))
  | loadData tail => exact .inr (.inr (.inr ⟨tail, .inr rfl⟩))
  | _ => exact .inl rfl

theorem changedBy_mode :
    (a.changedBy c b).mode = a.mode ∨ c = .validationEnd ∨ c = .loadTimerExpiry ∨ c = .listenTimerExpiry
      ∨ c = .restartTimerExpiry ∨ (∃ tail, c = .loadBegin tail) ∨ ∃ bytes spoiled, c = .noticeEnd bytes spoiled := by
  cases c with
  | validationEnd => exact .inr (.inl rfl)
  | loadTimerExpiry => exact .inr (.inr (.inl rfl))
  | listenTimerExpiry => exact .inr (.inr (.inr (.inl rfl)))
  | restartTimerExpiry => exact .inr (.inr (.inr (.inr (.inl rfl))))
  | loadBegin tail => exact .inr (.inr (.inr (.inr (.inr (.inl ⟨tail, rfl⟩)))))
  | noticeEnd bytes spoiled => exact .inr (.inr (.inr (.inr (.inr (.inr ⟨bytes, spoiled, rfl⟩)))))
  | _ => exact .inl rfl

theorem changedBy_hook :
    (a.changedBy c b).hook = a.hook ∧ (a.changedBy c b).hookValid = a.hookValid
        ∧ (a.changedBy c b).readFailures = a.readFailures
      ∨ ∃ start height parity, c = .encoderRead start height parity := by
  cases c with
  | encoderRead start height parity => exact .inr ⟨start, height, parity, rfl⟩
  | _ => exact .inl ⟨rfl, rfl, rfl⟩

/-- Only the input's own level is taken over. -/
theorem levelFrom_level (j i : DiscreteInput) : (Named.levelFrom j a b).level i = a.level i ∨ i = j := by
  by_cases h : i = j
  · exact .inr h
  · refine .inl ?_
    cases i <;> exact if_neg (Ne.symm h)

theorem changedBy_level (i : DiscreteInput) :
    (a.changedBy c b).level i = a.level i ∨ ∃ x y, c = .firstFilteredLevel i x y
      ∨ (i = .driveReady ∧ c = .driveReadyEdge x y) ∨ (i = .driveFault ∧ c = .driveFaultEdge x y)
      ∨ (i = .halt ∧ c = .haltEdge x y) ∨ (i = .t0 ∧ c = .triggerEdge .t0 x y)
      ∨ (i = .t1 ∧ c = .triggerEdge .t1 x y) := by
  cases c with
  | firstFilteredLevel j x y =>
    exact (levelFrom_level a b j i).imp_right fun hi => ⟨x, y, .inl (by rw [hi])⟩
  | driveReadyEdge x y =>
    exact (levelFrom_level a b .driveReady i).imp_right fun hi => ⟨x, y, .inr (.inl ⟨hi, rfl⟩)⟩
  | driveFaultEdge x y =>
    exact (levelFrom_level a b .driveFault i).imp_right fun hi => ⟨x, y, .inr (.inr (.inl ⟨hi, rfl⟩))⟩
  | haltEdge x y =>
    exact (levelFrom_level a b .halt i).imp_right fun hi => ⟨x, y, .inr (.inr (.inr (.inl ⟨hi, rfl⟩)))⟩
  | triggerEdge k x y =>
    refine (levelFrom_level a b (triggerInput k) i).imp_right fun hi => ⟨x, y, .inr (.inr (.inr (.inr ?_)))⟩
    cases k with
    | t0 => exact .inl ⟨hi, rfl⟩
    | t1 => exact .inr ⟨hi, rfl⟩
  | _ => exact .inl rfl

theorem changedBy_attempt :
    (a.changedBy c b).attempt = a.attempt ∨ c = .transmitAttemptStart ∨ c = .restartTimerExpiry
      ∨ (∃ n dominant, c = .bitReadBackMismatch n dominant) ∨ ∃ bytes spoiled, c = .noticeEnd bytes spoiled := by
  cases c with
  | transmitAttemptStart => exact .inr (.inl rfl)
  | restartTimerExpiry => exact .inr (.inr (.inl rfl))
  | bitReadBackMismatch n dominant => exact .inr (.inr (.inr (.inl ⟨n, dominant, rfl⟩)))
  | noticeEnd bytes spoiled => exact .inr (.inr (.inr (.inr ⟨bytes, spoiled, rfl⟩)))
  | _ => exact .inl rfl

theorem changedBy_failures :
    (a.changedBy c b).failures = a.failures
      ∨ (∃ n dominant, c = .bitReadBackMismatch n dominant) ∨ ∃ bytes spoiled, c = .noticeEnd bytes spoiled := by
  cases c with
  | bitReadBackMismatch n dominant => exact .inr (.inl ⟨n, dominant, rfl⟩)
  | noticeEnd bytes spoiled => exact .inr (.inr ⟨bytes, spoiled, rfl⟩)
  | _ => exact .inl rfl

theorem changedBy_discards :
    (a.changedBy c b).discards = a.discards ∧ (a.changedBy c b).hunting = a.hunting
      ∨ ∃ bytes spoiled, c = .noticeEnd bytes spoiled := by
  cases c with
  | noticeEnd bytes spoiled => exact .inr ⟨bytes, spoiled, rfl⟩
  | _ => exact .inl ⟨rfl, rfl⟩

theorem changedBy_peers :
    (a.changedBy c b).peers = a.peers ∨ c = .validationEnd ∨ c = .restartTimerExpiry ∨ (∃ i, c = .peerAgeing i)
      ∨ (∃ tail, c = .forgetPeer tail) ∨ ∃ bytes spoiled, c = .noticeEnd bytes spoiled := by
  cases c with
  | validationEnd => exact .inr (.inl rfl)
  | restartTimerExpiry => exact .inr (.inr (.inl rfl))
  | peerAgeing i => exact .inr (.inr (.inr (.inl ⟨i, rfl⟩)))
  | forgetPeer tail => exact .inr (.inr (.inr (.inr (.inl ⟨tail, rfl⟩))))
  | noticeEnd bytes spoiled => exact .inr (.inr (.inr (.inr (.inr ⟨bytes, spoiled, rfl⟩))))
  | _ => exact .inl rfl

theorem changedBy_window :
    (a.changedBy c b).window = a.window ∨ ∃ raw, c = .rawSample raw := by
  cases c with
  | rawSample raw => exact .inr ⟨raw, rfl⟩
  | _ => exact .inl rfl

theorem changedBy_queue :
    (a.changedBy c b).queue = a.queue ∨ c = .jobStart ∨ c = .restartTimerExpiry
      ∨ (∃ tail, c = .dip tail ∨ c = .cancelJob tail) ∨ ∃ bytes spoiled, c = .noticeEnd bytes spoiled := by
  cases c with
  | jobStart => exact .inr (.inl rfl)
  | restartTimerExpiry => exact .inr (.inr (.inl rfl))
  | dip tail => exact .inr (.inr (.inr (.inl ⟨tail, .inl rfl⟩)))
  | cancelJob tail => exact .inr (.inr (.inr (.inl ⟨tail, .inr rfl⟩)))
  | noticeEnd bytes spoiled => exact .inr (.inr (.inr (.inr ⟨bytes, spoiled, rfl⟩)))
  | _ => exact .inl rfl

/-- The queue of waiting commands is no command's (log 3). -/
theorem changedBy_pending : (a.changedBy c b).pending = a.pending := by cases c <;> rfl

end Clauses

theorem named_level (s : State) (i : DiscreteInput) : s.named.level i = s.inputLevel i := by cases i <;> rfl

/-- Settles O18: every command keeps to the table (`exec_scope`), and the table names for each register the commands of the
statement. -/
theorem namedRegistersHaveTheirCauses : Obligations.NamedRegistersHaveTheirCauses := by
  intro c s t hc h
  obtain ⟨(hn : t.named = s.named.changedBy c t.named), hdrawn⟩ := exec_scope hc h
  have hlevel : ∀ i, t.inputLevel i = (s.named.changedBy c t.named).level i := fun i => by
    rw [← named_level, ← hn]
  have field {α : Type} (f : Named → α) : f t.named = f (s.named.changedBy c t.named) := congrArg f hn
  let b := t.named
  exact ⟨(changedBy_added c s.named b).imp_left (field Named.added).trans,
    (changedBy_removed c s.named b).imp_left (field Named.removed).trans,
    hdrawn,
    (changedBy_sck c s.named b).imp_left (field Named.sck).trans,
    (changedBy_cfs c s.named b).imp_left (field Named.cfs).trans,
    (changedBy_enables c s.named b).imp_left (field Named.enables).trans,
    (changedBy_captured c s.named b).imp_left (field Named.captured).trans,
    (changedBy_response c s.named b).imp_left (field Named.response).trans,
    (changedBy_load c s.named b).imp_left (field Named.load).trans,
    (changedBy_mode c s.named b).imp_left (field Named.mode).trans,
    (changedBy_hook c s.named b).imp_left fun ⟨hk, hv, hr⟩ =>
      ⟨(field Named.hook).trans hk, (field Named.hookValid).trans hv, (field Named.readFailures).trans hr⟩,
    fun i => (changedBy_level c s.named b i).imp_left fun hi => (hlevel i).trans (hi.trans (named_level s i)),
    (changedBy_attempt c s.named b).imp_left (field Named.attempt).trans,
    (changedBy_failures c s.named b).imp_left (field Named.failures).trans,
    (changedBy_discards c s.named b).imp_left fun ⟨hd, hh⟩ =>
      ⟨(field Named.discards).trans hd, (field Named.hunting).trans hh⟩,
    (changedBy_peers c s.named b).imp_left (field Named.peers).trans,
    (changedBy_window c s.named b).imp_left (field Named.window).trans,
    (changedBy_queue c s.named b).imp_left (field Named.queue).trans,
    (field Named.pending).trans (changedBy_pending c s.named b)⟩

end Sys2Proof.Machine
end

section
/-! SUPPORT. The figures of the inventory and of the surface (R7, R11, R14, R148, R181): the registers that the invariants of M,
L and the surface read, and the few ways in which a command moves them. -/

namespace Sys2Proof.Machine

/-! ### The figures -/

/-- The sum of the displacements that the other entries announce (R11). -/
def State.othersActual (s : State) : Nat := (s.heardOthers.map fun p => p.2.heard.actual).sum

/-- The registers that `InventoryWf` and `SurfaceWf` read. -/
structure Figures where
  cfs          : Option Settings
  mass         : Nat
  level        : Nat
  othersActual : Nat
  without      : Nat
  actual       : Nat
  surface      : Nat

/-- The figures of a state. -/
def State.figures (s : State) : Figures :=
  { cfs := s.cfs, mass := s.inv.mass, level := s.inv.level, othersActual := s.othersActual, without := s.adm.without
    actual := s.adm.actual, surface := s.adm.surface }

/-- `InventoryWf` on the figures (R7, R148). -/
def Figures.InventoryOk (g : Figures) : Prop :=
  g.mass ≤ maxInventory ∧ g.level = levelOf (g.cfs.getD Settings.blank).area g.mass

/-- `SurfaceWf` on the figures (R11, R14). -/
def Figures.SurfaceOk (g : Figures) : Prop :=
  g.without = saturate maxLevel (g.level + g.othersActual) ∧ g.surface = surfaceEstimate g.without g.actual

theorem inventoryWf_iff (s : State) : InventoryWf s ↔ s.figures.InventoryOk := Iff.rfl
theorem surfaceWf_iff (s : State) : SurfaceWf s ↔ s.figures.SurfaceOk := Iff.rfl

variable {s t u : State}

theorem own_congr (hc : t.cfs = s.cfs) : t.own = s.own := by
  rw [State.own, State.settings, hc]
  rfl

/-- The other entries are read from the table and the own station number. -/
theorem heardOthers_congr (hc : t.cfs = s.cfs) (hp : t.peers = s.peers) : t.heardOthers = s.heardOthers := by
  rw [State.heardOthers, State.others, hp, own_congr hc]
  rfl

/-- What leaves the configuration, the table, the Inventory Unit and the Admission Unit leaves the figures. -/
theorem figures_congr (hc : t.cfs = s.cfs) (hp : t.peers = s.peers) (hi : t.inv = s.inv) (ha : t.adm = s.adm) :
    t.figures = s.figures := by
  simp only [State.figures, State.othersActual, heardOthers_congr hc hp, hc, hi, ha]

/-- An own entry is no other station's: its change leaves the figures. -/
theorem setPeer_own_figures (s : State) (e : PeerEntry) : (s.setPeer s.own e).figures = s.figures := by
  have hothers : (s.setPeer s.own e).others = s.others := by
    have hget : ∀ i : StationIx, i ≠ s.own → (s.peers.set s.own e).get i = s.peers.get i := fun i hi => by
      have := Vector.getElem_set_ne (xs := s.peers) (x := e) s.own.isLt i.isLt (fun h => hi (Fin.ext h.symm))
      simpa [Vector.get_eq_getElem] using this
    refine List.map_congr_left fun i hi => ?_
    have hne : i ≠ s.own := by simpa using (List.mem_filter.mp hi).2
    exact congrArg (Prod.mk i) (hget i hne)
  have hheard : (s.setPeer s.own e).heardOthers = s.heardOthers := by rw [State.heardOthers, hothers]; rfl
  show { s.figures with othersActual := (s.setPeer s.own e).othersActual } = s.figures
  rw [State.othersActual, hheard]
  rfl

/-! ### Operations that leave the figures -/

section Kept

variable (s)

@[simp] theorem onCpt_figures (f : Cpt → Cpt) : (s.onCpt f).figures = s.figures := rfl
@[simp] theorem onKli_figures (f : Kli → Kli) : (s.onKli f).figures = s.figures := rfl
@[simp] theorem onZcu_figures (f : Zcu → Zcu) : (s.onZcu f).figures = s.figures := rfl
@[simp] theorem onDcc_figures (f : Dcc → Dcc) : (s.onDcc f).figures = s.figures := rfl
@[simp] theorem onSgx_figures (f : Sgx → Sgx) : (s.onSgx f).figures = s.figures := rfl
@[simp] theorem onHif_figures (f : Hif → Hif) : (s.onHif f).figures = s.figures := rfl
@[simp] theorem onWgu_figures (f : Wgu → Wgu) : (s.onWgu f).figures = s.figures := rfl
@[simp] theorem onAcu_figures (f : Acu → Acu) : (s.onAcu f).figures = s.figures := rfl
@[simp] theorem nextFree_figures : s.nextFree.figures = s.figures := rfl
@[simp] theorem raiseEvent_figures (e : Event) : (raiseEvent e s).figures = s.figures := rfl
@[simp] theorem respond_figures (r : ResultCode) (data : List Byte) : (respond r data s).figures = s.figures := rfl
@[simp] theorem drivePins_figures : (drivePins s).figures = s.figures := rfl
@[simp] theorem formFull_figures (n : Nat) : (formFull n s).figures = s.figures := rfl
@[simp] theorem weighRequest_figures : (weighRequest s).figures = s.figures := rfl
@[simp] theorem dropWeigh_figures : (dropWeigh s).figures = s.figures := rfl
@[simp] theorem markersLow_figures : (markersLow s).figures = s.figures := rfl
@[simp] theorem dropSegment_figures : (dropSegment s).figures = s.figures := rfl
@[simp] theorem dropRecipe_figures : (dropRecipe s).figures = s.figures := rfl
@[simp] theorem takeCall_figures (g : Segment) (k : Nat) : (takeCall g k s).figures = s.figures := rfl

@[simp] theorem raiseState_figures : (raiseState s).figures = s.figures := by
  apply figures_congr <;> simp
@[simp] theorem raiseStateIf_figures (c : Bool) : (raiseStateIf c s).figures = s.figures := by
  apply figures_congr <;> simp
@[simp] theorem setStage_figures (st : Stage) : (setStage st s).figures = s.figures := by
  apply figures_congr <;> simp
@[simp] theorem waitHold_figures (r : HoldReason) : (waitHold r s).figures = s.figures := by
  apply figures_congr <;> simp
@[simp] theorem endHold_figures : (endHold s).figures = s.figures := by
  apply figures_congr <;> simp
@[simp] theorem startLeg_figures (r : Running) : (startLeg r s).figures = s.figures := by
  apply figures_congr <;> simp
@[simp] theorem startSegment_figures (g : Segment) : (startSegment g s).figures = s.figures := by
  apply figures_congr <;> simp
@[simp] theorem handStage_figures (p : Phase) : (handStage p s).figures = s.figures := by
  apply figures_congr <;> simp
@[simp] theorem enterWeighExit_figures : (enterWeighExit s).figures = s.figures := by
  apply figures_congr <;> simp
@[simp] theorem enterWeighDrained_figures : (enterWeighDrained s).figures = s.figures := by
  apply figures_congr <;> simp
@[simp] theorem enterFault_figures (c : FaultCode) : (enterFault c s).figures = s.figures := by
  apply figures_congr <;> simp
@[simp] theorem faultCause_figures (c : FaultCode) : (faultCause c s).figures = s.figures := by
  apply figures_congr <;> simp
@[simp] theorem setClaim_figures (c : ClaimState) (m : Mask) : (setClaim c m s).figures = s.figures := by
  apply figures_congr <;> simp
@[simp] theorem testClaim_figures : (testClaim s).figures = s.figures := by
  apply figures_congr <;> simp
@[simp] theorem releaseClaim_figures : (releaseClaim s).figures = s.figures := by
  apply figures_congr <;> simp
@[simp] theorem zcuLineChanged_figures : (zcuLineChanged s).figures = s.figures := by
  apply figures_congr <;> simp
@[simp] theorem zcuCompletion_figures (c : Announced) : (zcuCompletion c s).figures = s.figures := by
  apply figures_congr <;> simp
@[simp] theorem reviewPending_figures (i : StationIx) : (reviewPending i s).figures = s.figures := by
  apply figures_congr <;> simp
@[simp] theorem reviewHeld_figures (i : StationIx) : (reviewHeld i s).figures = s.figures := by
  apply figures_congr <;> simp
@[simp] theorem checkFlag_figures (l : List (StationIx × PeerEntry)) : (checkFlag l s).figures = s.figures := by
  apply figures_congr <;> simp
@[simp] theorem logRecord_figures (r : DipRecord) : (logRecord r s).figures = s.figures := by
  apply figures_congr <;> simp

/-- The low flag is none of the figures (R157). -/
@[simp] theorem lowTest_figures : (lowTest s).figures = s.figures := by
  unfold lowTest
  dsimp only
  split <;> rfl

/-! #### The reservation: its state, its gate and F are none of the figures (R173 to R184) -/

@[simp] theorem onAdm_resv_figures (r : ResvState) : (s.onAdm fun a => { a with resv := r }).figures = s.figures := rfl
@[simp] theorem onAdm_gate_figures (b : Bool) : (s.onAdm fun a => { a with gateClosed := b }).figures = s.figures := rfl

@[simp] theorem setResv_figures (r : ResvState) : (setResv r s).figures = s.figures := by
  have hreport : ∀ v : State, (reportResv v).figures = v.figures := fun v => by apply figures_congr <;> simp
  rw [setResv, hreport, raiseStateIf_figures, onAdm_resv_figures]

@[simp] theorem testResv_figures : (testResv s).figures = s.figures := by
  unfold testResv
  split <;> exact setResv_figures _ _

@[simp] theorem reviewResv_figures : (reviewResv s).figures = s.figures := by
  unfold reviewResv
  repeat' split
  all_goals simp

@[simp] theorem admLineLost_figures : (admLineLost s).figures = s.figures := by
  unfold admLineLost
  repeat' split
  all_goals simp

@[simp] theorem admLineBack_figures : (admLineBack s).figures = s.figures := by
  unfold admLineBack
  repeat' split
  all_goals simp

@[simp] theorem closeGate_figures : (closeGate s).figures = s.figures := by
  unfold closeGate
  dsimp only
  repeat' split
  all_goals simp

@[simp] theorem openGate_figures : (openGate s).figures = s.figures := by
  unfold openGate
  dsimp only
  repeat' split
  all_goals simp

@[simp] theorem releaseResv_figures : (releaseResv s).figures = s.figures := by simp [releaseResv]
@[simp] theorem enterAdmit_figures : (enterAdmit s).figures = s.figures := by simp [enterAdmit]

@[simp] theorem admCompletion_figures (c : Announced) : (admCompletion c s).figures = s.figures := by
  unfold admCompletion
  repeat' split
  all_goals simp

@[simp] theorem testClear_figures : (testClear s).figures = s.figures := by
  unfold testClear
  split <;> simp

/-! #### LINE_LOST and the yield (R37, R128 to R130, R169) -/

@[simp] theorem beginYield_figures : (beginYield s).figures = s.figures := by
  unfold beginYield
  dsimp only
  split <;> simp

@[simp] theorem lineLostOccurs_figures (c : LineLostCause) : (lineLostOccurs c s).figures = s.figures := by
  have hbegin : (beginLineLost c s).figures = s.figures := by simp [beginLineLost]
  unfold lineLostOccurs
  repeat' split
  · simp
  · rfl
  · exact hbegin

@[simp] theorem lineBack_figures : (lineBack s).figures = s.figures := by
  unfold lineBack
  split <;> simp

@[simp] theorem attemptFailed_figures : (attemptFailed s).figures = s.figures := by
  unfold attemptFailed
  dsimp only
  split <;> simp

end Kept

/-! ### The ways in which the figures move -/

/-- How a command moves the figures: not at all, by an arrival at the INV (R148), at the ADM by the own displacement (R181) or
the end of a dip (R34), by a change of the table with the refresh of the surface that follows it (R141), by a configuration
taken into force (R193), or by hardware reset (R188). -/
inductive Moves : State → State → Prop where
  | kept {s t : State} (h : t.figures = s.figures) : Moves s t
  | trans {s t u : State} (h : Moves s t) (h' : Moves t u) : Moves s u
  | arrival {s : State} (f : Inv → Inv) (h : ∀ v, (f v).mass ≤ maxInventory) : Moves s (invArrive f s)
  | displaced {s : State} (n : Nat) :
      Moves s (s.onAdm fun a => { a with actual := n, surface := surfaceEstimate a.without n })
  | cleared {s : State} : Moves s (clearFull s)
  | table {s s' u : State} (hc : s'.cfs = s.cfs) (hi : s'.inv = s.inv) (h : Moves s' u) : Moves s (refreshSurface u)
  | load {s : State} (c : Settings) (h : c.initialInventory ≤ maxInventory) : Moves s (loadPasses c s)
  | reset {s t : State} (h : t.figures = State.reset.figures) : Moves s t

theorem Moves.refl (s : State) : Moves s s := .kept rfl

/-- What comes before a move leaves the figures. -/
theorem Moves.after (h : Moves t u) (hst : t.figures = s.figures) : Moves s u := .trans (.kept hst) h

/-- What comes after a move leaves the figures. -/
theorem Moves.before (h : Moves s t) (htu : u.figures = t.figures) : Moves s u := .trans h (.kept htu)

end Sys2Proof.Machine
end

section
/-! SUPPORT. Every command moves the figures in the ways of `Moves`: the shared operations first, then the commands. -/

namespace Sys2Proof.Machine

variable {s t u : State}

/-! ### The Inventory Unit and the Admission Unit -/

theorem clampNat_le (top : Nat) (n : Int) : clampNat top n ≤ top := by
  unfold clampNat
  omega

/-- A change of M is clamped to its range (R148). -/
theorem shift_mass_le (delta : Int) (v : Inv) : (v.shift delta).mass ≤ maxInventory := clampNat_le _ _

/-- A sounding is saturated (R8). -/
theorem sound_mass_le (area own level : Nat) (v : Inv) : (v.sound area own level).mass ≤ maxInventory :=
  Nat.min_le_left _ _

/-- An adopted inventory is saturated (R154). -/
theorem adopt_mass_le (a : Announced) (v : Inv) : (v.adopt a).mass ≤ maxInventory := Nat.min_le_left _ _

theorem invPeerState_moves (first : Bool) (new last : Announced) (s : State) :
    Moves s (invPeerState first new last s) := by
  unfold invPeerState
  split
  · exact .before (.arrival _ fun _ => adopt_mass_le _ _) (raiseEvent_figures _ _)
  · exact .arrival _ fun _ => shift_mass_le _ _

theorem storeDip_moves (s : State) : Moves s (storeDip s) := by
  unfold storeDip
  split
  · exact .refl s
  · exact .after (.arrival _ fun _ => shift_mass_le _ _) (logRecord_figures _ _)

/-- With a job active and S formed, the own displacement is computed afresh, and the surface from it (R13, R181). -/
theorem admHookUpdate_moves (s : State) : Moves s (admHookUpdate s) := by
  refine .before (t := refreshActual s) ?_ (testClear_figures _)
  unfold refreshActual
  repeat' split
  · exact .refl s
  · exact .displaced _
  · exact .refl s

/-! ### The course of a dip -/

theorem finishDip_moves (s : State) : Moves s (finishDip s) := by
  have hstore : Moves s (storeDip (dropRecipe (markersLow (releaseResv (releaseClaim s))))) :=
    .after (storeDip_moves _) (by simp)
  exact .trans (hstore.before ((onDcc_figures _ _).trans (raiseEvent_figures _ _))) .cleared

theorem releaseDip_moves (s : State) : Moves s (releaseDip s) :=
  .before (.after (finishDip_moves _) (by simp)) (setStage_figures _ _)

theorem leavePhase_moves (p : Phase) (s : State) : Moves s (leavePhase p s) := by
  cases p with
  | depart => exact .after (releaseDip_moves _) (onSgx_figures _ _)
  | approach => exact .kept (by simp [leavePhase])
  | immerse => exact .kept rfl
  | soak => exact .kept rfl
  | withdraw => exact .kept (by simp [leavePhase])
  | drain => exact .kept (by simp [leavePhase])

/-- The walk of the Segment Executor moves the figures at the end of a dip only. -/
theorem sgxRun_moves (n : Nat) (s : State) : Moves s (sgxRun n s) :=
  sgxRun_keeps (P := Moves s) s (fun _ _ h => h.before (onSgx_figures _ _))
    (fun _ _ h => h.before (handStage_figures _ _)) (fun _ _ _ h => h.before (takeCall_figures _ _ _))
    (fun _ _ h => h.before (startSegment_figures _ _)) (fun _ _ h => h.trans (leavePhase_moves _ _))
    (fun _ _ h => h.before (waitHold_figures _ _)) n (.refl s)

theorem sgxGo_moves (s : State) : Moves s (sgxGo s) := sgxRun_moves sgxFuel s

theorem enterMotion_moves (p : Phase) (s : State) : Moves s (enterMotion p s) :=
  (sgxGo_moves _).after (handStage_figures _ _)

theorem endSegment_moves (s : State) : Moves s (endSegment s) := (sgxGo_moves _).after (dropSegment_figures _)

theorem sgxHookUpdate_moves (s : State) : Moves s (sgxHookUpdate s) := by
  unfold sgxHookUpdate
  repeat' split
  -- a MOVE; a SHAKE within both bands; its first, up and down legs; nothing that has a leg
  exacts [endSegment_moves s, .refl s, endSegment_moves s, .kept (by simp), .refl s, .kept (by simp), .refl s,
    endSegment_moves s, .kept (by simp), .refl s, .refl s]

/-! ### Weights delivered -/

theorem onDip_figures (f : Dip → Dip) (s : State) : (s.onDip f).figures = s.figures := rfl

theorem deliverDry_moves (mass : Nat) (unsettled overrange : Bool) (s : State) :
    Moves s (deliverDry mass unsettled overrange s) := by
  refine .kept ?_
  unfold deliverDry
  rw [testClaim_figures, setStage_figures, formFull_figures, onDip_figures]

theorem deliverExit_moves (mass : Nat) (unsettled overrange : Bool) (s : State) :
    Moves s (deliverExit mass unsettled overrange s) := by
  unfold deliverExit
  dsimp only
  split
  · exact .kept (by rw [enterWeighDrained_figures, onDip_figures])
  · exact (enterMotion_moves _ _).after (onDip_figures _ _)

theorem deliverDrained_moves (mass : Nat) (unsettled overrange : Bool) (s : State) :
    Moves s (deliverDrained mass unsettled overrange s) := (enterMotion_moves _ _).after (onDip_figures _ _)

theorem deliverSamples_moves (samples : List Sample) (unsettled : Bool) (s : State) :
    Moves s (deliverSamples samples unsettled s) := by
  refine Moves.after (t := dropWeigh s.nextFree) ?_ rfl
  unfold deliverSamples deliverWeight
  dsimp only
  split
  · exact deliverDry_moves _ _ _ _
  · exact deliverExit_moves _ _ _ _
  · exact deliverDrained_moves _ _ _ _
  · exact .refl _

/-! ### Table changes -/

theorem endYield_moves (s : State) : Moves s (endYield s) := by
  have h : (openGate (s.onZcu fun z => { z with yielding := false })).figures = s.figures := by simp
  unfold endYield
  dsimp only
  split
  · exact (sgxGo_moves _).after ((endHold_figures _).trans h)
  · exact .kept h

theorem conflictCheck_moves (s : State) : Moves s (conflictCheck s) := by
  unfold conflictCheck
  dsimp only
  repeat' split
  · exact .kept (checkFlag_figures _ _)
  · exact .kept (by simp)
  · exact (endYield_moves _).after (checkFlag_figures _ _)
  · exact .kept (checkFlag_figures _ _)

theorem zcuTableChange_moves (i : Option StationIx) (s : State) : Moves s (zcuTableChange i s) := by
  unfold zcuTableChange
  repeat' split
  · exact .refl s
  · exact .kept (testClaim_figures s)
  · exact .kept (reviewPending_figures _ _)
  · exact .refl s
  · exact (conflictCheck_moves _).after (reviewHeld_figures _ _)
  · exact conflictCheck_moves s

/-- A change of the table, what the INV makes of it, and the table change reported: the surface is refreshed within the
report, before the ZCU acts or after it (R136, R141, R181). -/
theorem tableChange_moves {s' : State} (hc : s'.cfs = s.cfs) (hi : s'.inv = s.inv) (h : Moves s' u)
    (i : Option StationIx) : Moves s (tableChange i u) := by
  have hfree : Moves s' u.nextFree := h.before (nextFree_figures u)
  unfold tableChange tableChangeWith
  split
  · exact ((Moves.table hc hi hfree).trans (zcuTableChange_moves _ _)).before (reviewResv_figures _)
  · exact (Moves.table hc hi (hfree.trans (zcuTableChange_moves _ _))).before (reviewResv_figures _)

theorem dropPeer_moves (i : StationIx) (s : State) : Moves s (dropPeer i s) :=
  tableChange_moves (s := s) (s' := s.setPeer i PeerEntry.empty) rfl rfl (.refl _) none

theorem agePeer_moves (i : StationIx) (s : State) : Moves s (agePeer i s) :=
  tableChange_moves (s := s) (s' := s.setPeer i { s.peers.get i with presence := .stale }) rfl rfl
    (.kept (raiseEvent_figures _ .peerStale)) none

theorem storeState_moves (i : StationIx) (a : Announced) (s : State) : Moves s (storeState i a s) := by
  have h : Moves s (tableChange (some i) (invPeerState (decide ((s.peers.get i).presence = .absent)) a
      (s.peers.get i).heard (s.setPeer i ((s.peers.get i).store s.settings.zoneCount s.sck a)))) :=
    tableChange_moves (s := s) (s' := s.setPeer i _) rfl rfl (invPeerState_moves _ _ _ _) _
  unfold storeState
  dsimp only
  split
  · exact h.before (raiseEvent_figures _ _)
  · exact h

/-- The clear of RESTART empties the other entries, and reports it (R145, R197). -/
theorem restartClear_moves (s : State) : Moves s (restartClear s) := by
  let v := (s.onKli (·.restart s.sck)).onDcc fun d => { d with queue := [] }
  let w : State := { markersLow v with peers := clearPeers s.own s.peers }
  exact .before (tableChange_moves (s := s) (s' := w) rfl rfl (.refl w) none) (onCpt_figures _ _)

/-! ### The answers of a command -/

theorem unchanged_moves (h : unchanged s = .next t) : Moves s t := by
  cases h
  exact .refl s

theorem settle_moves (h : settle u = .next t) (hu : Moves s u) : Moves s t := by
  cases h
  exact hu.before (drivePins_figures u)

theorem refuse_moves {code : ResultCode} (h : refuse code s = .next t) : Moves s t := by
  cases h
  exact .kept (respond_figures s code [])

theorem accept_moves {data : List Byte} (h : accept data u = .next t) (hu : Moves s u) : Moves s t :=
  settle_moves h (hu.before (respond_figures u .ok data))

/-- A frame is refused without effect, or its body answers (R186). -/
theorem takeFrame_moves {taken : Taken} {tail : List Byte} {body : List Byte → Host.Outcome State Fault Refusal}
    (h : takeFrame taken tail s body = .next t) (hbody : ∀ args, body args = .next t → Moves s t) : Moves s t := by
  rcases takeFrame_cases s taken tail body with ⟨-, hf⟩ | ⟨-, hf⟩ | ⟨-, hf⟩ | ⟨args, -, -, hf⟩
  · exact refuse_moves (hf.symm.trans h)
  · exact refuse_moves (hf.symm.trans h)
  · exact refuse_moves (hf.symm.trans h)
  · exact hbody args (hf.symm.trans h)

/-- A frame whose argument length is checked first (R187). -/
theorem takeArgs_moves {taken : Taken} {tail : List Byte} {n : Nat}
    {body : List Byte → Host.Outcome State Fault Refusal}
    (h : takeFrame taken tail s (fun args => withArgs n args s (body args)) = .next t)
    (hbody : ∀ args, body args = .next t → Moves s t) : Moves s t := by
  refine takeFrame_moves h fun args h => ?_
  unfold withArgs at h
  split at h
  · exact hbody args h
  · exact refuse_moves h

/-! ### Frames (R185 to R197) -/

section Frames

variable {tail : List Byte}

theorem execLoadBegin_moves (h : execLoadBegin tail s = .next t) : Moves s t := by
  refine takeArgs_moves h fun args h => ?_
  dsimp only at h
  split at h
  · exact accept_moves h (.kept rfl)
  · exact refuse_moves h

theorem execLoadData_moves (h : execLoadData tail s = .next t) : Moves s t := by
  refine takeFrame_moves h fun args h => ?_
  split at h
  · exact accept_moves h (.kept rfl)
  · exact refuse_moves h

theorem execLoadEnd_moves (h : execLoadEnd tail s = .next t) : Moves s t :=
  takeArgs_moves h fun _ h => settle_moves h (.kept rfl)

theorem execGetStatus_moves (h : execGetStatus tail s = .next t) : Moves s t := by
  unfold execGetStatus answerFrame at h
  repeat' split at h
  · exact refuse_moves h
  · dsimp only at h
    rw [withArgs_eq] at h
    split at h
    · cases h
      exact .kept rfl
    · exact refuse_moves h
  · exact refuse_moves h

theorem execUnknownCommand_moves {code : Byte} (h : execUnknownCommand code tail s = .next t) : Moves s t := by
  unfold execUnknownCommand at h
  repeat' split at h
  · exact refuse_moves h
  · exact refuse_moves h
  · exact refuse_moves h
  · cases h

theorem execSetEventEnable_moves (h : execSetEventEnable tail s = .next t) : Moves s t :=
  takeArgs_moves h fun _ h => accept_moves h (.kept rfl)

theorem execClearEvents_moves (h : execClearEvents tail s = .next t) : Moves s t :=
  takeArgs_moves h fun _ h => accept_moves h (.kept rfl)

theorem execRestart_moves (h : execRestart tail s = .next t) : Moves s t := by
  refine takeArgs_moves h fun args h => ?_
  repeat' split at h
  · exact refuse_moves h
  · exact accept_moves h (.kept rfl)
  · exact refuse_moves h

theorem execSetLevel_moves (h : execSetLevel tail s = .next t) : Moves s t := by
  refine takeArgs_moves h fun args h => ?_
  split at h
  · exact refuse_moves h
  · exact accept_moves h (.arrival _ fun _ => sound_mass_le _ _ _ _)

theorem execAddZinc_moves (h : execAddZinc tail s = .next t) : Moves s t := by
  refine takeArgs_moves h fun args h => ?_
  split at h
  · exact accept_moves h (.arrival _ fun _ => shift_mass_le _ _)
  · exact refuse_moves h

theorem execRemoveDross_moves (h : execRemoveDross tail s = .next t) : Moves s t := by
  refine takeArgs_moves h fun args h => ?_
  split at h
  · exact accept_moves h (.arrival _ fun _ => shift_mass_le _ _)
  · exact refuse_moves h

theorem execReadRecord_moves (h : execReadRecord tail s = .next t) : Moves s t := by
  refine takeArgs_moves h fun args h => ?_
  split at h
  · exact refuse_moves h
  · exact accept_moves h (.kept rfl)

theorem execPeekRecord_moves (h : execPeekRecord tail s = .next t) : Moves s t := by
  refine takeArgs_moves h fun args h => ?_
  split at h
  · exact refuse_moves h
  · exact accept_moves h (.refl s)

theorem execReadPeer_moves (h : execReadPeer tail s = .next t) : Moves s t := by
  refine takeArgs_moves h fun args h => ?_
  split at h
  · exact refuse_moves h
  · exact accept_moves h (.refl s)

theorem execForgetPeer_moves (h : execForgetPeer tail s = .next t) : Moves s t := by
  refine takeArgs_moves h fun args h => ?_
  repeat' split at h
  · exact refuse_moves h
  · exact refuse_moves h
  · exact refuse_moves h
  · exact accept_moves h (dropPeer_moves _ s)

theorem execDip_moves (h : execDip tail s = .next t) : Moves s t := by
  refine takeFrame_moves h fun args h => ?_
  repeat' split at h
  · exact refuse_moves h
  · exact refuse_moves h
  · exact accept_moves h (.kept rfl)

theorem execCancelJob_moves (h : execCancelJob tail s = .next t) : Moves s t := by
  refine takeArgs_moves h fun args h => ?_
  dsimp only at h
  repeat' split at h
  · exact accept_moves h (.kept rfl)
  · exact refuse_moves h
  · exact refuse_moves h

theorem routeAbort_moves (s : State) : Moves s (routeAbort s) := by
  unfold routeAbort
  split
  · exact (releaseDip_moves _).after rfl
  · exact releaseDip_moves s
  · exact (enterMotion_moves _ _).after (by simp)
  · exact (enterMotion_moves _ _).after (by simp)
  · exact (enterMotion_moves _ _).after rfl
  · exact (enterMotion_moves _ _).after rfl
  · exact .kept (by simp)
  · exact .refl s

theorem execAbortDip_moves (h : execAbortDip tail s = .next t) : Moves s t := by
  refine takeArgs_moves h fun args h => ?_
  repeat' split at h
  · exact refuse_moves h
  · exact refuse_moves h
  · exact refuse_moves h
  · exact refuse_moves h
  · exact accept_moves h ((routeAbort_moves _).after (onDip_figures _ _))

theorem recoverDip_moves (s : State) : Moves s (recoverDip s) := by
  unfold recoverDip
  exact .before (.before (finishDip_moves s) (onDcc_figures _ _)) (setStage_figures _ _)

theorem execRecover_moves (h : execRecover tail s = .next t) : Moves s t := by
  refine takeArgs_moves h fun args h => ?_
  dsimp only at h
  repeat' split at h
  · exact refuse_moves h
  · exact refuse_moves h
  · exact refuse_moves h
  · exact accept_moves h (recoverDip_moves s)

end Frames

/-! ### Arrivals at the port -/

/-- A configuration that passes its validation has an initial inventory in range (R192, field 7). -/
theorem initialInventory_le {l : Load} (h : validateLoad l = none) :
    (settingsOf l.buffer).initialInventory ≤ maxInventory := by
  have hfields : headerCheck l.buffer l.declared = none := by
    unfold validateLoad at h
    repeat' split at h
    · cases h
    · cases h
    · cases h
    · cases h
    · assumption
  have hall : ∀ p ∈ headerFields l.buffer l.declared, p.2 = true := by
    simpa [headerCheck] using hfields
  exact of_decide_eq_true (hall (7, decide (beField l.buffer 10 4 ≤ 8000000)) (by simp [headerFields]))

theorem execValidationEnd_moves (h : execValidationEnd s = .next t) : Moves s t := by
  unfold execValidationEnd at h
  repeat' split at h
  · exact settle_moves h (.kept rfl)
  · rename_i hv
    exact settle_moves h (.load _ (initialInventory_le hv))
  · exact unchanged_moves h

theorem execLoadTimerExpiry_moves (h : execLoadTimerExpiry s = .next t) : Moves s t := by
  unfold execLoadTimerExpiry at h
  split at h
  · exact settle_moves h (.kept rfl)
  · exact unchanged_moves h

theorem execListenTimerExpiry_moves (h : execListenTimerExpiry s = .next t) : Moves s t := by
  unfold execListenTimerExpiry at h
  split at h
  · exact settle_moves h (.kept rfl)
  · exact unchanged_moves h

theorem execRestartTimerExpiry_moves (h : execRestartTimerExpiry s = .next t) : Moves s t := by
  unfold execRestartTimerExpiry at h
  split at h
  · exact settle_moves h (restartClear_moves s)
  · exact unchanged_moves h

theorem execHardwareReset_moves (h : execHardwareReset s = .next t) : Moves s t := by
  cases h
  exact .reset rfl

/-! ### Arrivals of the dip cycle -/

theorem execJobStart_moves (h : execJobStart s = .next t) : Moves s t := by
  have hstart : ∀ j rest, (startJob j rest s).figures = s.figures := fun j rest => by simp [startJob]
  have hfault : ∀ v : State, (faultAtStart v).figures = v.figures := fun v => by
    unfold faultAtStart
    repeat' split
    all_goals simp
  unfold execJobStart at h
  repeat' split at h
  · exact unchanged_moves h
  · exact settle_moves h (.kept ((hfault _).trans (hstart _ _)))
  · exact unchanged_moves h

theorem execHoldLimitExpiry_moves (h : execHoldLimitExpiry s = .next t) : Moves s t := by
  unfold execHoldLimitExpiry at h
  repeat' split at h
  · exact unchanged_moves h
  · exact settle_moves h (.kept rfl)
  · exact unchanged_moves h

theorem execClaimWindowExpiry_moves (h : execClaimWindowExpiry s = .next t) : Moves s t := by
  have hheld : Moves s (setClaim .held s.zcu.mask s) := .kept (setClaim_figures _ _ _)
  unfold execClaimWindowExpiry holdClaim at h
  dsimp only at h
  repeat' split at h
  · exact settle_moves h ((hheld.trans (enterMotion_moves _ _)).trans (conflictCheck_moves _))
  · exact settle_moves h (hheld.trans (conflictCheck_moves _))
  · exact unchanged_moves h
  · exact unchanged_moves h

theorem admitResv_moves (s : State) : Moves s (admitResv s) := by
  have hset : ∀ r, Moves s (setResv r s) := fun r => .kept (setResv_figures _ _)
  unfold admitResv
  dsimp only
  repeat' split
  · exact (hset _).trans (enterMotion_moves _ _)
  · exact hset _
  · exact hset _

theorem execAdmissionWindowExpiry_moves (h : execAdmissionWindowExpiry s = .next t) : Moves s t := by
  unfold execAdmissionWindowExpiry at h
  repeat' split at h
  · exact settle_moves h (admitResv_moves s)
  · exact unchanged_moves h
  · exact unchanged_moves h

theorem execPulseExpiry_moves {marker : Marker} (h : execPulseExpiry marker s = .next t) : Moves s t := by
  unfold execPulseExpiry at h
  split at h
  · exact settle_moves h (.kept rfl)
  · exact unchanged_moves h

theorem execDwellExpiry_moves (h : execDwellExpiry s = .next t) : Moves s t := by
  unfold execDwellExpiry at h
  split at h
  · exact settle_moves h (endSegment_moves s)
  · exact unchanged_moves h

theorem execWaitTimeout_moves (h : execWaitTimeout s = .next t) : Moves s t := by
  unfold execWaitTimeout at h
  split at h
  · exact settle_moves h ((endSegment_moves _).after rfl)
  · exact unchanged_moves h

/-! ### Arrivals at the hoist signals and the load cell -/

theorem execMotionLimitExpiry_moves (h : execMotionLimitExpiry s = .next t) : Moves s t := by
  unfold execMotionLimitExpiry at h
  repeat' split at h
  · exact unchanged_moves h
  · exact settle_moves h (.kept (faultCause_figures _ _))
  · exact unchanged_moves h

theorem execDriveLostExpiry_moves (h : execDriveLostExpiry s = .next t) : Moves s t := by
  unfold execDriveLostExpiry at h
  repeat' split at h
  · exact unchanged_moves h
  · exact settle_moves h (.kept (faultCause_figures _ _))
  · exact unchanged_moves h

theorem execDriveReadyEdge_moves {a b : Bool} (h : execDriveReadyEdge a b s = .next t) : Moves s t := by
  unfold execDriveReadyEdge at h
  split at h
  · exact unchanged_moves h
  · exact settle_moves h (.kept rfl)

theorem execHaltEdge_moves {a b : Bool} (h : execHaltEdge a b s = .next t) : Moves s t := by
  unfold execHaltEdge at h
  split at h
  · exact unchanged_moves h
  · exact settle_moves h (.kept rfl)

theorem execDriveFaultEdge_moves {a b : Bool} (h : execDriveFaultEdge a b s = .next t) : Moves s t := by
  unfold execDriveFaultEdge setDriveFault at h
  dsimp only at h
  repeat' split at h
  · exact unchanged_moves h
  · exact settle_moves h (.kept (faultCause_figures _ _))
  · exact settle_moves h (.kept rfl)

theorem execFirstFilteredLevel_moves {i : DiscreteInput} {a b : Bool} (h : execFirstFilteredLevel i a b s = .next t) :
    Moves s t := by
  unfold execFirstFilteredLevel at h
  split at h
  · exact unchanged_moves h
  · exact settle_moves h (.kept rfl)

theorem execTriggerEdge_moves {k : Trigger} {a b : Bool} (h : execTriggerEdge k a b s = .next t) : Moves s t := by
  have hraise : ∀ rising, (raiseTrigger k rising (latchEdge k rising s)).figures = s.figures := fun rising => by
    unfold raiseTrigger
    split <;> rfl
  unfold execTriggerEdge takeEdge at h
  dsimp only at h
  repeat' split at h
  · exact unchanged_moves h
  · exact settle_moves h ((endSegment_moves _).after (hraise _))
  · exact settle_moves h (.kept (hraise _))

/-- The receivers of a hook-height update, in either order (R74). -/
theorem hookUpdate_moves (s : State) : Moves s (hookUpdate s) := by
  have hstart : (testImmersion s.nextFree).figures = s.figures := by
    unfold testImmersion
    split <;> rfl
  have hmend : ∀ v w : State, (mendExitWet v w).figures = w.figures := fun v w => by
    unfold mendExitWet
    split <;> rfl
  unfold hookUpdate hookUpdateWith
  dsimp only
  split
  · exact ((admHookUpdate_moves _).after hstart).trans (sgxHookUpdate_moves _)
  · exact (((sgxHookUpdate_moves _).after hstart).trans (admHookUpdate_moves _)).before (hmend _ _)

theorem execEncoderRead_moves {start : Bool} {height : BitVec 16} {parity : Bool}
    (h : execEncoderRead start height parity s = .next t) : Moves s t := by
  unfold execEncoderRead failedRead at h
  split at h
  · exact settle_moves h ((hookUpdate_moves _).after (onHif_figures _ _))
  · split at h
    · exact settle_moves h (.kept (faultCause_figures _ _))
    · exact settle_moves h (.kept rfl)

theorem takeSample_moves (x : Sample) (s : State) : Moves s (takeSample x s) := by
  unfold takeSample settleSample averageSample
  dsimp only
  repeat' split
  · exact .kept rfl
  · exact .kept rfl
  · exact (deliverSamples_moves _ _ _).after rfl
  · exact .kept rfl

theorem execRawSample_moves {raw : BitVec 24} (h : execRawSample raw s = .next t) : Moves s t := by
  unfold execRawSample takeRaw at h
  repeat' split at h
  · exact settle_moves h ((takeSample_moves _ _).after (onWgu_figures _ _))
  · exact settle_moves h (.kept rfl)
  · exact unchanged_moves h

theorem execSettleTimeout_moves (h : execSettleTimeout s = .next t) : Moves s t := by
  unfold execSettleTimeout at h
  repeat' split at h
  · exact unchanged_moves h
  · exact unchanged_moves h
  · exact settle_moves h (deliverSamples_moves _ _ _)
  · exact unchanged_moves h

/-! ### Arrivals at the kettle line and the peer table -/

theorem execTransmitAttemptStart_moves (h : execTransmitAttemptStart s = .next t) : Moves s t := by
  unfold execTransmitAttemptStart at h
  split at h
  · exact settle_moves h (.kept rfl)
  · exact unchanged_moves h

theorem execHeartbeatTimerExpiry_moves (h : execHeartbeatTimerExpiry s = .next t) : Moves s t := by
  unfold execHeartbeatTimerExpiry at h
  repeat' split at h
  · exact unchanged_moves h
  · exact settle_moves h (.kept (raiseState_figures _))
  · exact unchanged_moves h

theorem execUnsentExpiry_moves (h : execUnsentExpiry s = .next t) : Moves s t := by
  unfold execUnsentExpiry at h
  repeat' split at h
  · exact unchanged_moves h
  · exact settle_moves h (.kept (lineLostOccurs_figures _ _))
  · exact unchanged_moves h

theorem execPeerAgeing_moves {i : StationIx} (h : execPeerAgeing i s = .next t) : Moves s t := by
  unfold execPeerAgeing at h
  split at h
  · exact settle_moves h (agePeer_moves i s)
  · exact unchanged_moves h

theorem execBitReadBackMismatch_moves {n : Nat} {dominant : Bool} (h : execBitReadBackMismatch n dominant s = .next t) :
    Moves s t := by
  unfold execBitReadBackMismatch stopAttempt at h
  dsimp only at h
  repeat' split at h
  · exact unchanged_moves h
  · exact settle_moves h (.kept (attemptFailed_figures _))
  · exact settle_moves h (.kept rfl)
  · exact unchanged_moves h

/-! #### The end of a notice (R115 to R123) -/

theorem receiveNotice_moves (bytes : List Byte) (spoiled : Bool) (s : State) :
    Moves s (receiveNotice bytes spoiled s) := by
  unfold receiveNotice storeLeave
  repeat' split
  · exact .kept rfl
  · exact .kept (lineLostOccurs_figures _ _)
  · exact .refl s
  · exact dropPeer_moves _ s
  · exact storeState_moves _ _ s
  · exact .refl s

theorem leaveSent_moves (reported : Bool) (s : State) : Moves s (leaveSent reported s) := by
  unfold leaveSent
  dsimp only
  repeat' split
  · exact (restartClear_moves _).after rfl
  · exact .kept rfl
  · exact .kept rfl

/-- An own STATE gone out changes the time of the self entry, which is no other station's (R134). -/
theorem stateSent_moves (contents : Announced) (reported : Bool) (s : State) :
    Moves s (stateSent contents reported s) := by
  refine .kept ?_
  unfold stateSent
  dsimp only
  split
  · rw [lineBack_figures, admCompletion_figures, zcuCompletion_figures, setPeer_own_figures, onKli_figures]
  · rw [lineBack_figures, setPeer_own_figures, onKli_figures]

theorem endNotice_moves (bytes : List Byte) (spoiled : Bool) (s : State) : Moves s (endNotice bytes spoiled s) := by
  unfold endNotice attemptSucceeded
  repeat' split
  · exact .kept rfl
  · exact receiveNotice_moves _ _ s
  · exact leaveSent_moves _ s
  · exact stateSent_moves _ _ s
  · exact (receiveNotice_moves _ _ _).after rfl
  · exact (receiveNotice_moves _ _ _).after (attemptFailed_figures _)
  · exact (receiveNotice_moves _ _ _).after rfl

/-! ### Every command -/

/-- Every command moves the figures in the ways of `Moves`. -/
theorem exec_moves {c : Instr} (h : exec c s = .next t) : Moves s t := by
  cases c with
  | hardwareReset => exact execHardwareReset_moves h
  | loadBegin => exact execLoadBegin_moves h
  | loadData => exact execLoadData_moves h
  | loadEnd => exact execLoadEnd_moves h
  | validationEnd => exact execValidationEnd_moves h
  | loadTimerExpiry => exact execLoadTimerExpiry_moves h
  | listenTimerExpiry => exact execListenTimerExpiry_moves h
  | getStatus => exact execGetStatus_moves h
  | dip => exact execDip_moves h
  | cancelJob => exact execCancelJob_moves h
  | abortDip => exact execAbortDip_moves h
  | recover => exact execRecover_moves h
  | setLevel => exact execSetLevel_moves h
  | addZinc => exact execAddZinc_moves h
  | removeDross => exact execRemoveDross_moves h
  | readRecord => exact execReadRecord_moves h
  | peekRecord => exact execPeekRecord_moves h
  | readPeer => exact execReadPeer_moves h
  | forgetPeer => exact execForgetPeer_moves h
  | setEventEnable => exact execSetEventEnable_moves h
  | clearEvents => exact execClearEvents_moves h
  | restart => exact execRestart_moves h
  | idleFrame => exact unchanged_moves h
  | unknownCommand => exact execUnknownCommand_moves h
  | restartTimerExpiry => exact execRestartTimerExpiry_moves h
  | jobStart => exact execJobStart_moves h
  | rawSample => exact execRawSample_moves h
  | settleTimeout => exact execSettleTimeout_moves h
  | encoderRead => exact execEncoderRead_moves h
  | driveReadyEdge => exact execDriveReadyEdge_moves h
  | driveFaultEdge => exact execDriveFaultEdge_moves h
  | haltEdge => exact execHaltEdge_moves h
  | triggerEdge => exact execTriggerEdge_moves h
  | motionLimitExpiry => exact execMotionLimitExpiry_moves h
  | driveLostExpiry => exact execDriveLostExpiry_moves h
  | dwellExpiry => exact execDwellExpiry_moves h
  | waitTimeout => exact execWaitTimeout_moves h
  | pulseExpiry => exact execPulseExpiry_moves h
  | holdLimitExpiry => exact execHoldLimitExpiry_moves h
  | transmitAttemptStart => exact execTransmitAttemptStart_moves h
  | noticeEnd bytes spoiled => exact settle_moves h (endNotice_moves bytes spoiled s)
  | heartbeatTimerExpiry => exact execHeartbeatTimerExpiry_moves h
  | unsentExpiry => exact execUnsentExpiry_moves h
  | peerAgeing => exact execPeerAgeing_moves h
  | claimWindowExpiry => exact execClaimWindowExpiry_moves h
  | admissionWindowExpiry => exact execAdmissionWindowExpiry_moves h
  | stationClockTick => exact settle_moves h (.kept rfl)
  | firstFilteredLevel => exact execFirstFilteredLevel_moves h
  | bitReadBackMismatch => exact execBitReadBackMismatch_moves h
  | csnFallingEdge => cases h; exact .kept rfl

/-- A step runs the command at the front of the queue, or idles (log 3). -/
theorem step_moves (h : step s = .next t) : Moves s t := by
  unfold step at h
  split at h
  · cases h
    exact .refl s
  · exact (exec_moves h).after rfl

end Sys2Proof.Machine
end

section
/-! PROOF. The invariants of the inventory and of the surface (O56, O58): each of the ways in which a command moves the figures
keeps them. -/

namespace Sys2Proof.Machine

variable {s t : State}

/-! ### What an arrival at the INV makes of the figures -/

theorem lowTest_inv (s : State) : (lowTest s).inv = { s.inv with low := isLow s.settings.minLevel s.inv.level } := by
  unfold lowTest
  dsimp only
  split <;> rfl

/-- The Inventory Unit after an arrival: what the change makes of it, L computed from M, and the low flag (R148, R157). -/
theorem invArrive_inv (f : Inv → Inv) (s : State) :
    (invArrive f s).inv
      = { (f s.inv).relevel s.settings.area with
          low := isLow s.settings.minLevel (levelOf s.settings.area (f s.inv).mass) } := by
  have hsettings : ∀ v : State, (admLevelChanged v).settings = v.settings := fun v => by simp [State.settings]
  have hinv : ∀ v : State, (admLevelChanged v).inv = v.inv := fun v => by simp
  have hraise : ∀ (c : Bool) (v : State), (raiseStateIf c v).inv = v.inv := fun c v => by simp
  unfold invArrive
  dsimp only
  rw [hraise, lowTest_inv]
  split
  · rfl
  · rw [hsettings, hinv]
    rfl

/-- The figures after an arrival: the change with L afresh, and the surface refreshed where L is another (R148, R181). -/
theorem invArrive_figures (f : Inv → Inv) (s : State) :
    let t := s.onInv fun v => (f v).relevel s.settings.area
    (invArrive f s).figures = if t.inv.level = s.inv.level then t.figures else (refreshSurface t).figures := by
  unfold invArrive
  dsimp only
  rw [raiseStateIf_figures, lowTest_figures]
  split
  · rfl
  · exact reviewResv_figures _

/-! ### The inventory (R7, R148) -/

theorem InventoryWf.congr (h : t.figures = s.figures) (hs : InventoryWf s) : InventoryWf t := by
  rw [inventoryWf_iff] at hs ⊢
  rwa [h]

theorem invArrive_inventoryWf {f : Inv → Inv} (hf : ∀ v, (f v).mass ≤ maxInventory) (s : State) :
    InventoryWf (invArrive f s) := by
  have hsettings : (invArrive f s).settings = s.settings := by simp [State.settings]
  unfold InventoryWf
  rw [hsettings, invArrive_inv]
  exact ⟨hf _, rfl⟩

/-- The figures of a configuration taken into force (R147, R193): the start values, and the surface refreshed. -/
theorem loadPasses_figures (c : Settings) (s : State) :
    ∃ u : State, u.cfs = some c ∧ u.inv.mass = c.initialInventory ∧ u.inv.level = levelOf c.area c.initialInventory
      ∧ (loadPasses c s).figures = (refreshSurface u).figures := by
  obtain ⟨v, hv⟩ : ∃ v, v = (({ s with cfs := some c }.onCpt Cpt.listenFromLoad).onInv (Inv.load c)).setPeer c.station
      { presence := .present, heard := Announced.zero, time := s.sck, firstHeard := false } := ⟨_, rfl⟩
  have hfigures : (loadPasses c s).figures = (refreshSurface (lowTest v)).figures := by
    unfold loadPasses
    dsimp only
    rw [respond_figures, raiseEvent_figures, onWgu_figures, raiseState_figures, ← hv]
  have hcfs : v.cfs = some c := by rw [hv]; rfl
  have hinv : v.inv = Inv.load c s.inv := by rw [hv]; rfl
  exact ⟨lowTest v, by simpa using hcfs, by rw [lowTest_inv, hinv]; rfl, by rw [lowTest_inv, hinv]; rfl,
    hfigures⟩

theorem loadPasses_inventoryWf {c : Settings} (hc : c.initialInventory ≤ maxInventory) (s : State) :
    InventoryWf (loadPasses c s) := by
  obtain ⟨u, hcfs, hmass, hlevel, hfigures⟩ := loadPasses_figures c s
  have harea : u.settings.area = c.area := by rw [State.settings, hcfs]; rfl
  have hu : InventoryWf u := by
    rw [InventoryWf, hmass, hlevel, harea]
    exact ⟨hc, rfl⟩
  have hrefresh : InventoryWf (refreshSurface u) := hu
  exact hrefresh.congr hfigures

theorem Moves.inventoryWf (h : Moves s t) (hs : InventoryWf s) : InventoryWf t := by
  induction h with
  | kept h => exact hs.congr h
  | trans _ _ ih ih' => exact ih' (ih hs)
  | arrival f hf => exact invArrive_inventoryWf hf _
  | displaced n => exact hs
  | cleared => exact hs
  | table hc hi _ ih =>
    refine ih ?_
    unfold InventoryWf State.settings
    rw [hc, hi]
    exact hs
  | load c hc => exact loadPasses_inventoryWf hc _
  | reset h => exact .congr (s := State.reset) h ⟨by decide, by decide⟩

/-- Settles O56: a step moves the figures in the ways of `Moves`, and each of them keeps M in its range and L at R7's value. -/
theorem stepKeepsTheInventory : Obligations.StepKeepsTheInventory :=
  fun _ _ hs h => (step_moves h).inventoryWf hs

/-! ### The surface (R11, R14, R181) -/

theorem SurfaceWf.congr (h : t.figures = s.figures) (hs : SurfaceWf s) : SurfaceWf t := by
  rw [surfaceWf_iff] at hs ⊢
  rwa [h]

/-- A refresh makes the surface figures what R11 and R14 give, whatever they were. -/
theorem refreshSurface_surfaceWf (s : State) : SurfaceWf (refreshSurface s) := ⟨rfl, rfl⟩

/-- An arrival that leaves L leaves the surface, and one that changes L refreshes it. -/
theorem invArrive_surfaceWf (f : Inv → Inv) (hs : SurfaceWf s) : SurfaceWf (invArrive f s) := by
  obtain ⟨hwithout, hsurface⟩ := hs
  let v := s.onInv fun x => (f x).relevel s.settings.area
  have hfigures : (invArrive f s).figures = if v.inv.level = s.inv.level then v.figures else (refreshSurface v).figures :=
    invArrive_figures f s
  split at hfigures
  · rename_i hlevel
    have hwithout' : s.adm.without = saturate maxLevel (v.inv.level + s.othersActual) := by rw [hlevel]; exact hwithout
    exact .congr (s := v) hfigures ⟨hwithout', hsurface⟩
  · exact .congr hfigures (refreshSurface_surfaceWf v)

/-- Without an own displacement the surface is the surface without own, which is saturated already (R11, R14, R34). -/
theorem clearFull_surfaceWf (hs : SurfaceWf s) : SurfaceWf (clearFull s) := by
  obtain ⟨hwithout, -⟩ := hs
  have hle : s.adm.without ≤ maxLevel := by
    rw [hwithout]
    exact Nat.min_le_left _ _
  exact ⟨hwithout, (Nat.min_eq_right hle).symm⟩

theorem Moves.surfaceWf (h : Moves s t) (hs : SurfaceWf s) : SurfaceWf t := by
  induction h with
  | kept h => exact hs.congr h
  | trans _ _ ih ih' => exact ih' (ih hs)
  | arrival f _ => exact invArrive_surfaceWf f hs
  | displaced n => exact ⟨hs.1, rfl⟩
  | cleared => exact clearFull_surfaceWf hs
  | table _ _ _ _ => exact refreshSurface_surfaceWf _
  | load c _ =>
    obtain ⟨u, -, -, -, hfigures⟩ := loadPasses_figures c _
    exact .congr hfigures (refreshSurface_surfaceWf u)
  | reset h => exact .congr (s := State.reset) h ⟨by decide, by decide⟩

/-- Settles O58: of the ways in which a step moves the figures, a change of the table or of the configuration ends in a refresh
of the surface, and the others keep it. -/
theorem stepKeepsTheSurface : Obligations.StepKeepsTheSurface :=
  fun _ _ hs h => (step_moves h).surfaceWf hs

end Sys2Proof.Machine
end

section
/-! PROOF. A sounding as the inventory and read back as the level (O14). -/

namespace Sys2Proof.Machine

/-! ### The level of a sounded inventory (R7, R8) -/

/-- Where 33 × A is 500 or more, the ceiling of R7 takes back the floor of R8: the floor loses less than 500 of
`level * (33 * area)`, which is less than one level unit. -/
theorem ceilDiv_of_floor {d level : Nat} (hd : 500 ≤ d) : ceilDiv (500 * (level * d / 500)) d = level := by
  have hfloor : 500 * (level * d / 500) + level * d % 500 = level * d := Nat.div_add_mod _ _
  have hlost : level * d % 500 < 500 := Nat.mod_lt _ (by omega)
  unfold ceilDiv
  generalize 500 * (level * d / 500) = mass at *
  refine Nat.div_eq_of_lt_le ?_ ?_
  · omega
  · rw [Nat.succ_mul]
    omega

theorem levelOf_sounding {area level : Nat} (harea : 100 ≤ area) (hlevel : level ≤ 65535) :
    levelOf area (level * (33 * area) / 500) = level := by
  rw [levelOf, ceilDiv_of_floor (by omega)]
  exact Nat.min_eq_right hlevel

/-- An empty kettle has level 0, also where no area is configured (log 18). -/
theorem levelOf_zero (area : Nat) : levelOf area 0 = 0 := by
  have hdiv : (500 * 0 + 33 * area - 1) / (33 * area) = 0 := by
    rcases Nat.eq_zero_or_pos area with rfl | hpos
    · rfl
    · exact Nat.div_eq_of_lt (by omega)
  rw [levelOf, ceilDiv, hdiv]
  rfl

/-! ### SET_LEVEL -/

/-- Bytes spell a number below what their places hold. -/
theorem beNat_lt (l : List Byte) : beNat l < 256 ^ l.length := by
  induction l with
  | nil => exact Nat.one_pos
  | cons b l ih =>
    have hcons : beNat (b :: l) = b.toNat * 256 ^ l.length + beNat l := by
      simpa [beNat] using beNat_foldl l b.toNat
    have hb : (b.toNat + 1) * 256 ^ l.length ≤ 256 * 256 ^ l.length := Nat.mul_le_mul_right _ b.isLt
    rw [hcons, List.length_cons, Nat.pow_succ]
    linarith

/-- An accepted SET_LEVEL carries its sounding through the INV (R156). -/
theorem exec_setLevel {s : State} {tail args : List Byte} (hopen : FrameOpen s tail args) (honline : s.online = true)
    (hlen : args.length = 2) (hepoch : s.inv.epoch ≠ 65535) :
    exec (.setLevel tail) s
      = accept [] (invArrive (·.sound s.settings.area s.ownNumber (beNat args)) s) := by
  show execSetLevel tail s = _
  rw [execSetLevel, takeFrame_of_open s hopen, listenReady_inMode, if_pos honline, withArgs_eq, if_pos hlen,
    if_neg hepoch, beField_all args 2 hlen]

/-- Settles O14: R7 takes back R8's floor (`levelOf_sounding`), and SET_LEVEL stores the sounding and its level. -/
theorem soundingReadsBack : Obligations.SoundingReadsBack := by
  refine ⟨fun area level harea hlevel _ => levelOf_sounding harea hlevel, ?_⟩
  intro s tail args hopen honline hlen hepoch
  have hinv := invArrive_inv (·.sound s.settings.area s.ownNumber (beNat args)) s
  have hbound : beNat args ≤ 65535 := by
    have := beNat_lt args
    rw [hlen] at this
    omega
  refine ⟨_, exec_setLevel hopen honline hlen hepoch, ?_, fun harea hfits => ?_, fun hzero => ⟨?_, ?_⟩⟩
  · exact congrArg Inv.mass hinv
  · refine (congrArg Inv.level hinv).trans ?_
    show levelOf _ (min 8000000 _) = _
    rw [Nat.min_eq_right hfits]
    exact levelOf_sounding harea hbound
  · refine (congrArg Inv.mass hinv).trans ?_
    simp [Inv.relevel, Inv.sound, massOfSounding, saturate, hzero]
  · refine (congrArg Inv.level hinv).trans ?_
    simp [Inv.relevel, Inv.sound, massOfSounding, saturate, hzero, levelOf_zero]

end Sys2Proof.Machine
end

section
/-! PROOF. The store of a dip record (O21): the slot, the events, the drawn mass, and what the record holds. -/

namespace Sys2Proof.Machine

variable (s : State)

/-! ### Pending events (R195) -/

theorem pendingEvent_congr {s t : State} (h : t.cpt = s.cpt) (e : Event) : t.pendingEvent e = s.pendingEvent e := by
  rw [State.pendingEvent, h]
  rfl

/-- A raised event is pending. -/
theorem raiseEvent_pendingEvent (e : Event) : (raiseEvent e s).pendingEvent e = true := by
  have hbit : (s.cpt.events ||| e.bit) &&& e.bit = e.bit := by
    ext i hi
    simpa using Or.inr
  have hne : e.bit ≠ 0 := by cases e <;> decide
  exact decide_eq_true (hbit.trans_ne hne)

/-- The raise of an event leaves an event of another bit as it was. -/
theorem raiseEvent_pendingEvent_of_apart {e e' : Event} (h : e.bit &&& e'.bit = 0) :
    (raiseEvent e s).pendingEvent e' = s.pendingEvent e' := by
  have hbit : (s.cpt.events ||| e.bit) &&& e'.bit = s.cpt.events &&& e'.bit := by
    calc (s.cpt.events ||| e.bit) &&& e'.bit = (s.cpt.events &&& e'.bit) ||| (e.bit &&& e'.bit) := by
          ext i hi
          simp [Bool.and_or_distrib_right]
      _ = s.cpt.events &&& e'.bit := by rw [h]; exact BitVec.or_zero
  show decide ((s.cpt.events ||| e.bit) &&& e'.bit ≠ 0) = _
  rw [hbit]
  rfl

theorem raiseStateIf_cpt (c : Bool) : (raiseStateIf c s).cpt = s.cpt := by simp

/-! #### An arrival at the INV raises LOW_ZINC and HOLD_BEGIN at most -/

section Arrival

variable {e : Event} (hlow : Event.lowZinc.bit &&& e.bit = 0) (hhold : Event.holdBegin.bit &&& e.bit = 0)

include hlow in
theorem lowTest_pendingEvent : (lowTest s).pendingEvent e = s.pendingEvent e := by
  unfold lowTest
  dsimp only
  split
  · exact raiseEvent_pendingEvent_of_apart _ hlow
  · rfl

include hhold

theorem reportResv_pendingEvent : (reportResv s).pendingEvent e = s.pendingEvent e := by
  have hwait : ∀ r, (waitHold r s).pendingEvent e = s.pendingEvent e := fun r => by
    unfold waitHold
    split
    · rfl
    · exact (pendingEvent_congr (by simp) e).trans (raiseEvent_pendingEvent_of_apart _ hhold)
  unfold reportResv
  repeat' split
  · exact hwait _
  · exact pendingEvent_congr (by simp) e
  · rfl

theorem setResv_pendingEvent (r : ResvState) : (setResv r s).pendingEvent e = s.pendingEvent e :=
  (reportResv_pendingEvent _ hhold).trans (pendingEvent_congr (by simp) e)

theorem reviewResv_pendingEvent : (reviewResv s).pendingEvent e = s.pendingEvent e := by
  unfold reviewResv testResv
  repeat' split
  · rfl
  · exact setResv_pendingEvent s hhold _
  · exact setResv_pendingEvent s hhold _
  · rfl
  · exact setResv_pendingEvent s hhold _
  · rfl

include hlow in
theorem invArrive_pendingEvent (f : Inv → Inv) : (invArrive f s).pendingEvent e = s.pendingEvent e := by
  unfold invArrive
  dsimp only
  refine (pendingEvent_congr (raiseStateIf_cpt _ _) e).trans ((lowTest_pendingEvent _ hlow).trans ?_)
  split
  · rfl
  · exact reviewResv_pendingEvent _ hhold

end Arrival

/-! ### The record in its slot (R102, R109) -/

theorem logRecord_acu (r : DipRecord) :
    (logRecord r s).acu = { log := s.acu.log ++ [r], reserved := false, nextSeq := s.acu.nextSeq + 1 } := by
  unfold logRecord
  dsimp only
  split <;> rfl

/-- The events of a record placed: RECORD_STORED, and LOG_FULL with the 32nd record only (R102, R109). -/
theorem logRecord_pendingEvent (r : DipRecord) :
    (logRecord r s).pendingEvent .recordStored = true
      ∧ (s.acu.log.length + 1 = 32 → (logRecord r s).pendingEvent .logFull = true)
      ∧ (s.acu.log.length + 1 ≠ 32 → (logRecord r s).pendingEvent .logFull = s.pendingEvent .logFull) := by
  let v := raiseEvent .recordStored
    (s.onAcu fun a => { a with log := a.log ++ [r], reserved := false, nextSeq := a.nextSeq + 1 })
  have hlength : v.acu.log.length = s.acu.log.length + 1 := by simp [v]
  have hstored : v.pendingEvent .recordStored = true := raiseEvent_pendingEvent _ _
  have hrecord : logRecord r s = if s.acu.log.length + 1 = 32 then raiseEvent .logFull v else v := by
    rw [← hlength]
    rfl
  rw [hrecord]
  split
  · rename_i hfull
    exact ⟨(raiseEvent_pendingEvent_of_apart v (by decide)).trans hstored, fun _ => raiseEvent_pendingEvent _ _,
      fun h => absurd hfull h⟩
  · rename_i hroom
    exact ⟨hstored, fun h => absurd h hroom, fun _ => raiseEvent_pendingEvent_of_apart _ (by decide)⟩

/-! ### The drawn mass (R108, R149) -/

/-- A mass drawn lowers M, to 0 at least (R148). -/
theorem shift_neg_mass (mass : Nat) (v : Inv) : (v.shift (-(mass : Int))).mass = min 8000000 (v.mass - mass) := by
  show (min ((8000000 : Nat) : Int) ((v.mass : Int) + -(mass : Int))).toNat = _
  omega

/-- The store of a dip's record is the record placed and its drawn mass taken from the inventory (R102, R108). -/
theorem storeDip_eq {d : Dip} (h : s.dcc.active = some d) :
    storeDip s = invArrive (·.draw (recordOf s d).drawn) (logRecord (recordOf s d) s) := by
  simp only [storeDip, h]

/-- The Inventory Unit after the store: the drawn mass taken, L and the low flag computed afresh (R108, R148). -/
theorem storeDip_inv {d : Dip} (h : s.dcc.active = some d) :
    ∃ area low, (storeDip s).inv = { (s.inv.draw (recordOf s d).drawn).relevel area with low := low } := by
  have hlog : (logRecord (recordOf s d) s).inv = s.inv := by simp
  rw [storeDip_eq s h, invArrive_inv, hlog]
  exact ⟨_, _, rfl⟩

/-! ### The end stage and the immersion of a dip (R33, R104, R106) -/

theorem endStage_of_faulted {d : Dip} {st : Stage} (hf : d.flags.faulted = true) (h : d.faultStage = some st) :
    d.endStage = st := by
  rw [Dip.endStage, if_pos hf, h]
  rfl

theorem endStage_of_aborted {d : Dip} {st : Stage} (hf : d.flags.faulted = false) (ha : d.flags.aborted = true)
    (h : d.abortStage = some st) : d.endStage = st := by
  rw [Dip.endStage, if_neg (by simp [hf]), if_pos ha, h]
  rfl

theorem endStage_of_regular {d : Dip} (hf : d.flags.faulted = false) (ha : d.flags.aborted = false) :
    d.endStage = .depart := by
  rw [Dip.endStage, if_neg (by simp [hf]), if_neg (by simp [ha])]

theorem immersionTime_eq {d : Dip} {start : Word} (now : Word) (h : d.immersionStart = some start) :
    d.immersionTime now = some (d.immersionEnd.getD now - start) := by
  rw [Dip.immersionTime, h]
  rfl

/-! ### The zinc figures (R18, R19) -/

theorem drawnOf_absent {dry drained : Option Nat} (h : dry = none ∨ drained = none) : drawnOf dry drained = (0, false) := by
  rcases h with rfl | rfl
  · rfl
  · cases dry <;> rfl

theorem dripBackOf_absent {exitWeight drained : Option Nat} (h : exitWeight = none ∨ drained = none) :
    dripBackOf exitWeight drained = (none, false) := by
  rcases h with rfl | rfl
  · rfl
  · cases exitWeight <;> rfl

theorem pickupOf_present (dry drained : Nat) {steel : Nat} (h : 0 < steel) :
    pickupOf (some dry) (some drained) (some steel) = some ((drained - dry) * 1000 / steel) := by
  show (if steel = 0 then _ else _) = _
  rw [if_neg (by omega)]
  rfl

theorem pickupOf_absent {dry drained steel : Option Nat}
    (h : dry = none ∨ drained = none ∨ steel = none ∨ steel = some 0) : pickupOf dry drained steel = none := by
  rcases h with rfl | rfl | rfl | rfl
  · rfl
  · cases dry <;> rfl
  · cases dry <;> cases drained <;> rfl
  · cases dry <;> cases drained <;> rfl

/-- Settles O21: the record is placed (`logRecord_acu`, `logRecord_pendingEvent`), and the arrival of its drawn mass at the INV
leaves the log and the events of the log as they are. -/
theorem storeKeepsTheAccount : Obligations.StoreKeepsTheAccount := by
  refine ⟨fun s d hd => ?_, fun _ _ => rfl, fun _ _ => drawnOf_absent, fun _ _ => rfl, fun _ _ => dripBackOf_absent,
    fun _ _ _ => pickupOf_present _ _, fun _ _ _ => pickupOf_absent⟩
  have hstore := storeDip_eq s hd
  have hacu : (storeDip s).acu = (logRecord (recordOf s d) s).acu := by rw [hstore]; simp
  rw [logRecord_acu] at hacu
  obtain ⟨area, low, hinv⟩ := storeDip_inv s hd
  have hevent : ∀ e : Event, Event.lowZinc.bit &&& e.bit = 0 → Event.holdBegin.bit &&& e.bit = 0 →
      (storeDip s).pendingEvent e = (logRecord (recordOf s d) s).pendingEvent e := fun e hlow hhold => by
    rw [hstore]
    exact invArrive_pendingEvent _ hlow hhold _
  obtain ⟨hstored, hfull, hroom⟩ := logRecord_pendingEvent s (recordOf s d)
  have hlogFull := hevent .logFull (by decide) (by decide)
  exact ⟨congrArg Acu.log hacu, congrArg Acu.reserved hacu, congrArg Acu.nextSeq hacu, rfl, rfl, rfl,
    (hevent .recordStored (by decide) (by decide)).trans hstored, fun h => hlogFull.trans (hfull h),
    fun h => hlogFull.trans (hroom h), rfl, rfl, rfl, rfl, rfl, rfl, rfl, rfl, rfl,
    fun h => by rw [recordOf, Dip.immersionTime, h]; rfl,
    fun start stop hstart hstop => (immersionTime_eq s.sck hstart).trans (by rw [hstop]; rfl),
    fun start hstart hstop => (immersionTime_eq s.sck hstart).trans (by rw [hstop]; rfl),
    congrArg Inv.drawn hinv, (congrArg Inv.mass hinv).trans (shift_neg_mass _ _), by rw [hinv]; rfl,
    fun hf _ h => endStage_of_faulted hf h, fun hf ha _ h => endStage_of_aborted hf ha h,
    fun hf ha => endStage_of_regular hf ha,
    by cases hf : d.flags.faulted <;> simp [recordOf, hf]⟩

end Sys2Proof.Machine
end

section
/-! SUPPORT. What the walk of a last phase and the end of a dip leave of the dip: its weights, its job and the flags that were set
before (R32, R52 to R54, R102). -/

namespace Sys2Proof.Machine

/-! ### A dip but for its hold time and its clamps -/

/-- A dip but for its hold time (R36). -/
def Dip.unheld (d : Dip) : Dip := { d with holdTime := 0 }

/-- A dip but for its hold time and the flags that the start of a segment sets (R36, R56, R57). -/
def Dip.unclamped (d : Dip) : Dip :=
  { d with holdTime := 0, flags := { d.flags with depthClamped := false, speedClamped := false } }

/-- The active dip but for its hold time. -/
def State.unheld (s : State) : Option Dip := s.dcc.active.map Dip.unheld

/-- The active dip but for its hold time and its clamps. -/
def State.unclamped (s : State) : Option Dip := s.dcc.active.map Dip.unclamped

variable {s t u : State}

theorem unheld_congr (h : t.dcc = s.dcc) : t.unheld = s.unheld := by rw [State.unheld, h]; rfl
theorem unclamped_congr (h : t.dcc = s.dcc) : t.unclamped = s.unclamped := by rw [State.unclamped, h]; rfl

theorem unclamped_of_unheld (h : t.unheld = s.unheld) : t.unclamped = s.unclamped := by
  have hmap : ∀ v : State, v.unclamped = v.unheld.map Dip.unclamped := fun v => by
    rw [State.unclamped, State.unheld, Option.map_map]; rfl
  rw [hmap, hmap, h]

theorem active_of_unheld {d : Dip} (h : t.unheld = s.unheld) (hs : s.dcc.active = some d) :
    ∃ e, t.dcc.active = some e ∧ e.unheld = d.unheld := by
  rw [State.unheld, State.unheld, hs] at h
  exact Option.map_eq_some_iff.mp h

theorem active_of_unclamped {d : Dip} (h : t.unclamped = s.unclamped) (hs : s.dcc.active = some d) :
    ∃ e, t.dcc.active = some e ∧ e.unclamped = d.unclamped := by
  rw [State.unclamped, State.unclamped, hs] at h
  exact Option.map_eq_some_iff.mp h

/-! #### Holds change the hold time only -/

variable (s)

@[simp] theorem setStage_unheld (st : Stage) : (setStage st s).unheld = s.unheld := by simp [State.unheld]
@[simp] theorem raiseState_unheld : (raiseState s).unheld = s.unheld := unheld_congr (by simp)
@[simp] theorem raiseStateIf_unheld (c : Bool) : (raiseStateIf c s).unheld = s.unheld := unheld_congr (by simp)

@[simp] theorem waitHold_unheld (r : HoldReason) : (waitHold r s).unheld = s.unheld := by
  have hactive : (waitHold r s).dcc.active = s.dcc.active := by
    unfold waitHold
    split
    · rfl
    · simp
  rw [State.unheld, hactive]
  rfl

@[simp] theorem endHold_unheld : (endHold s).unheld = s.unheld := by
  unfold endHold
  split
  · rfl
  · rw [raiseState_unheld]
    show (s.dcc.active.map _).map Dip.unheld = s.dcc.active.map Dip.unheld
    rw [Option.map_map]
    rfl

@[simp] theorem reportClaim_unheld : (reportClaim s).unheld = s.unheld := by
  unfold reportClaim
  repeat' split
  all_goals simp

@[simp] theorem setClaim_unheld (c : ClaimState) (m : Mask) : (setClaim c m s).unheld = s.unheld := by
  rw [setClaim, reportClaim_unheld, raiseStateIf_unheld]
  rfl

@[simp] theorem testClaim_unheld : (testClaim s).unheld = s.unheld := by
  unfold testClaim
  split <;> exact setClaim_unheld _ _ _

@[simp] theorem releaseClaim_unheld : (releaseClaim s).unheld = s.unheld := (setClaim_unheld _ _ _).trans rfl

@[simp] theorem releaseResv_unheld : (releaseResv s).unheld = s.unheld := by
  have hreport : ∀ v : State, (reportResv v).unheld = v.unheld := fun v => by
    unfold reportResv
    repeat' split
    all_goals simp
  unfold releaseResv setResv
  rw [hreport, raiseStateIf_unheld]
  rfl

/-! #### The start of a segment sets the clamp flags only -/

@[simp] theorem noteClamps_unclamped (depth speed : Bool) : (noteClamps depth speed s).unclamped = s.unclamped := by
  show (s.dcc.active.map _).map Dip.unclamped = s.dcc.active.map Dip.unclamped
  rw [Option.map_map]
  rfl

@[simp] theorem startSegment_unclamped (g : Segment) : (startSegment g s).unclamped = s.unclamped := by
  have hleg : ∀ (r : Running) (v : State), (startMotion (startLeg r v)).unclamped = v.unclamped := fun r v =>
    unclamped_congr (by simp)
  have hdrop : ∀ v : State, (dropSegment v).unclamped = v.unclamped := fun _ => rfl
  have hrepeats : ∀ (v : State) (n : Nat), (v.onSgx fun x => { x with repeats := n }).unclamped = v.unclamped :=
    fun _ _ => rfl
  unfold startSegment
  generalize hv : (applyMarkers g s).onSgx (fun x => { x with cursor := Cursor.ofNext g.next }) = v
  have hstart : v.unclamped = s.unclamped := by rw [← hv]; rfl
  cases g.work with
  | move r target speed =>
    unfold startWork startMove
    dsimp only
    split <;> simp only [hdrop, hleg, noteClamps_unclamped, hstart]
  | dwell time => exact (unclamped_congr (by simp [startWork])).trans hstart
  | shake r target speed amplitude count =>
    unfold startWork startShake
    dsimp only
    repeat' split
    all_goals simp only [hdrop, hleg, hrepeats, noteClamps_unclamped, hstart]
  | waitInput input edge time => exact (unclamped_congr (by simp [startWork])).trans hstart
  | call target => exact hstart

/-- The start of a segment leaves the stage in hand (R53). -/
theorem startSegment_hand (g : Segment) : (startSegment g s).sgx.stage = s.sgx.stage := by
  have hleg : ∀ (r : Running) (v : State), (startLeg r v).sgx.stage = v.sgx.stage := fun r v => by
    unfold startLeg
    split <;> rfl
  unfold startSegment
  generalize hv : (applyMarkers g s).onSgx (fun x => { x with cursor := Cursor.ofNext g.next }) = v
  have hstart : v.sgx.stage = s.sgx.stage := by rw [← hv]; rfl
  rw [← hstart]
  cases g.work with
  | move r target speed =>
    unfold startWork startMove
    dsimp only
    split
    · simp [dropSegment]
    · simp [hleg]
  | dwell time =>
    unfold startWork startDwell
    dsimp only
    split <;> rfl
  | shake r target speed amplitude count =>
    unfold startWork startShake
    dsimp only
    repeat' split
    · simp [dropSegment]
    · simp [hleg]
    · simp [hleg]
  | waitInput input edge time => simp [startWork, startWait]
  | call target => rfl

/-! ### What the walk of a phase keeps -/

/-- What a delivery and the walk after it leave: the dip but for hold time and clamps, the log, the inventory, the claim and the
table. -/
structure DipKept (s t : State) : Prop where
  dip   : t.unclamped = s.unclamped
  acu   : t.acu = s.acu
  inv   : t.inv = s.inv
  claim : t.zcu.claim = s.zcu.claim
  mask  : t.zcu.mask = s.zcu.mask
  peers : t.peers = s.peers

variable {s}

theorem DipKept.trans (h : DipKept s t) (h' : DipKept t u) : DipKept s u :=
  ⟨h'.dip.trans h.dip, h'.acu.trans h.acu, h'.inv.trans h.inv, h'.claim.trans h.claim, h'.mask.trans h.mask,
    h'.peers.trans h.peers⟩

theorem DipKept.onSgx (f : Sgx → Sgx) (s : State) : DipKept s (s.onSgx f) := ⟨rfl, rfl, rfl, rfl, rfl, rfl⟩

theorem DipKept.setStage (st : Stage) (s : State) : DipKept s (setStage st s) :=
  ⟨unclamped_of_unheld (by simp), by simp, by simp, by simp, by simp, by simp⟩

theorem DipKept.weighDrained (s : State) : DipKept s (enterWeighDrained s) :=
  .trans (t := Machine.setStage .weighDrained s) (.setStage .weighDrained s) ⟨rfl, rfl, rfl, rfl, rfl, rfl⟩

theorem DipKept.startSegment (g : Segment) (s : State) : DipKept s (startSegment g s) :=
  ⟨by simp, by simp, by simp, by simp, by simp, by simp⟩

/-- The Segment Executor is still at work on a phase that it entered from `s`. -/
structure InPhase (p : Phase) (s u : State) : Prop where
  kept  : DipKept s u
  wgu   : u.wgu = s.wgu
  stage : u.dcc.stage = phaseStage p
  hand  : u.sgx.stage = some p

/-- A step of the walk that leaves the stage in hand and the weighing. -/
theorem InPhase.next {p : Phase} (h : InPhase p s u) (hk : DipKept u t) (hw : t.wgu = u.wgu)
    (hs : t.dcc.stage = u.dcc.stage) (hh : t.sgx.stage = u.sgx.stage) : InPhase p s t :=
  ⟨h.kept.trans hk, hw.trans h.wgu, hs.trans h.stage, hh.trans h.hand⟩

/-- The SGX reports done the phase it has in hand (R52). -/
theorem find_done {p q : Phase} (h : s.sgx.stage = some p) (hf : s.find = .done q) : q = p := by
  simp only [State.find, h] at hf
  repeat' split at hf
  all_goals cases hf
  all_goals rfl

/-- The walk of a phase that no other follows at once stays in the phase, or leaves it as its last step (R26, R52 to R55). -/
theorem sgxRun_lastPhase {p : Phase} (hp : phaseFollowing p = none) (ha : phaseStage p ≠ .approach) (n : Nat)
    (h : InPhase p s u) :
    InPhase p s (sgxRun n u) ∨ ∃ v, InPhase p s v ∧ sgxRun n u = leavePhase p v := by
  induction n generalizing u with
  | zero => exact .inl h
  | succ n ih =>
    have hyield : ¬ (u.dcc.stage = .approach ∧ u.zcu.yielding = true) := fun hy => ha (h.stage.symm.trans hy.1)
    cases hf : u.find with
    | nothing =>
      rw [sgxRun_nothing n hf]
      exact .inl h
    | back next =>
      rw [sgxRun_back n hf]
      exact ih (h.next (.onSgx _ u) rfl rfl rfl)
    | pass seg =>
      rw [sgxRun_pass n hf]
      exact ih (h.next (.onSgx _ u) rfl rfl rfl)
    | done q =>
      obtain rfl := find_done h.hand hf
      exact .inr ⟨u, h, sgxRun_done_leave n hf hp⟩
    | start seg =>
      by_cases hw : ∃ k, seg.work = .call k
      · obtain ⟨k, hk⟩ := hw
        rw [sgxRun_call n hf hyield hk]
        exact ih (h.next ⟨rfl, rfl, rfl, rfl, rfl, rfl⟩ rfl rfl rfl)
      · have hstart : InPhase p s (startSegment seg u) :=
          h.next (.startSegment seg u) (by simp) (by simp) (startSegment_hand u seg)
        rw [sgxRun_start n hf hyield (by simpa using hw)]
        split
        · exact ih hstart
        · exact .inl hstart

/-- A motion stage other than APPROACH handed to the SGX: cursor and return index stay (R51). -/
theorem handStage_of_ne {p : Phase} (hp : p ≠ .approach) (s : State) :
    handStage p s = (setStage (phaseStage p) s).onSgx fun x => { x with stage := some p } := by
  cases p with
  | approach => exact absurd rfl hp
  | _ => rfl

theorem handStage_inPhase {p : Phase} (hp : p ≠ .approach) (s : State) : InPhase p s (handStage p s) := by
  rw [handStage_of_ne hp]
  exact ⟨.trans (.setStage _ s) (.onSgx _ _), by simp, by simp, rfl⟩

theorem phaseStage_ne_approach {p : Phase} (hp : p ≠ .approach) : phaseStage p ≠ .approach := by
  cases p with
  | approach => exact absurd rfl hp
  | _ => nofun

theorem enterMotion_lastPhase {p : Phase} (hp : phaseFollowing p = none) (ha : p ≠ .approach) (s : State) :
    InPhase p s (enterMotion p s) ∨ ∃ v, InPhase p s v ∧ enterMotion p s = leavePhase p v :=
  sgxRun_lastPhase hp (phaseStage_ne_approach ha) _ (handStage_inPhase ha s)

/-! ### The first find of a phase -/

theorem find_of_seg {p : Phase} {i : Nat} {seg : Segment} (hh : s.sgx.stage = some p) (hc : s.sgx.cursor = .seg i)
    (hs : segmentAt s.settings i = some seg) :
    s.find = if phaseOrder seg.phase < phaseOrder p then .pass seg
      else if phaseOrder p < phaseOrder seg.phase then .done p else .start seg := by
  simp only [State.find, hh, hc, hs]

theorem handStage_find_of_seg {p : Phase} {i : Nat} {seg : Segment} (hp : p ≠ .approach) (hc : s.sgx.cursor = .seg i)
    (hs : segmentAt s.settings i = some seg) :
    (handStage p s).find = if phaseOrder seg.phase < phaseOrder p then .pass seg
      else if phaseOrder p < phaseOrder seg.phase then .done p else .start seg := by
  rw [handStage_of_ne hp]
  exact find_of_seg rfl (by simpa using hc) (by simpa [State.settings] using hs)

/-- A phase with no segment at the cursor is over at once (R52). -/
theorem enterMotion_of_done {p : Phase} (hp : phaseFollowing p = none) (hf : (handStage p s).find = .done p) :
    enterMotion p s = leavePhase p (handStage p s) := sgxRun_done_leave 9999 hf hp

/-- A phase whose first segment is a DWELL with a time runs it (R53, R59). -/
theorem enterMotion_of_dwell {p : Phase} {i time : Nat} {seg : Segment} (hp : p ≠ .approach) (hc : s.sgx.cursor = .seg i)
    (hs : segmentAt s.settings i = some seg) (hphase : seg.phase = p) (hw : seg.work = .dwell time) (htime : 0 < time) :
    enterMotion p s = startSegment seg (handStage p s)
      ∧ (startSegment seg (handStage p s)).sgx.current = some .dwell
      ∧ (startSegment seg (handStage p s)).sgx.dwell = some time := by
  have hdwell : startSegment seg (handStage p s)
      = ((applyMarkers seg (handStage p s)).onSgx fun x => { x with cursor := Cursor.ofNext seg.next }).onSgx
          fun x => { x with current := some .dwell, dwell := some time } := by
    rw [startSegment, hw, startWork, startDwell, if_neg (by omega)]
  have hcurrent : (startSegment seg (handStage p s)).sgx.current = some .dwell := by rw [hdwell]; rfl
  have hf : (handStage p s).find = .start seg := by
    rw [handStage_find_of_seg hp hc hs, hphase, if_neg (lt_irrefl _), if_neg (lt_irrefl _)]
  have hyield : ¬ ((handStage p s).dcc.stage = .approach ∧ (handStage p s).zcu.yielding = true) :=
    fun hy => phaseStage_ne_approach hp ((handStage_inPhase hp s).stage.symm.trans hy.1)
  have hrun : enterMotion p s = _ := sgxRun_start 9999 hf hyield (by simp [hw])
  rw [hcurrent] at hrun
  exact ⟨hrun, hcurrent, by rw [hdwell]; rfl⟩

/-! ### The ends of the last phases (R26, R34) -/

theorem enterWeighDrained_stage (s : State) : (enterWeighDrained s).dcc.stage = .weighDrained := by
  simp [enterWeighDrained]

/-- WEIGH_DRAINED requests its weighing, in the phase that the window makes it (R92). -/
theorem enterWeighDrained_op (s : State) :
    (enterWeighDrained s).wgu.op
      = some ⟨if (enterWeighDrained s).still = true then .averaging else .settling, 0, []⟩ := rfl

/-- RELEASE stores the record of the dip, which differs from the dip in the hold time only (R34, R102). -/
theorem releaseDip_stores {d : Dip} (h : s.dcc.active = some d) :
    (releaseDip s).dcc.stage = .idle ∧ (releaseDip s).dcc.active = none
      ∧ ∃ v e, e.unheld = d.unheld ∧ (releaseDip s).acu.log = s.acu.log ++ [recordOf v e] := by
  let w := setStage .release (endHold s)
  let v := dropRecipe (markersLow (releaseResv (releaseClaim w)))
  have hunheld : v.unheld = s.unheld :=
    calc v.unheld = (releaseResv (releaseClaim w)).unheld := unheld_congr (by simp [v])
      _ = s.unheld := by simp [w]
  have hlog : v.acu.log = s.acu.log := by simp [v, w]
  obtain ⟨e, he, hed⟩ := active_of_unheld hunheld h
  refine ⟨by simp [releaseDip], by simp [releaseDip, finishDip], v, e, hed, ?_⟩
  have hstore : (releaseDip s).acu.log = (storeDip v).acu.log := by simp [releaseDip, finishDip, v, w]
  rw [hstore, (storeDip_of_some v he).1, hlog]

end Sys2Proof.Machine
end

section
/-! PROOF. The delivery of a weight (O39): how it is reached, and what each of the three weighings makes of the dip. -/

namespace Sys2Proof.Machine

variable {s t : State}

/-! ### How a weight is delivered (R94 to R97) -/

/-- The open mean is not used where there is a sample (log 6). -/
theorem averageWeight_of_ne {list : List Sample} (h : list ≠ []) (n m : Nat) :
    averageWeight n list = averageWeight m list := by
  have hempty : list.isEmpty = false := by simpa using h
  simp only [averageWeight, hempty]
  rfl

/-- A state at whose weighing a weight is delivered: the window and the divider may have moved, the operation is over. -/
def State.weighed (s : State) (g : Wgu) : State :=
  { s with wgu := { g with op := none }, freeCount := s.freeCount + 1 }

theorem deliverSamples_eq {list : List Sample} (h : list ≠ []) (unsettled : Bool) (s : State) (g : Wgu) :
    deliverSamples list unsettled { s with wgu := g }
      = match s.dcc.stage with
        | .weighDry => deliverDry (averageWeight 0 list) unsettled (list.any (·.overrange)) (s.weighed g)
        | .weighExit => deliverExit (averageWeight 0 list) unsettled (list.any (·.overrange)) (s.weighed g)
        | .weighDrained => deliverDrained (averageWeight 0 list) unsettled (list.any (·.overrange)) (s.weighed g)
        | _ => s.weighed g := by
  rw [deliverSamples, averageWeight_of_ne h _ 0]
  rfl

/-- With the 32nd averaged sample or by timeout, the weight of the samples is delivered. -/
theorem exec_of_delivers {c : Instr} {list : List Sample} {unsettled : Bool} (h : DeliversWeight s c list unsettled) :
    list ≠ [] ∧ ∃ g : Wgu, exec c s = settle (deliverSamples list unsettled { s with wgu := g }) := by
  rcases h with ⟨raw, earlier, rfl, honline, hdivider, ⟨timer, hop⟩, hlength, rfl, rfl⟩
    | ⟨timer, rfl, hop, hne, htime, rfl⟩
  · refine ⟨by simp, (pushWindow (weighSample s.settings.weighZero s.settings.weighGain raw)
      (s.onWgu fun w => { w with divider := 0 })).wgu, ?_⟩
    have hfull : averageSize ≤ earlier.length + 1 := by rw [hlength]; decide
    have hpush : ∀ x, (pushWindow x (s.onWgu fun w => { w with divider := 0 })).wgu.op = s.wgu.op := fun _ => rfl
    show execRawSample raw s = _
    rw [execRawSample, if_pos honline, takeRaw, if_pos hdivider]
    simp only [takeSample, hpush, hop, averageSample, if_pos hfull]
    rfl
  · refine ⟨hne, s.wgu, ?_⟩
    show execSettleTimeout s = _
    simp only [execSettleTimeout, hop, if_pos htime]

/-! ### The weight kept with the dip (R27, R32) -/

/-- The dip with its dry weight and the steel mass formed from it (R6, R27). -/
def Dip.withDry (mass : Nat) (unsettled overrange : Bool) (d : Dip) : Dip :=
  { d with
    dry := some mass
    steel := some (steelMass mass d.job.tare)
    flags := { d.flags with dryUnsettled := unsettled, overrange := d.flags.overrange || overrange } }

/-- The dip with its exit weight (R32). -/
def Dip.withExit (mass : Nat) (unsettled overrange : Bool) (d : Dip) : Dip :=
  { d with
    exitWeight := some mass
    flags := { d.flags with exitUnsettled := unsettled, overrange := d.flags.overrange || overrange } }

/-- The dip with its drained weight (R32). -/
def Dip.withDrained (mass : Nat) (unsettled overrange : Bool) (d : Dip) : Dip :=
  { d with
    drained := some mass
    flags := { d.flags with drainedUnsettled := unsettled, overrange := d.flags.overrange || overrange } }

/-- The state with another active dip. -/
def State.withDip (d : Dip) (s : State) : State := s.onDcc fun x => { x with active := some d }

theorem onDip_of_active {d : Dip} (h : s.dcc.active = some d) (f : Dip → Dip) : s.onDip f = s.withDip (f d) := by
  rw [State.onDip, State.withDip, State.onDcc, State.onDcc, h]
  rfl

section Deliver

variable {d : Dip} (h : s.dcc.active = some d) (mass : Nat) (unsettled overrange : Bool)
include h

theorem deliverDry_eq :
    deliverDry mass unsettled overrange s
      = testClaim (setStage .claim (formFull (steelMass mass d.job.tare)
          (s.withDip (d.withDry mass unsettled overrange)))) := by
  have htare : (s.job.map (·.tare)).getD 0 = d.job.tare := by rw [State.job, h]; rfl
  unfold deliverDry
  rw [htare]
  dsimp only
  rw [onDip_of_active h]
  rfl

theorem deliverExit_eq :
    deliverExit mass unsettled overrange s
      = if d.abortPending then enterWeighDrained (s.withDip (d.withExit mass unsettled overrange))
        else enterMotion .drain (s.withDip (d.withExit mass unsettled overrange)) := by
  unfold deliverExit
  rw [onDip_of_active h]
  rfl

theorem deliverDrained_eq :
    deliverDrained mass unsettled overrange s
      = enterMotion .depart (s.withDip (d.withDrained mass unsettled overrange)) := by
  unfold deliverDrained
  rw [onDip_of_active h]
  rfl

end Deliver

/-! ### The dry weight (R27, R28, R163) -/

/-- The blocking test reads the line, the table and the footprint (R162). -/
theorem claimBlocked_congr (hl : t.kli.lineLost = s.kli.lineLost) (hc : t.cfs = s.cfs) (hp : t.peers = s.peers)
    (hj : t.job = s.job) : t.claimBlocked = s.claimBlocked := by
  rw [State.claimBlocked, State.lineLost, hl, State.footprint, hj, State.others, hp, own_congr hc]
  rfl

/-- In CLAIM a claim set WAITING is a hold (R28, R35). -/
theorem setClaim_waiting_hold (r : ClaimReason) (m : Mask) (h : s.dcc.stage = .claim) :
    (setClaim (.waiting r) m s).dcc.hold.isSome = true := by
  have hwait : ∀ (r : HoldReason) (v : State), (waitHold r v).dcc.hold.isSome = true := fun r v => by
    unfold waitHold
    split
    · rfl
    · simp
  unfold setClaim reportClaim
  rw [if_pos (by simpa using h)]
  simp [hwait]

/-- A claim asked for: PENDING with the footprint, or in CLAIM WAITING with a hold (R28, R163). -/
theorem testClaim_outcome (h : s.dcc.stage = .claim) :
    (s.claimBlocked = none → (testClaim s).zcu.claim = .pending none ∧ (testClaim s).zcu.mask = s.footprint)
      ∧ ∀ r, s.claimBlocked = some r →
        (testClaim s).zcu.claim = .waiting r ∧ (testClaim s).zcu.mask = 0 ∧ (testClaim s).dcc.hold.isSome = true := by
  refine ⟨fun hn => ?_, fun r hr => ?_⟩
  · simp [testClaim, hn]
  · have htest : testClaim s = setClaim (.waiting r) 0 s := by simp only [testClaim, hr]
    rw [htest]
    exact ⟨by simp, by simp, setClaim_waiting_hold r 0 h⟩

/-- The dry weight is kept, F is formed, and the claim is asked for in CLAIM. -/
theorem deliverDry_outcome {d : Dip} (h : s.dcc.active = some d) (mass : Nat) (unsettled overrange : Bool)
    (ht : deliverDry mass unsettled overrange s = t) :
    t.dcc.stage = .claim
      ∧ (∃ e, t.dcc.active = some e ∧ e.unheld = (d.withDry mass unsettled overrange).unheld)
      ∧ t.adm.full = fullDisplacement s.settings.area (steelMass mass d.job.tare)
      ∧ (s.claimBlocked = none → t.zcu.claim = .pending none ∧ t.zcu.mask = footprint d.job)
      ∧ (∀ r, s.claimBlocked = some r → t.zcu.claim = .waiting r ∧ t.zcu.mask = 0 ∧ t.dcc.hold.isSome = true)
      ∧ t.wgu = s.wgu ∧ t.acu = s.acu ∧ t.inv = s.inv ∧ t.sgx = s.sgx ∧ t.peers = s.peers := by
  let v := s.withDip (d.withDry mass unsettled overrange)
  let w := setStage .claim (formFull (steelMass mass d.job.tare) v)
  obtain rfl : testClaim w = t := (deliverDry_eq h mass unsettled overrange).symm.trans ht
  have hstage : w.dcc.stage = .claim := by simp [w]
  have hactive : w.dcc.active = some (d.withDry mass unsettled overrange) := by simp [w, v, State.withDip]
  have hblocked : w.claimBlocked = s.claimBlocked := by
    refine claimBlocked_congr ?_ ?_ ?_ ?_
    · simp [w, v, State.withDip]
    · simp [w, v, State.withDip]
    · simp [w, v, State.withDip]
    · rw [State.job, hactive, State.job, h]; rfl
  have hfoot : w.footprint = footprint d.job := by rw [State.footprint, State.job, hactive]; rfl
  obtain ⟨hfree, hwaits⟩ := testClaim_outcome hstage
  rw [hblocked] at hfree hwaits
  rw [hfoot] at hfree
  refine ⟨by simpa using hstage, active_of_unheld (testClaim_unheld w) hactive, ?_, hfree, hwaits, ?_⟩
  · simp [w, v, State.withDip, formFull]
  · simp [w, v, State.withDip]

/-! ### The exit weight (R32) -/

/-- DRAIN entered with the exit weight: it runs, or it is over and the drained weighing is requested (R26, R92). -/
theorem enterMotion_drain (s : State) :
    DipKept s (enterMotion .drain s)
      ∧ ((enterMotion .drain s).dcc.stage = .drain
        ∨ ∃ v, enterMotion .drain s = enterWeighDrained v) := by
  rcases enterMotion_lastPhase (p := .drain) rfl (by decide) s with hrun | ⟨v, hv, hleave⟩
  · exact ⟨hrun.kept, .inl hrun.stage⟩
  · rw [hleave]
    exact ⟨hv.kept.trans (.trans (.onSgx _ v) (.weighDrained _)), .inr ⟨_, rfl⟩⟩

/-- The exit weight is kept; DRAIN follows, and WEIGH_DRAINED where an abort is pending. -/
theorem deliverExit_outcome {d : Dip} (h : s.dcc.active = some d) (mass : Nat) (unsettled overrange : Bool)
    (ht : deliverExit mass unsettled overrange s = t) :
    DipKept (s.withDip (d.withExit mass unsettled overrange)) t
      ∧ (d.abortPending = true → t.dcc.stage = .weighDrained ∧ t.sgx = s.sgx)
      ∧ (t.dcc.stage = .drain ∨ t.dcc.stage = .weighDrained)
      ∧ (t.dcc.stage = .weighDrained → t.wgu.op = some ⟨if t.still = true then .averaging else .settling, 0, []⟩) := by
  rw [deliverExit_eq h] at ht
  subst ht
  split
  · exact ⟨.weighDrained _, fun _ => ⟨enterWeighDrained_stage _, by simp [State.withDip]⟩,
      .inr (enterWeighDrained_stage _), fun _ => enterWeighDrained_op _⟩
  · rename_i habort
    obtain ⟨hkept, hdrain | ⟨v, hv⟩⟩ := enterMotion_drain (s.withDip (d.withExit mass unsettled overrange))
    · exact ⟨hkept, fun ha => absurd ha habort, .inl hdrain, fun hs => by rw [hdrain] at hs; cases hs⟩
    · refine ⟨hkept, fun ha => absurd ha habort, .inr ?_, fun _ => ?_⟩
      · rw [hv]; exact enterWeighDrained_stage v
      · rw [hv]; exact enterWeighDrained_op v

/-- A DRAIN without segments is over at once; one that begins with a DWELL of some time runs it (R52, R59). -/
theorem deliverExit_at_segment {d : Dip} (h : s.dcc.active = some d) (habort : d.abortPending = false) (mass : Nat)
    (unsettled overrange : Bool) (ht : deliverExit mass unsettled overrange s = t) {i : Nat} {seg : Segment}
    (hc : s.sgx.cursor = .seg i) (hs : segmentAt s.settings i = some seg) :
    (seg.phase = .depart → t.dcc.stage = .weighDrained)
      ∧ ∀ time, seg.phase = .drain → seg.work = .dwell time → 0 < time →
        t.dcc.stage = .drain ∧ t.sgx.current = some .dwell ∧ t.sgx.dwell = some time ∧ t.wgu = s.wgu := by
  let v := s.withDip (d.withExit mass unsettled overrange)
  have hcv : v.sgx.cursor = .seg i := hc
  have hsv : segmentAt v.settings i = some seg := hs
  obtain rfl : enterMotion .drain v = t := by rw [← ht, deliverExit_eq h, if_neg (by simp [habort])]
  refine ⟨fun hdepart => ?_, fun time hdrain hw htime => ?_⟩
  · have hf : (handStage .drain v).find = .done .drain := by
      rw [handStage_find_of_seg (by decide) hcv hsv, hdepart]
      rfl
    rw [enterMotion_of_done rfl hf]
    exact enterWeighDrained_stage _
  · obtain ⟨hrun, hcurrent, hdwell⟩ := enterMotion_of_dwell (by decide) hcv hsv hdrain hw htime
    have hstage : (handStage .drain v).dcc.stage = .drain := (handStage_inPhase (by decide) v).stage
    rw [hrun]
    refine ⟨by simpa using hstage, hcurrent, hdwell, ?_⟩
    simp [v, State.withDip]

/-! ### The drained weight (R32, R34) -/

/-- The drained weight is kept in DEPART, or where DEPART is over at once in the record of the dip. -/
theorem deliverDrained_outcome {d : Dip} (h : s.dcc.active = some d) (mass : Nat) (unsettled overrange : Bool)
    (ht : deliverDrained mass unsettled overrange s = t) :
    t.wgu = s.wgu ∧ t.peers = s.peers
      ∧ ((t.dcc.stage = .depart ∧ t.acu = s.acu ∧ t.inv = s.inv
          ∧ ∃ e, t.dcc.active = some e ∧ e.unclamped = (d.withDrained mass unsettled overrange).unclamped)
        ∨ (t.dcc.stage = .idle ∧ t.dcc.active = none
          ∧ ∃ v e, t.acu.log = s.acu.log ++ [recordOf v e]
            ∧ e.unclamped = (d.withDrained mass unsettled overrange).unclamped)) := by
  let w := s.withDip (d.withDrained mass unsettled overrange)
  have hactive : w.dcc.active = some (d.withDrained mass unsettled overrange) := rfl
  obtain rfl : enterMotion .depart w = t := (deliverDrained_eq h mass unsettled overrange).symm.trans ht
  rcases enterMotion_lastPhase (p := .depart) rfl (by decide) w with hrun | ⟨v, hv, hleave⟩
  · exact ⟨hrun.wgu, hrun.kept.peers,
      .inl ⟨hrun.stage, hrun.kept.acu, hrun.kept.inv, active_of_unclamped hrun.kept.dip hactive⟩⟩
  · have hrelease : enterMotion .depart w = releaseDip (v.onSgx fun x => { x with stage := none }) := hleave
    obtain ⟨e, he, hed⟩ := active_of_unclamped hv.kept.dip hactive
    obtain ⟨hidle, hnone, v', e', hunheld, hlog⟩ :=
      releaseDip_stores (s := v.onSgx fun x => { x with stage := none }) he
    have hwgu : v.wgu = s.wgu := hv.wgu
    have hpeers : v.peers = s.peers := hv.kept.peers
    rw [hrelease]
    refine ⟨by simpa using hwgu, by simpa using hpeers, .inr ⟨hidle, hnone, v', e', ?_, ?_⟩⟩
    · exact hlog.trans (congrArg (fun a : Acu => a.log ++ _) hv.kept.acu)
    · exact (congrArg Dip.unclamped hunheld).trans hed

/-- DEPART runs a DWELL that stands at its cursor, and is over at once at the end of the main chain (R52, R54, R59). -/
theorem deliverDrained_at_cursor {d : Dip} (h : s.dcc.active = some d) (mass : Nat) (unsettled overrange : Bool)
    (ht : deliverDrained mass unsettled overrange s = t) :
    (∀ i seg time, s.sgx.cursor = .seg i → segmentAt s.settings i = some seg → seg.phase = .depart →
        seg.work = .dwell time → 0 < time → t.dcc.stage = .depart ∧ t.sgx.current = some .dwell)
      ∧ (s.sgx.cursor = .chainEnd → s.sgx.returnIndex = none → t.dcc.stage = .idle) := by
  let v := s.withDip (d.withDrained mass unsettled overrange)
  obtain rfl : enterMotion .depart v = t := (deliverDrained_eq h mass unsettled overrange).symm.trans ht
  refine ⟨fun i seg time hc hs hphase hw htime => ?_, fun hc hr => ?_⟩
  · have hcv : v.sgx.cursor = .seg i := hc
    have hsv : segmentAt v.settings i = some seg := hs
    obtain ⟨hrun, hcurrent, -⟩ := enterMotion_of_dwell (by decide) hcv hsv hphase hw htime
    have hstage : (handStage .depart v).dcc.stage = .depart := (handStage_inPhase (by decide) v).stage
    rw [hrun]
    exact ⟨by simpa using hstage, hcurrent⟩
  · have hf : (handStage .depart v).find = .done .depart := by
      rw [handStage_of_ne (by decide)]
      simp [State.find, v, State.withDip, hc, hr]
    rw [enterMotion_of_done rfl hf]
    simp [leavePhase, releaseDip]

/-! ### The deliveries as commands -/

/-- Settles O39: a delivery is `deliverSamples` at a state that differs in the weighing only (`exec_of_delivers`), and each
weighing has its outcome. -/
theorem weightsAreDelivered : Obligations.WeightsAreDelivered := by
  refine ⟨fun s c list unsettled d w hdelivers hd hw => ?_, fun s timer list hop htime => ?_⟩
  · obtain ⟨hne, g, hexec⟩ := exec_of_delivers hdelivers
    subst hw
    have hdv : (s.weighed g).dcc.active = some d := hd
    rw [deliverSamples_eq hne] at hexec
    refine ⟨fun hstage _ => ?_, fun hstage => ?_, fun hstage => ?_⟩
    · rw [hstage] at hexec
      obtain ⟨hclaim, ⟨e, he, hed⟩, hfull, hfree, hwaits, hwgu, hacu, hinv, hsgx, hpeers⟩ := deliverDry_outcome hdv _ _ _ rfl
      have field {α : Type} (f : Dip → α) : f e.unheld = f (d.withDry _ unsettled _).unheld := congrArg f hed
      exact ⟨_, hexec, congrArg Wgu.op hwgu, hclaim,
        ⟨e, he, field Dip.job, field Dip.dry, field Dip.steel, field Dip.flags⟩,
        hfull, hfree, hwaits, hacu, hinv, hsgx, hpeers⟩
    · rw [hstage] at hexec
      obtain ⟨hkept, hpending, hstages, hop⟩ := deliverExit_outcome hdv _ _ _ rfl
      obtain ⟨e, he, hed⟩ := active_of_unclamped hkept.dip rfl
      have field {α : Type} (f : Dip → α) : f e.unclamped = f (d.withExit _ unsettled _).unclamped := congrArg f hed
      refine ⟨_, e, hexec, he, field Dip.job, field Dip.exitWeight, field Dip.dry, field (·.flags.exitUnsettled),
        field (·.flags.overrange), hpending, fun _ => hstages,
        fun i seg habort hc hs => ?_, hop, hkept.acu, hkept.inv, hkept.claim, hkept.mask, hkept.peers⟩
      obtain ⟨hdepart, hdrain⟩ := deliverExit_at_segment hdv habort _ _ _ rfl hc hs
      refine ⟨hdepart, fun time hphase hwork htime => ?_⟩
      obtain ⟨hst, hcurrent, hdwell, hwgu⟩ := hdrain time hphase hwork htime
      exact ⟨hst, hcurrent, hdwell, congrArg Wgu.op hwgu⟩
    · rw [hstage] at hexec
      obtain ⟨hwgu, hpeers, hend⟩ := deliverDrained_outcome hdv _ _ _ rfl
      obtain ⟨hdwell, hidle⟩ := deliverDrained_at_cursor hdv _ _ _ rfl
      refine ⟨_, hexec, congrArg Wgu.op hwgu, hpeers, hend.imp ?_ ?_, hdwell, hidle⟩
      · rintro ⟨hdepart, hacu, hinv, e, he, hed⟩
        have field {α : Type} (f : Dip → α) : f e.unclamped = f (d.withDrained _ unsettled _).unclamped :=
          congrArg f hed
        exact ⟨hdepart, hacu, hinv, e, he, field Dip.job, field Dip.drained, field Dip.exitWeight, field Dip.dry,
          field (·.flags.drainedUnsettled), field (·.flags.overrange)⟩
      · rintro ⟨hst, hnone, v, e, hlog, hed⟩
        have field {α : Type} (f : Dip → α) : f e.unclamped = f (d.withDrained _ unsettled _).unclamped :=
          congrArg f hed
        exact ⟨hst, hnone, recordOf v e, hlog, field (·.job.id), field Dip.drained, field Dip.exitWeight, field Dip.dry,
          field (·.flags.drainedUnsettled), field (·.flags.overrange)⟩
  · show execSettleTimeout s = _
    simp only [execSettleTimeout, hop, if_neg (Nat.not_le.mpr htime)]
    rfl

end Sys2Proof.Machine
end

section
/-! SUPPORT. The course of the dip cycle as one record of the state: the registers that the invariants of the dip cycle, of the log
and of the queue read, what each shared operation makes of them, and the conditions on them. -/

namespace Sys2Proof.Machine

/-! ### The course -/

/-- The registers that `CycleWf`, `LogWf` and `QueueWf` read. -/
structure Course where
  stage    : Stage
  job      : Option Job
  queue    : List Job
  logged   : Nat
  reserved : Bool
  claim    : ClaimState
  mask     : Mask
  conflict : Bool
  yielding : Bool
  resv     : ResvState
  hand     : Option Phase
  running  : Bool

/-- The course of a state. -/
def State.course (s : State) : Course :=
  { stage := s.dcc.stage, job := s.job, queue := s.dcc.queue, logged := s.acu.log.length, reserved := s.acu.reserved
    claim := s.zcu.claim, mask := s.zcu.mask, conflict := s.zcu.conflict, yielding := s.zcu.yielding
    resv := s.adm.resv, hand := s.sgx.stage, running := s.sgx.current.isSome }

/-- `CycleWf` on the course (R20, R26, R51, R160, R163, R169, R175). -/
structure Course.CycleOk (v : Course) : Prop where
  quiet      : claimQuiet v.claim = true → v.mask = 0
  conflict   : v.conflict = true → v.claim = .held
  yielding   : v.yielding = true → v.conflict = true ∧ v.stage.yields = true
  kettle     : inKettle v.stage = true → v.claim = .held
  unclaimed  : v.stage = .idle ∨ v.stage = .weighDry → v.claim = .none
  admitted   : v.stage = .immerse ∨ v.stage = .soak → v.resv = .admitted
  unreserved : v.stage = .idle ∨ v.stage = .weighDry ∨ v.stage = .claim ∨ v.stage = .approach → v.resv = .none
  hand       : ∀ p, v.hand = some p → v.stage = phaseStage p ∨ v.stage = .fault
  running    : v.running = true → ∃ p, v.hand = some p ∧ v.stage = phaseStage p
  active     : v.job.isSome = true ↔ v.stage ≠ .idle
  left       : v.stage ≠ .release

/-- `LogWf` on the course (R101). -/
def Course.LogOk (v : Course) : Prop := v.reserved = v.job.isSome ∧ v.logged + v.reserved.toNat ≤ logSlots

/-- `QueueWf` on the course (R22). -/
def Course.QueueOk (v : Course) : Prop :=
  v.queue.length ≤ queueSlots ∧ (v.queue.map (·.id) ++ (v.job.map (·.id)).toList).Nodup

variable {s t u : State}

theorem course_active (s : State) : s.course.job.isSome = s.dcc.active.isSome := by simp [State.course, State.job]

theorem cycleWf_iff (s : State) : CycleWf s ↔ s.course.CycleOk := by
  have hactive := course_active s
  constructor
  · rintro ⟨⟨hquiet, hconflict, hyield⟩, ⟨hkettle, hunclaimed, hadmitted, hunreserved⟩, ⟨hhand, hrunning⟩, hact, hleft⟩
    exact ⟨hquiet, hconflict, hyield, hkettle, hunclaimed, hadmitted, hunreserved, hhand, hrunning, by rw [hactive]; exact hact,
      hleft⟩
  · intro h
    exact ⟨⟨h.quiet, h.conflict, h.yielding⟩, ⟨h.kettle, h.unclaimed, h.admitted, h.unreserved⟩, ⟨h.hand, h.running⟩,
      by rw [ActiveWf, ← hactive]; exact h.active, h.left⟩

theorem logWf_iff (s : State) : LogWf s ↔ s.course.LogOk := by
  rw [LogWf, Course.LogOk, course_active]
  rfl

theorem queueWf_iff (s : State) : QueueWf s ↔ s.course.QueueOk := Iff.rfl

/-- What leaves the blocks of the course, of the dip its stage, its job and the queue, leaves the course. -/
theorem course_congr (hst : t.dcc.stage = s.dcc.stage) (hj : t.job = s.job) (hq : t.dcc.queue = s.dcc.queue)
    (ha : t.acu = s.acu) (hz : t.zcu = s.zcu) (hr : t.adm.resv = s.adm.resv) (hx : t.sgx = s.sgx) :
    t.course = s.course := by
  rw [State.course, State.course, hst, hj, hq, ha, hz, hr, hx]

/-! ### Operations that leave the course -/

section Kept

variable (s)

@[simp] theorem onCpt_course (f : Cpt → Cpt) : (s.onCpt f).course = s.course := rfl
@[simp] theorem onKli_course (f : Kli → Kli) : (s.onKli f).course = s.course := rfl
@[simp] theorem onInv_course (f : Inv → Inv) : (s.onInv f).course = s.course := rfl
@[simp] theorem onHif_course (f : Hif → Hif) : (s.onHif f).course = s.course := rfl
@[simp] theorem onWgu_course (f : Wgu → Wgu) : (s.onWgu f).course = s.course := rfl
@[simp] theorem setPeer_course (i : StationIx) (e : PeerEntry) : (s.setPeer i e).course = s.course := rfl
@[simp] theorem nextFree_course : s.nextFree.course = s.course := rfl
@[simp] theorem raiseEvent_course (e : Event) : (raiseEvent e s).course = s.course := rfl
@[simp] theorem respond_course (r : ResultCode) (data : List Byte) : (respond r data s).course = s.course := rfl
@[simp] theorem drivePins_course : (drivePins s).course = s.course := rfl
@[simp] theorem refreshSurface_course : (refreshSurface s).course = s.course := rfl
@[simp] theorem formFull_course (n : Nat) : (formFull n s).course = s.course := rfl
@[simp] theorem clearFull_course : (clearFull s).course = s.course := rfl
@[simp] theorem weighRequest_course : (weighRequest s).course = s.course := rfl
@[simp] theorem dropWeigh_course : (dropWeigh s).course = s.course := rfl
@[simp] theorem markersLow_course : (markersLow s).course = s.course := rfl
@[simp] theorem takeCall_course (g : Segment) (k : Nat) : (takeCall g k s).course = s.course := rfl

/-- A change of the active dip that keeps its job. -/
theorem onDip_course {f : Dip → Dip} (hf : ∀ d, (f d).job = d.job) : (s.onDip f).course = s.course := by
  have hjob : (s.onDip f).job = s.job := by
    simp only [State.job, onDip_eq, onDcc_fields, Option.map_map]
    exact congrArg (Option.map · s.dcc.active) (funext hf)
  exact course_congr rfl hjob rfl rfl rfl rfl rfl

@[simp] theorem raiseState_course : (raiseState s).course = s.course := by
  apply course_congr <;> simp [State.job]

@[simp] theorem raiseStateIf_course (c : Bool) : (raiseStateIf c s).course = s.course := by
  apply course_congr <;> simp [State.job]
@[simp] theorem waitHold_course (r : HoldReason) : (waitHold r s).course = s.course := by
  apply course_congr <;> simp [State.job]
@[simp] theorem endHold_course : (endHold s).course = s.course := by
  apply course_congr <;> simp [State.job]
@[simp] theorem reportResv_course : (reportResv s).course = s.course := by
  apply course_congr <;> simp [State.job]
@[simp] theorem reportClaim_course : (reportClaim s).course = s.course := by
  apply course_congr <;> simp [State.job]
@[simp] theorem refreshActual_course : (refreshActual s).course = s.course := by
  unfold refreshActual
  repeat' split
  all_goals rfl
@[simp] theorem lowTest_course : (lowTest s).course = s.course := by
  unfold lowTest
  dsimp only
  split <;> rfl
@[simp] theorem secondFault_course : (secondFault s).course = s.course := rfl

/-- A change of the flags keeps the job. -/
@[simp] theorem onFlags_course (f : DipFlags → DipFlags) : (s.onFlags f).course = s.course := onDip_course s fun _ => rfl

end Kept

/-! ### Operations that change it -/

/-- The course in another stage, in which the yield goes on where it may be in effect (R26, R169). -/
def Course.atStage (st : Stage) (v : Course) : Course := { v with stage := st, yielding := v.yielding && st.yields }

section Changed

variable (s)

@[simp] theorem setStage_course (st : Stage) :
    (setStage st s).course = s.course.atStage st := by
  rw [setStage, raiseState_course]
  rfl

@[simp] theorem setClaim_course (c : ClaimState) (m : Mask) :
    (setClaim c m s).course = { s.course with claim := c, mask := m } := by
  rw [setClaim, reportClaim_course, raiseStateIf_course]
  rfl

@[simp] theorem setResv_course (r : ResvState) : (setResv r s).course = { s.course with resv := r } := by
  rw [setResv, reportResv_course, raiseStateIf_course]
  rfl

@[simp] theorem dropSegment_course : (dropSegment s).course = { s.course with running := false } := rfl

@[simp] theorem dropRecipe_course : (dropRecipe s).course = { s.course with hand := none, running := false } := rfl

@[simp] theorem releaseClaim_course :
    (releaseClaim s).course = { s.course with claim := .none, mask := 0, conflict := false, yielding := false } := by
  rw [releaseClaim, setClaim_course]
  rfl

@[simp] theorem releaseResv_course : (releaseResv s).course = { s.course with resv := .none } := by
  rw [releaseResv, setResv_course]
  rfl

/-- The start of a segment sets what is running, and nothing else of the course (R53). -/
theorem startSegment_course (g : Segment) :
    (startSegment g s).course = { s.course with running := (startSegment g s).sgx.current.isSome } := by
  have hhand := startSegment_hand s g
  simp [State.course, State.job, hhand]

theorem startLeg_course (r : Running) (hr : s.sgx.current.isSome = true) : (startLeg r s).course = s.course := by
  have hrunning : s.course.running = true := hr
  unfold startLeg
  split
  · rfl
  · show { s.course with running := true } = s.course
    rw [← hrunning]

theorem handStage_course (p : Phase) :
    (handStage p s).course = { s.course.atStage (phaseStage p) with hand := some p } := by
  have h : (handStage p s).course = { (setStage (phaseStage p) s).course with hand := some p } := by cases p <;> rfl
  rw [h, setStage_course]

theorem enterWeighExit_course : (enterWeighExit s).course = s.course.atStage .weighExit := by
  unfold enterWeighExit
  rw [weighRequest_course, setStage_course, onDip_course]
  exact fun _ => rfl

theorem enterWeighDrained_course : (enterWeighDrained s).course = s.course.atStage .weighDrained := by
  rw [enterWeighDrained, weighRequest_course, setStage_course]

end Changed

/-! ### The end of a dip -/

/-- The course at the end of a dip but for its stage: nothing is held, nothing is in hand, and the record of the job that was
active takes the slot (R34, R46, R64, R102). -/
def Course.ended (v : Course) : Course :=
  { v with
    job := none, claim := .none, mask := 0, conflict := false, yielding := false, resv := .none, hand := none
    running := false, reserved := v.reserved && v.job.isNone, logged := v.logged + v.job.isSome.toNat }

/-- Without a reservation, an arrival at the INV leaves the course (R148, R176). -/
theorem invArrive_course_of_none (f : Inv → Inv) (s : State) (h : s.adm.resv = .none) : (invArrive f s).course = s.course := by
  unfold invArrive
  dsimp only
  rw [raiseStateIf_course, lowTest_course]
  split
  · rfl
  · have hr : (refreshSurface (s.onInv fun v => (f v).relevel s.settings.area)).adm.resv = .none := h
    rw [admLevelChanged, reviewResv, hr]
    rfl

/-- The store of the active dip's record, where no reservation is held (R102). -/
theorem storeDip_course_of_none (s : State) (h : s.adm.resv = .none) :
    (storeDip s).course
      = { s.course with reserved := s.acu.reserved && s.job.isNone, logged := s.acu.log.length + s.job.isSome.toNat } := by
  cases hd : s.dcc.active with
  | none =>
    have hj : s.job = none := by rw [State.job, hd]; rfl
    rw [storeDip_of_none s hd, hj]
    simp [State.course]
  | some d =>
    have hj : s.job = some d.job := by rw [State.job, hd]; rfl
    have hlog : (logRecord (recordOf s d) s).adm.resv = .none := by simpa using h
    rw [storeDip_eq s hd, invArrive_course_of_none _ _ hlog, hj]
    simp [State.course, State.job, logRecord_acu]

theorem finishDip_course (s : State) : (finishDip s).course = s.course.ended := by
  have hresv : (dropRecipe (markersLow (releaseResv (releaseClaim s)))).adm.resv = .none := by simp [releaseResv]
  have hdrop : ∀ v : State, (v.onDcc fun d => { d with active := none }).course = { v.course with job := none } := fun _ => rfl
  have hjob : (dropRecipe (markersLow (releaseResv (releaseClaim s)))).job = s.job := by simp [State.job]
  have hacu : (dropRecipe (markersLow (releaseResv (releaseClaim s)))).acu = s.acu := by simp
  rw [finishDip, clearFull_course, hdrop, raiseEvent_course, storeDip_course_of_none _ hresv, hjob, hacu]
  simp only [dropRecipe_course, markersLow_course, releaseResv_course, releaseClaim_course]
  rfl

theorem releaseDip_course (s : State) : (releaseDip s).course = { s.course.ended with stage := .idle } := by
  rw [releaseDip, setStage_course, finishDip_course, setStage_course, endHold_course]
  rfl

end Sys2Proof.Machine
end

section
/-! SUPPORT. How a command leads from one course of the dip cycle to another: its conditions are kept, and a dip at rest, in IDLE
or in FAULT with nothing running, stays as it is. The shared operations of the claim, of the reservation and of the walk. -/

namespace Sys2Proof.Machine

/-! ### The ways of the course -/

/-- The conditions of the log and of the queue are kept (R22, R101). -/
structure Course.Books (v w : Course) : Prop where
  log   : v.LogOk → w.LogOk
  queue : v.QueueOk → w.QueueOk

/-- The dip rests: IDLE or FAULT, and nothing running. -/
def Course.Resting (v : Course) : Prop := v.running = false ∧ (v.stage = .idle ∨ v.stage = .fault)

/-- Every condition on the course is kept, and a dip at rest rests on in its stage (R24, R44). -/
structure Course.Leads (v w : Course) : Prop extends Course.Books v w where
  cycle : v.CycleOk → w.CycleOk
  rest  : v.Resting → w.running = false ∧ w.stage = v.stage

variable {v w x : Course}

theorem Course.Books.refl (v : Course) : v.Books v := ⟨id, id⟩
theorem Course.Books.trans (h : v.Books w) (h' : w.Books x) : v.Books x := ⟨h'.log ∘ h.log, h'.queue ∘ h.queue⟩

/-- The log, the slot, the job and the queue as they were. -/
theorem Course.Books.of_eq (hl : w.logged = v.logged) (hr : w.reserved = v.reserved) (hj : w.job = v.job)
    (hq : w.queue = v.queue) : v.Books w :=
  ⟨fun h => by rwa [Course.LogOk, hl, hr, hj], fun h => by rwa [Course.QueueOk, hq, hj]⟩

theorem Course.Leads.refl (v : Course) : v.Leads v := ⟨.refl v, id, fun h => ⟨h.1, rfl⟩⟩

theorem Course.Leads.trans (h : v.Leads w) (h' : w.Leads x) : v.Leads x where
  toBooks := h.toBooks.trans h'.toBooks
  cycle := h'.cycle ∘ h.cycle
  rest hv := by
    obtain ⟨hw, hstage⟩ := h.rest hv
    obtain ⟨hx, hstage'⟩ := h'.rest ⟨hw, by rw [hstage]; exact hv.2⟩
    exact ⟨hx, hstage'.trans hstage⟩

theorem Course.Leads.of_eq (h : w = v) : v.Leads w := h ▸ .refl v

/-- Where the dip does not rest, its conditions are to be kept only. -/
theorem Course.Leads.of_cycle (hb : v.Books w) (hc : v.CycleOk → w.CycleOk) (hr : ¬ v.Resting) : v.Leads w :=
  ⟨hb, hc, fun h => absurd h hr⟩

/-- The end of a dip frees its slot, takes its record and forgets its job (R34, R101). -/
theorem ended_books (v : Course) : v.Books v.ended := by
  constructor
  · rintro ⟨hreserved, hroom⟩
    cases hj : v.job <;> simp_all [Course.LogOk, Course.ended]
  · rintro ⟨hlength, hids⟩
    exact ⟨hlength, by simpa [Course.ended] using (List.nodup_append.mp hids).1⟩

theorem atStage_books (st : Stage) (v : Course) : v.Books (v.atStage st) := .of_eq rfl rfl rfl rfl

/-- IDLE after the end of a dip meets every condition. -/
theorem ended_cycleOk (v : Course) : ({ v.ended with stage := .idle } : Course).CycleOk where
  quiet _ := rfl
  conflict := nofun
  yielding := nofun
  kettle := nofun
  unclaimed _ := rfl
  admitted := nofun
  unreserved _ := rfl
  hand := nofun
  running := nofun
  active := by simp [Course.ended]
  left := nofun

/-! ### Changes of the claim and of the reservation -/

/-- A reservation that is asked for: WAITING or PENDING (R172). -/
def ResvState.asked (r : ResvState) : Prop := r ≠ .none ∧ r ≠ .admitted

/-- A claim that is asked for: WAITING or PENDING (R160). -/
def ClaimState.asked (c : ClaimState) : Prop := c ≠ .none ∧ c ≠ .held

theorem asked_of_waiting {r : ResvState} {reason : ResvReason} (h : r = .waiting reason) : r.asked := by
  rw [h]; exact ⟨nofun, nofun⟩

theorem asked_of_pending {r : ResvState} {window : Option Word} (h : r = .pending window) : r.asked := by
  rw [h]; exact ⟨nofun, nofun⟩

theorem claimAsked_of_waiting {c : ClaimState} {reason : ClaimReason} (h : c = .waiting reason) : c.asked := by
  rw [h]; exact ⟨nofun, nofun⟩

theorem claimAsked_of_pending {c : ClaimState} {window : Option Word} (h : c = .pending window) : c.asked := by
  rw [h]; exact ⟨nofun, nofun⟩

/-- What becomes of a reservation that is asked for: such a reservation belongs to no stage that another condition is on. -/
theorem Course.Leads.resv (hr : v.resv.asked) (r : ResvState) : v.Leads { v with resv := r } where
  toBooks := .of_eq rfl rfl rfl rfl
  cycle h := { h with
    admitted := fun hs => absurd (h.admitted hs) hr.2
    unreserved := fun hs => absurd (h.unreserved hs) hr.1 }
  rest h := ⟨h.1, rfl⟩

/-- What becomes of a claim that is asked for. -/
theorem Course.Leads.claim (hc : v.claim.asked) {c : ClaimState} {m : Mask} (hm : claimQuiet c = true → m = 0) :
    v.Leads { v with claim := c, mask := m } where
  toBooks := .of_eq rfl rfl rfl rfl
  cycle h := { h with
    quiet := hm
    conflict := fun hf => absurd (h.conflict hf) hc.2
    kettle := fun hs => absurd (h.kettle hs) hc.2
    unclaimed := fun hs => absurd (h.unclaimed hs) hc.1 }
  rest h := ⟨h.1, rfl⟩

/-- A reservation falls where the load is out of the zinc (R182). -/
theorem Course.Leads.cleared (hs : v.stage.testsClear = true) : v.Leads { v with resv := .none } where
  toBooks := .of_eq rfl rfl rfl rfl
  cycle h := { h with
    admitted := fun hi => by
      have hi : v.stage = .immerse ∨ v.stage = .soak := hi
      rcases hi with hi | hi <;> rw [hi] at hs <;> cases hs
    unreserved := fun _ => rfl }
  rest h := ⟨h.1, rfl⟩

variable {s t u : State}

section Reservation

variable (s)

theorem setResv_leads (hr : s.adm.resv.asked) (r : ResvState) : s.course.Leads (setResv r s).course := by
  rw [setResv_course]
  exact .resv hr r

theorem testResv_course : ∃ r : ResvState, r.asked ∧ (testResv s).course = { s.course with resv := r } := by
  unfold testResv
  split
  · exact ⟨_, asked_of_waiting rfl, setResv_course s _⟩
  · exact ⟨_, asked_of_pending rfl, setResv_course s _⟩

theorem testResv_leads (hr : s.adm.resv.asked) : s.course.Leads (testResv s).course := by
  obtain ⟨r, -, h⟩ := testResv_course s
  rw [h]
  exact .resv hr r

theorem reviewResv_leads : s.course.Leads (reviewResv s).course := by
  unfold reviewResv
  split
  · rename_i h
    split
    · exact .refl _
    · exact testResv_leads s (asked_of_waiting h)
  · rename_i h
    split
    · exact .refl _
    · exact setResv_leads s (asked_of_pending h) _
  · exact .refl _

theorem admLineLost_leads : s.course.Leads (admLineLost s).course := by
  unfold admLineLost
  split
  · rename_i h
    split
    · exact .refl _
    · exact testResv_leads s (asked_of_waiting h)
  · rename_i h
    exact setResv_leads s (asked_of_pending h) _
  · exact .refl _

theorem admLineBack_leads : s.course.Leads (admLineBack s).course := by
  unfold admLineBack
  split
  · rename_i h
    split
    · exact .refl _
    · exact testResv_leads s (asked_of_waiting h)
  · exact .refl _

/-- The gate is no part of the course (R180). -/
theorem closeGate_leads : s.course.Leads (closeGate s).course := by
  let g := s.onAdm fun a => { a with gateClosed := true }
  show g.course.Leads (closeGate s).course
  unfold closeGate
  dsimp only
  split
  · rename_i h
    split
    · exact .refl _
    · exact testResv_leads g (asked_of_waiting h)
  · rename_i h
    exact setResv_leads g (asked_of_pending h) _
  · exact .refl _

theorem openGate_leads : s.course.Leads (openGate s).course :=
  admLineBack_leads (s.onAdm fun a => { a with gateClosed := false })

theorem admCompletion_leads (contents : Announced) : s.course.Leads (admCompletion contents s).course := by
  unfold admCompletion
  split
  · rename_i h
    split
    · exact Course.Leads.resv (v := s.course) (asked_of_pending h) _
    · exact .refl _
  · exact .refl _

theorem testClear_leads : s.course.Leads (testClear s).course := by
  unfold testClear
  split
  · rename_i h
    rw [onDip_course, setResv_course]
    · exact .cleared h.2.1
    · exact fun _ => rfl
  · exact .refl _

theorem admHookUpdate_leads : s.course.Leads (admHookUpdate s).course :=
  .trans (.of_eq (refreshActual_course s)) (testClear_leads _)

theorem invArrive_leads (f : Inv → Inv) : s.course.Leads (invArrive f s).course := by
  unfold invArrive
  dsimp only
  rw [raiseStateIf_course, lowTest_course]
  split
  · exact .refl _
  · exact reviewResv_leads (refreshSurface (s.onInv _))

theorem invPeerState_leads (first : Bool) (new last : Announced) :
    s.course.Leads (invPeerState first new last s).course := by
  unfold invPeerState
  split
  · exact invArrive_leads s _
  · exact invArrive_leads s _

end Reservation

section Claim

variable (s)

theorem setClaim_leads (hc : s.zcu.claim.asked) {c : ClaimState} {m : Mask} (hm : claimQuiet c = true → m = 0) :
    s.course.Leads (setClaim c m s).course := by
  rw [setClaim_course]
  exact .claim hc hm

theorem testClaim_course : ∃ c m, ClaimState.asked c ∧ (claimQuiet c = true → m = 0)
    ∧ (testClaim s).course = { s.course with claim := c, mask := m } := by
  unfold testClaim
  split
  · exact ⟨_, _, claimAsked_of_waiting rfl, fun _ => rfl, setClaim_course s _ _⟩
  · exact ⟨_, _, claimAsked_of_pending rfl, nofun, setClaim_course s _ _⟩

theorem testClaim_leads (hc : s.zcu.claim.asked) : s.course.Leads (testClaim s).course := by
  obtain ⟨c, m, -, hm, h⟩ := testClaim_course s
  rw [h]
  exact .claim hc hm

theorem reviewPending_leads (i : StationIx) (hc : s.zcu.claim.asked) : s.course.Leads (reviewPending i s).course := by
  unfold reviewPending
  dsimp only
  repeat' split
  · exact setClaim_leads s hc fun _ => rfl
  · exact setClaim_leads s hc fun _ => rfl
  · exact .of_eq (raiseState_course s)
  · exact .refl _
  · exact .refl _

theorem zcuLineChanged_leads : s.course.Leads (zcuLineChanged s).course := by
  unfold zcuLineChanged
  split
  · rename_i h
    exact testClaim_leads s (claimAsked_of_waiting h)
  · rename_i h
    split
    · exact setClaim_leads s (claimAsked_of_pending h) fun _ => rfl
    · exact .refl _
  · exact .refl _

theorem zcuCompletion_leads (contents : Announced) : s.course.Leads (zcuCompletion contents s).course := by
  unfold zcuCompletion
  split
  · rename_i h
    split
    · exact Course.Leads.claim (v := s.course) (claimAsked_of_pending h) (c := .pending (some s.sck)) (m := s.zcu.mask) nofun
    · exact .refl _
  · exact .refl _

end Claim

/-! ### The walk of the Segment Executor -/

section Walk

variable (s)

theorem releaseDip_books : s.course.Books (releaseDip s).course := by
  rw [releaseDip_course]
  exact (ended_books _).trans (.of_eq rfl rfl rfl rfl)

theorem handStage_books (p : Phase) : s.course.Books (handStage p s).course := by
  rw [handStage_course]
  exact .of_eq rfl rfl rfl rfl

theorem startSegment_books (g : Segment) : s.course.Books (startSegment g s).course := by
  rw [startSegment_course]
  exact .of_eq rfl rfl rfl rfl

theorem leavePhase_books (p : Phase) : s.course.Books (leavePhase p s).course := by
  let t := s.onSgx fun x => { x with stage := none }
  have ht : s.course.Books t.course := .of_eq rfl rfl rfl rfl
  refine ht.trans ?_
  cases p with
  | approach =>
    obtain ⟨r, -, h⟩ := testResv_course (setStage .admitting t)
    show t.course.Books (testResv (setStage .admitting t)).course
    rw [h, setStage_course]
    exact .of_eq rfl rfl rfl rfl
  | immerse => exact .refl _
  | soak => exact .refl _
  | withdraw =>
    show t.course.Books (enterWeighExit t).course
    rw [enterWeighExit_course]
    exact atStage_books _ _
  | drain =>
    show t.course.Books (enterWeighDrained t).course
    rw [enterWeighDrained_course]
    exact atStage_books _ _
  | depart => exact releaseDip_books t

/-- The walk stores at most the record of the active dip, and takes no job. -/
theorem sgxRun_books (n : Nat) : s.course.Books (sgxRun n s).course :=
  sgxRun_keeps (P := fun u => s.course.Books u.course) s (fun _ _ h => h.trans (.of_eq rfl rfl rfl rfl))
    (fun _ _ h => h.trans (handStage_books _ _)) (fun _ _ _ h => h.trans (.of_eq rfl rfl rfl rfl))
    (fun _ _ h => h.trans (startSegment_books _ _)) (fun _ _ h => h.trans (leavePhase_books _ _))
    (fun u r h => by rw [waitHold_course]; exact h) n (.refl _)

theorem enterMotion_books (p : Phase) : s.course.Books (enterMotion p s).course :=
  (handStage_books s p).trans (sgxRun_books _ _)

theorem endSegment_books : s.course.Books (endSegment s).course :=
  have hdrop : s.course.Books (dropSegment s).course := .of_eq rfl rfl rfl rfl
  hdrop.trans (sgxRun_books _ _)

/-- A course on which the Segment Executor may walk: the dip is not in FAULT and nothing is running. -/
structure Course.Walks (v : Course) : Prop extends Course.CycleOk v where
  sound : v.stage ≠ .fault
  still : v.running = false

variable {s}

theorem phaseStage_inKettle (p : Phase) : inKettle (phaseStage p) = true := by cases p <;> rfl
theorem ne_idle_of_inKettle {st : Stage} (h : inKettle st = true) : st ≠ .idle := by rintro rfl; cases h
theorem ne_fault_of_inKettle {st : Stage} (h : inKettle st = true) : st ≠ .fault := by rintro rfl; cases h

theorem Course.Walks.stage_of_hand (h : v.Walks) {p : Phase} (hp : v.hand = some p) : v.stage = phaseStage p :=
  (h.hand p hp).resolve_right h.sound

/-- A dip under way goes on in a stage of the kettle with its claim HELD (R26, R163, R175). -/
theorem Course.CycleOk.inKettle (h : v.CycleOk) (hrun : v.running = false) (hclaim : v.claim = .held)
    (hactive : v.stage ≠ .idle) {st : Stage} (hst : Machine.inKettle st = true)
    (hadmit : st = .immerse ∨ st = .soak → v.resv = .admitted) (happroach : st = .approach → v.resv = .none)
    {o : Option Phase} (ho : ∀ p, o = some p → st = phaseStage p) :
    ({ v.atStage st with hand := o } : Course).Walks where
  quiet := h.quiet
  conflict := h.conflict
  yielding hy := by
    obtain ⟨hv, hyields⟩ := (Bool.and_eq_true _ _).mp hy
    exact ⟨(h.yielding hv).1, hyields⟩
  kettle _ := hclaim
  unclaimed hs := by
    have hs : st = .idle ∨ st = .weighDry := hs
    rcases hs with rfl | rfl <;> cases hst
  admitted := hadmit
  unreserved hs := by
    have hs : st = .idle ∨ st = .weighDry ∨ st = .claim ∨ st = .approach := hs
    rcases hs with rfl | rfl | rfl | rfl
    · cases hst
    · cases hst
    · cases hst
    · exact happroach rfl
  hand p hp := .inl (ho p hp)
  running hr := by cases (hrun.symm.trans hr : false = true)
  active := ⟨fun _ => ne_idle_of_inKettle hst, fun _ => h.active.mpr hactive⟩
  left hs := by
    have hs : st = .release := hs
    rw [hs] at hst
    cases hst
  sound := ne_fault_of_inKettle hst
  still := hrun

/-- In ADMIT every state of the reservation agrees (R175). -/
theorem Course.CycleOk.resv_of_admitting (h : v.CycleOk) (hs : v.stage = .admitting) (r : ResvState) :
    ({ v with resv := r } : Course).CycleOk :=
  { h with
    admitted := fun hi => by have hi : v.stage = .immerse ∨ v.stage = .soak := hi; rw [hs] at hi; simp at hi
    unreserved := fun hi => by
      have hi : v.stage = .idle ∨ v.stage = .weighDry ∨ v.stage = .claim ∨ v.stage = .approach := hi
      rw [hs] at hi
      simp at hi }

/-- A segment of the stage in hand runs (R51, R53). -/
theorem Course.Walks.run (h : v.Walks) {p : Phase} (hp : v.hand = some p) (b : Bool) :
    ({ v with running := b } : Course).CycleOk :=
  { h.toCycleOk with running := fun _ => ⟨p, hp, h.stage_of_hand hp⟩ }

/-- The Segment Executor goes from its phase to a later one that its claim and its reservation allow. -/
theorem Course.Walks.advance (h : v.Walks) {p : Phase} (hp : v.hand = some p) {st : Stage}
    (hst : Machine.inKettle st = true) (hadmit : st = .immerse ∨ st = .soak → v.resv = .admitted) (hne : st ≠ .approach)
    {o : Option Phase} (ho : ∀ q, o = some q → st = phaseStage q) :
    ({ v.atStage st with hand := o } : Course).Walks := by
  have hk : Machine.inKettle v.stage = true := by rw [h.stage_of_hand hp]; exact phaseStage_inKettle p
  exact h.toCycleOk.inKettle h.still (h.kettle hk) (ne_idle_of_inKettle hk) hst hadmit (fun h => absurd h hne) ho

theorem find_hand (hf : s.find ≠ .nothing) : ∃ p, s.sgx.stage = some p := by
  cases hp : s.sgx.stage with
  | none => exact absurd (by simp only [State.find, hp]) hf
  | some p => exact ⟨p, rfl⟩

/-- SOAK follows IMMERSE and WITHDRAW follows SOAK (R31): the reservation is ADMITTED in each. -/
theorem Course.Walks.follow (h : v.Walks) {p q : Phase} (hp : v.hand = some p) (hq : phaseFollowing p = some q) :
    ({ v.atStage (phaseStage q) with hand := some q } : Course).Walks := by
  have hstage := h.stage_of_hand hp
  refine h.advance hp (phaseStage_inKettle q) (fun hs => ?_) ?_ (fun r hr => by cases hr; rfl)
  · cases p with
    | immerse => exact h.admitted (.inl hstage)
    | soak => cases hq; rcases hs with hs | hs <;> cases hs
    | _ => cases hq
  · cases p with
    | immerse => cases hq; nofun
    | soak => cases hq; nofun
    | _ => cases hq

/-- The stage after a last phase (R26): the claim is HELD in each, and RELEASE ends in IDLE. -/
theorem leavePhase_cycleOk (h : s.course.Walks) {p : Phase} (hp : s.sgx.stage = some p) (hlast : phaseFollowing p = none) :
    (leavePhase p s).course.CycleOk := by
  let t := s.onSgx fun x => { x with stage := none }
  have hadvance : ∀ st, inKettle st = true → st ≠ .immerse → st ≠ .soak → st ≠ .approach → (t.course.atStage st).Walks :=
    fun st hst hi hs ha => h.advance hp hst (fun h => by simp [hi, hs] at h) ha (o := none) nofun
  cases p with
  | approach =>
    obtain ⟨r, -, hr⟩ := testResv_course (setStage .admitting t)
    show (testResv (setStage .admitting t)).course.CycleOk
    rw [hr, setStage_course]
    exact (hadvance .admitting rfl nofun nofun nofun).toCycleOk.resv_of_admitting rfl r
  | withdraw =>
    show (enterWeighExit t).course.CycleOk
    rw [enterWeighExit_course]
    exact (hadvance .weighExit rfl nofun nofun nofun).toCycleOk
  | drain =>
    show (enterWeighDrained t).course.CycleOk
    rw [enterWeighDrained_course]
    exact (hadvance .weighDrained rfl nofun nofun nofun).toCycleOk
  | depart =>
    show (releaseDip t).course.CycleOk
    rw [releaseDip_course]
    exact ended_cycleOk _
  | immerse => cases hlast
  | soak => cases hlast

/-- The walk keeps the blocks of the dip cycle in agreement (R51 to R55). -/
theorem sgxRun_cycleOk (n : Nat) (h : s.course.Walks) : (sgxRun n s).course.CycleOk := by
  induction n generalizing s with
  | zero => exact h.toCycleOk
  | succ n ih =>
    by_cases hn : s.find = .nothing
    · rw [sgxRun_nothing n hn]
      exact h.toCycleOk
    obtain ⟨p, hp⟩ := find_hand hn
    cases hf : s.find with
    | nothing => exact absurd hf hn
    | back next =>
      rw [sgxRun_back n hf]
      exact ih h
    | pass seg =>
      rw [sgxRun_pass n hf]
      exact ih h
    | done q =>
      obtain rfl := find_done hp hf
      cases hq : phaseFollowing q with
      | some r =>
        rw [sgxRun_done_next n hf hq]
        refine ih ?_
        rw [handStage_course]
        exact h.follow hp hq
      | none =>
        rw [sgxRun_done_leave n hf hq]
        exact leavePhase_cycleOk h hp hq
    | start seg =>
      by_cases hy : s.dcc.stage = .approach ∧ s.zcu.yielding = true
      · rw [sgxRun_yield n hf hy, waitHold_course]
        exact h.toCycleOk
      · by_cases hw : ∃ k, seg.work = .call k
        · obtain ⟨k, hk⟩ := hw
          rw [sgxRun_call n hf hy hk]
          exact ih (by rw [takeCall_course]; exact h)
        · rw [sgxRun_start n hf hy (by simpa using hw)]
          have hrun := h.run hp (startSegment seg s).sgx.current.isSome
          rw [← startSegment_course] at hrun
          split
          · rename_i hnone
            refine ih { hrun with sound := ?_, still := ?_ }
            · rw [startSegment_course]
              exact h.sound
            · rw [Option.isNone_iff_eq_none] at hnone
              show (startSegment seg s).sgx.current.isSome = false
              rw [hnone]
              rfl
          · exact hrun

/-- The end of a running segment (R54). -/
theorem endSegment_leads (s : State) (hr : s.sgx.current.isSome = true) : s.course.Leads (endSegment s).course := by
  refine .of_cycle (endSegment_books s) (fun h => ?_) fun h => ?_
  · obtain ⟨p, -, hstage⟩ := h.running hr
    have hsound : (dropSegment s).course.stage ≠ .fault := by
      show s.course.stage ≠ .fault
      rw [hstage]
      exact ne_fault_of_inKettle (phaseStage_inKettle p)
    exact sgxRun_cycleOk _ { h with running := nofun, sound := hsound, still := rfl }
  · have hn : s.sgx.current.isSome = false := h.1
    rw [hr] at hn
    cases hn

/-- A motion stage entered with the claim HELD (R29, R31, R34). -/
theorem enterMotion_cycleOk (p : Phase) (h : s.course.CycleOk) (hrun : s.sgx.current = none) (hclaim : s.zcu.claim = .held)
    (hactive : s.dcc.stage ≠ .idle)
    (hadmit : phaseStage p = .immerse ∨ phaseStage p = .soak → s.adm.resv = .admitted)
    (happroach : phaseStage p = .approach → s.adm.resv = .none) : (enterMotion p s).course.CycleOk := by
  refine sgxRun_cycleOk _ ?_
  rw [handStage_course]
  have hstill : s.course.running = false := by show s.sgx.current.isSome = false; rw [hrun]; rfl
  exact h.inKettle hstill hclaim hactive (phaseStage_inKettle p) hadmit happroach (fun q hq => by cases hq; rfl)

theorem sgxHookUpdate_leads (s : State) : s.course.Leads (sgxHookUpdate s).course := by
  cases hc : s.sgx.current with
  | none =>
    rw [sgxHookUpdate, hc]
    exact .refl _
  | some r =>
    have hr : s.sgx.current.isSome = true := by rw [hc]; rfl
    have hend := endSegment_leads s hr
    have hleg : ∀ (n : Nat) (r : Running), s.course.Leads (startLeg r (s.onSgx fun x => { x with repeats := n })).course :=
      fun n r => .of_eq (startLeg_course _ r hr)
    unfold sgxHookUpdate
    rw [hc]
    cases r with
    | move frozen target speed =>
      dsimp only
      split
      exacts [hend, .refl _]
    | dwell => exact .refl _
    | wait input edge => exact .refl _
    | shake frozen lower upper speed count leg =>
      cases leg with
      | first =>
        dsimp only
        repeat' split
        exacts [hend, hleg _ _, .refl _]
      | up =>
        dsimp only
        repeat' split
        exacts [hend, .of_eq (startLeg_course s _ hr), .refl _]
      | down =>
        dsimp only
        repeat' split
        exacts [hend, hend, hleg _ _, .refl _]

end Walk

end Sys2Proof.Machine
end

section
/-! SUPPORT. The ways of the course at the shared operations between the blocks: the conflict check and the yield, table changes,
LINE_LOST, the weights delivered and the faults. -/

namespace Sys2Proof.Machine

variable {s t u : State} {v w : Course}

/-! ### Conflict and yield (R37, R168, R169, R180) -/

/-- The conflict flag and the yield after a check, the yield only under the flag, in APPROACH and ADMIT, and the flag only
while HELD (R168, R169). -/
theorem Course.Leads.flags {conflict yielding : Bool} (hc : conflict = true → v.claim = .held)
    (hy : yielding = true → conflict = true ∧ v.stage.yields = true) :
    v.Leads { v with conflict := conflict, yielding := yielding } where
  toBooks := .of_eq rfl rfl rfl rfl
  cycle h := { h with conflict := hc, yielding := hy }
  rest h := ⟨h.1, rfl⟩

theorem beginConflict_course (s : State) : (beginConflict s).course = { s.course with conflict := true } := by
  rw [beginConflict, raiseState_course, raiseEvent_course, onFlags_course]
  rfl

theorem checkFlag_course (l : List (StationIx × PeerEntry)) (s : State) :
    (checkFlag l s).course = { s.course with conflict := !l.isEmpty } := by
  unfold checkFlag
  split
  · rename_i h
    rw [h]
    rfl
  · rename_i h
    have hl : l.isEmpty = false := by simpa using h
    rw [hl]
    split
    · rename_i hc
      rw [Bool.not_false, ← hc]
      rfl
    · exact beginConflict_course s

/-- A conflicting entry is one of a HELD claim (R168). -/
theorem claim_of_conflicting (h : s.conflicting ≠ []) : s.zcu.claim = .held := by
  unfold State.conflicting at h
  split at h
  · assumption
  · exact absurd rfl h

theorem beginYield_leads (s : State) :
    ({ s.course with yielding := true } : Course).Leads (beginYield s).course := by
  have hgate : ({ s.course with yielding := true } : Course).Leads
      (closeGate (s.onZcu fun z => { z with yielding := true })).course :=
    closeGate_leads (s.onZcu fun z => { z with yielding := true })
  unfold beginYield
  dsimp only
  split
  · rw [waitHold_course]
    exact hgate
  · exact hgate

theorem endYield_leads (s : State) :
    ({ s.course with yielding := false } : Course).Leads (endYield s).course := by
  have hgate : ({ s.course with yielding := false } : Course).Leads
      (openGate (s.onZcu fun z => { z with yielding := false })).course :=
    openGate_leads (s.onZcu fun z => { z with yielding := false })
  unfold endYield
  dsimp only
  split
  · rename_i h
    obtain ⟨hstage, -, hcurrent⟩ := h
    refine hgate.trans ?_
    generalize openGate (s.onZcu fun z => { z with yielding := false }) = g at hstage hcurrent
    rw [← endHold_course g]
    have hstage' : (endHold g).course.stage = .approach := by rw [endHold_course]; exact hstage
    refine .of_cycle (sgxRun_books _ _) (fun h => sgxRun_cycleOk _ { h with sound := ?_, still := ?_ }) fun h => ?_
    · rw [hstage']
      nofun
    · rw [endHold_course]
      show g.sgx.current.isSome = false
      rw [Option.isNone_iff_eq_none] at hcurrent
      rw [hcurrent]
      rfl
    · rcases h.2 with h | h <;> rw [hstage'] at h <;> cases h
  · exact hgate

theorem conflictCheck_leads (s : State) : s.course.Leads (conflictCheck s).course := by
  have hheld : (!s.conflicting.isEmpty) = true → s.course.claim = .held := fun h => by
    refine claim_of_conflicting fun hn => ?_
    rw [hn] at h
    cases h
  have hcourse := checkFlag_course s.conflicting s
  unfold conflictCheck
  dsimp only
  split
  · rename_i hyields
    have hconflict : (!s.conflicting.isEmpty) = true ∧ s.dcc.stage.yields = true := by
      unfold State.yieldsTo at hyields
      obtain ⟨hstage, hany⟩ := (Bool.and_eq_true _ _).mp hyields
      refine ⟨?_, hstage⟩
      cases hl : s.conflicting with
      | nil => rw [hl] at hany; cases hany
      | cons => rfl
    split
    · rename_i hy
      rw [hcourse]
      exact .flags hheld fun _ => hconflict
    · refine .trans (w := { s.course with conflict := !s.conflicting.isEmpty, yielding := true }) ?_ ?_
      · exact .flags hheld fun _ => hconflict
      · have h := beginYield_leads (checkFlag s.conflicting s)
        rw [hcourse] at h
        exact h
  · split
    · refine .trans (w := { s.course with conflict := !s.conflicting.isEmpty, yielding := false }) ?_ ?_
      · exact .flags hheld nofun
      · have h := endYield_leads (checkFlag s.conflicting s)
        rw [hcourse] at h
        exact h
    · rename_i hend
      rw [hcourse]
      refine ⟨.of_eq rfl rfl rfl rfl, fun h => { h with conflict := hheld, yielding := fun hy => ?_ }, fun h => ⟨h.1, rfl⟩⟩
      exact absurd ⟨hy, (h.yielding hy).2⟩ hend

/-! ### Table changes (R141) -/

theorem zcuTableChange_leads (i : Option StationIx) (s : State) : s.course.Leads (zcuTableChange i s).course := by
  unfold zcuTableChange
  split
  · exact .refl _
  · rename_i h
    exact testClaim_leads s (claimAsked_of_waiting h)
  · rename_i h
    split
    · exact reviewPending_leads s _ (claimAsked_of_pending h)
    · exact .refl _
  · split
    · exact .trans (.of_eq (raiseStateIf_course s _)) (conflictCheck_leads _)
    · exact conflictCheck_leads s

theorem tableChange_leads (i : Option StationIx) (s : State) : s.course.Leads (tableChange i s).course := by
  unfold tableChange tableChangeWith
  split
  · exact (zcuTableChange_leads i (refreshSurface s.nextFree)).trans (reviewResv_leads _)
  · exact (zcuTableChange_leads i s.nextFree).trans (reviewResv_leads (refreshSurface _))

theorem dropPeer_leads (i : StationIx) (s : State) : s.course.Leads (dropPeer i s).course :=
  tableChange_leads none (s.setPeer i PeerEntry.empty)

theorem agePeer_leads (i : StationIx) (s : State) : s.course.Leads (agePeer i s).course :=
  tableChange_leads none (raiseEvent .peerStale (s.setPeer i { s.peers.get i with presence := .stale }))

theorem storeState_leads (i : StationIx) (a : Announced) (s : State) : s.course.Leads (storeState i a s).course := by
  have h : s.course.Leads (tableChange (some i) (invPeerState (decide ((s.peers.get i).presence = .absent)) a
      (s.peers.get i).heard (s.setPeer i ((s.peers.get i).store s.settings.zoneCount s.sck a)))).course :=
    (invPeerState_leads (s.setPeer i _) _ _ _).trans (tableChange_leads _ _)
  unfold storeState
  dsimp only
  split
  · exact h
  · exact h

/-! ### LINE_LOST (R128 to R130) -/

theorem lineLostOccurs_leads (c : LineLostCause) (s : State) : s.course.Leads (lineLostOccurs c s).course := by
  unfold lineLostOccurs
  repeat' split
  · exact .refl _
  · exact .refl _
  · unfold beginLineLost
    dsimp only
    rw [onFlags_course]
    refine .trans (.of_eq ?_) ((zcuLineChanged_leads _).trans (admLineLost_leads _))
    rw [raiseState_course]
    rfl

theorem lineBack_leads (s : State) : s.course.Leads (lineBack s).course := by
  unfold lineBack
  split
  · refine .trans (.of_eq ?_) ((zcuLineChanged_leads _).trans (admLineBack_leads _))
    rw [raiseState_course]
    rfl
  · exact .refl _

theorem attemptFailed_leads (s : State) : s.course.Leads (attemptFailed s).course := by
  unfold attemptFailed
  dsimp only
  split
  · exact lineLostOccurs_leads .failures (s.onKli _)
  · exact .refl _

/-- An empty queue breaks no condition of it (R22). -/
theorem Course.Leads.unqueued (v : Course) : v.Leads { v with queue := [] } where
  log := id
  queue h := ⟨Nat.zero_le _, (List.nodup_append.mp h.2).2.1⟩
  cycle h := { h with }
  rest h := ⟨h.1, rfl⟩

/-- The clear of RESTART empties the queue, and reports the emptied table (R145, R197). -/
theorem restartClear_leads (s : State) : s.course.Leads (restartClear s).course := by
  let g := (s.onKli (·.restart s.sck)).onDcc fun d => { d with queue := [] }
  have htable := tableChange_leads none ({ markersLow g with peers := clearPeers s.own s.peers } : State)
  exact (Course.Leads.unqueued s.course).trans htable

theorem receiveNotice_leads (bytes : List Byte) (spoiled : Bool) (s : State) :
    s.course.Leads (receiveNotice bytes spoiled s).course := by
  unfold receiveNotice storeLeave
  repeat' split
  exacts [.refl _, lineLostOccurs_leads _ s, .refl _, dropPeer_leads _ s, storeState_leads _ _ s, .refl _]

theorem leaveSent_leads (reported : Bool) (s : State) : s.course.Leads (leaveSent reported s).course := by
  unfold leaveSent
  dsimp only
  repeat' split
  exacts [restartClear_leads ((dropAttempt (s.onKli _)).onKli _), .refl _, .refl _]

theorem stateSent_leads (contents : Announced) (reported : Bool) (s : State) :
    s.course.Leads (stateSent contents reported s).course := by
  unfold stateSent
  dsimp only
  generalize hg : State.setPeer _ _ _ = g
  have hcourse : g.course = s.course := by rw [← hg]; rfl
  rw [← hcourse]
  split
  · exact (zcuCompletion_leads g contents).trans ((admCompletion_leads _ contents).trans (lineBack_leads _))
  · exact lineBack_leads g

theorem endNotice_leads (bytes : List Byte) (spoiled : Bool) (s : State) : s.course.Leads (endNotice bytes spoiled s).course := by
  have hdrop : (dropAttempt s).course = s.course := rfl
  unfold endNotice attemptSucceeded
  repeat' split
  · exact .refl _
  · exact receiveNotice_leads _ _ s
  · exact leaveSent_leads _ s
  · exact stateSent_leads _ _ s
  · exact receiveNotice_leads _ _ (dropAttempt s)
  · exact (attemptFailed_leads (dropAttempt s)).trans (receiveNotice_leads _ _ _)
  · exact receiveNotice_leads _ _ (dropAttempt s)

/-! ### Faults (R43, R44, R64) -/

theorem enterFault_course (code : FaultCode) (s : State) :
    (enterFault code s).course = { s.course.atStage .fault with running := false } := by
  unfold enterFault
  dsimp only
  rw [raiseEvent_course, setStage_course, dropWeigh_course, markersLow_course, dropSegment_course, endHold_course, onDip_course]
  · rfl
  · exact fun _ => rfl

/-- FAULT may be entered from every stage of a dip (R43): claim and reservation stay, nothing runs. -/
theorem enterFault_cycleOk (code : FaultCode) (s : State) (h : s.course.CycleOk) (hs : s.dcc.stage ≠ .idle) :
    (enterFault code s).course.CycleOk := by
  rw [enterFault_course]
  exact
    { quiet := h.quiet, conflict := h.conflict
      yielding := fun hy => by cases ((Bool.and_false _).symm.trans hy : false = true)
      kettle := nofun, unclaimed := fun hi => by rcases hi with hi | hi <;> cases hi
      admitted := fun hi => by rcases hi with hi | hi <;> cases hi
      unreserved := fun hi => by rcases hi with hi | hi | hi | hi <;> cases hi
      hand := fun _ _ => .inr rfl, running := nofun, active := ⟨fun _ => nofun, fun _ => h.active.mpr hs⟩, left := nofun }

theorem enterFault_books (code : FaultCode) (s : State) : s.course.Books (enterFault code s).course := by
  rw [enterFault_course]
  exact .of_eq rfl rfl rfl rfl

theorem ne_of_faults {st : Stage} (h : st.faults = true) : st ≠ .idle ∧ st ≠ .fault := by
  constructor <;> rintro rfl <;> cases h

theorem faultCause_leads (code : FaultCode) (s : State) : s.course.Leads (faultCause code s).course := by
  unfold faultCause
  split
  · rename_i hs
    obtain ⟨hidle, hfault⟩ := ne_of_faults hs
    exact .of_cycle (enterFault_books code s) (fun h => enterFault_cycleOk code s h hidle)
      fun h => h.2.elim hidle hfault
  · split
    · exact .refl _
    · exact .refl _

/-! ### Weights delivered (R27, R32, R97) -/

/-- Outside the motion stages nothing runs (R51). -/
theorem Course.CycleOk.not_running (h : v.CycleOk) (hs : ∀ p, v.stage ≠ phaseStage p) : v.running = false := by
  by_contra hr
  obtain ⟨p, -, hp⟩ := h.running (by simpa using hr)
  exact hs p hp

theorem Course.CycleOk.current_eq_none (h : s.course.CycleOk) (hs : ∀ p, s.dcc.stage ≠ phaseStage p) :
    s.sgx.current = none := by
  have := h.not_running hs
  simpa [State.course] using this

theorem deliverDry_leads (mass : Nat) (unsettled overrange : Bool) (s : State) (hs : s.dcc.stage = .weighDry) :
    s.course.Leads (deliverDry mass unsettled overrange s).course := by
  unfold deliverDry
  dsimp only
  obtain ⟨c, m, hasked, hm, hc⟩ := testClaim_course (setStage .claim (formFull _ (s.onDip _)))
  rw [hc, setStage_course, formFull_course, onDip_course]
  · have hs : s.course.stage = .weighDry := hs
    refine .of_cycle (.of_eq rfl rfl rfl rfl) (fun h => ?_) fun h => ?_
    · have hrun : s.course.running = false := h.not_running fun p hp => by rw [hs] at hp; cases p <;> cases hp
      have hhand : ∀ p, s.course.hand ≠ some p := fun p hp => by
        rcases h.hand p hp with hi | hi <;> rw [hs] at hi
        · cases p <;> cases hi
        · cases hi
      have hclaim : s.course.claim = .none := h.unclaimed (.inr hs)
      exact
        { quiet := hm
          conflict := fun hf => by have := h.conflict hf; rw [hclaim] at this; cases this
          yielding := fun hy => by cases ((Bool.and_false _).symm.trans hy : false = true)
          kettle := nofun, unclaimed := fun hi => by rcases hi with hi | hi <;> cases hi
          admitted := fun hi => by rcases hi with hi | hi <;> cases hi
          unreserved := fun _ => h.unreserved (.inr (.inl hs))
          hand := fun p hp => absurd hp (hhand p)
          running := fun hr => by cases (hrun.symm.trans hr : false = true)
          active := ⟨fun _ => nofun, fun _ => h.active.mpr (by rw [hs]; nofun)⟩, left := nofun }
    · rcases h.2 with h | h <;> rw [hs] at h <;> cases h
  · exact fun _ => rfl

theorem deliverExit_leads (mass : Nat) (unsettled overrange : Bool) (s : State) (hs : s.dcc.stage = .weighExit) :
    s.course.Leads (deliverExit mass unsettled overrange s).course := by
  unfold deliverExit
  dsimp only
  generalize hg : s.onDip _ = g
  have hcourse : g.course = s.course := by rw [← hg]; exact onDip_course s fun _ => rfl
  have hstage : g.dcc.stage = .weighExit := by rw [← hg]; exact hs
  rw [← hcourse]
  have hrest : ¬ g.course.Resting := fun h => by
    rcases h.2 with h | h <;> cases hstage.symm.trans h
  have hphase : ∀ p, g.dcc.stage ≠ phaseStage p := fun p hp => by rw [hstage] at hp; cases p <;> cases hp
  have hidle : g.dcc.stage ≠ .idle := by rw [hstage]; nofun
  have hclaim : g.course.CycleOk → g.zcu.claim = .held := fun h => h.kettle (by show inKettle g.dcc.stage = true; rw [hstage]; rfl)
  split
  · refine .of_cycle ?_ (fun h => ?_) hrest
    · rw [enterWeighDrained_course]
      exact atStage_books _ _
    · rw [enterWeighDrained_course]
      have hhand : ∀ p, g.course.hand = some p → Stage.weighDrained = phaseStage p := fun p hp => by
        rcases h.hand p hp with hi | hi
        · exact absurd hi (hphase p)
        · cases hstage.symm.trans hi
      exact (h.inKettle (h.not_running hphase) (hclaim h) hidle (st := .weighDrained) rfl (by nofun) nofun hhand).toCycleOk
  · exact .of_cycle (enterMotion_books g .drain) (fun h => enterMotion_cycleOk .drain h (h.current_eq_none hphase) (hclaim h)
      hidle (by nofun) nofun) hrest

theorem deliverDrained_leads (mass : Nat) (unsettled overrange : Bool) (s : State) (hs : s.dcc.stage = .weighDrained) :
    s.course.Leads (deliverDrained mass unsettled overrange s).course := by
  unfold deliverDrained
  generalize hg : s.onDip _ = g
  have hcourse : g.course = s.course := by rw [← hg]; exact onDip_course s fun _ => rfl
  have hstage : g.dcc.stage = .weighDrained := by rw [← hg]; exact hs
  rw [← hcourse]
  have hphase : ∀ p, g.dcc.stage ≠ phaseStage p := fun p hp => by rw [hstage] at hp; cases p <;> cases hp
  refine .of_cycle (enterMotion_books g .depart) (fun h => ?_) fun h => ?_
  · exact enterMotion_cycleOk .depart h (h.current_eq_none hphase)
      (h.kettle (by show inKettle g.dcc.stage = true; rw [hstage]; rfl)) (by rw [hstage]; nofun) (by nofun) nofun
  · rcases h.2 with h | h <;> cases hstage.symm.trans h

theorem deliverSamples_leads (samples : List Sample) (unsettled : Bool) (s : State) :
    s.course.Leads (deliverSamples samples unsettled s).course := by
  unfold deliverSamples deliverWeight
  dsimp only
  split
  · rename_i h
    exact deliverDry_leads _ _ _ (dropWeigh s.nextFree) h
  · rename_i h
    exact deliverExit_leads _ _ _ (dropWeigh s.nextFree) h
  · rename_i h
    exact deliverDrained_leads _ _ _ (dropWeigh s.nextFree) h
  · exact .refl _

end Sys2Proof.Machine
end

section
/-! PROOF. Every command leads along the course (O57, O59): the shared operations of each command are those above, and JOB_START,
RECOVER and hardware reset, which alone wake a dip at rest, keep the conditions as well. -/

namespace Sys2Proof.Machine

variable {s t u : State}

/-! ### The answers of a command -/

theorem unchanged_leads (h : unchanged s = .next t) : s.course.Leads t.course := by
  cases h
  exact .refl _

theorem settle_leads (h : settle u = .next t) (hu : s.course.Leads u.course) : s.course.Leads t.course := by
  cases h
  exact hu

theorem accept_leads {data : List Byte} (h : accept data u = .next t) (hu : s.course.Leads u.course) :
    s.course.Leads t.course := by
  cases h
  exact hu

theorem refuse_leads {code : ResultCode} (h : refuse code s = .next t) : s.course.Leads t.course := by
  cases h
  exact .refl _

/-- A frame is refused, which changes the response only, or its body answers (R186). -/
theorem takeFrame_elim {P : State → Prop} {taken : Taken} {tail : List Byte}
    {body : List Byte → Host.Outcome State Fault Refusal} (h : takeFrame taken tail s body = .next t)
    (hrefuse : ∀ code, P (refusedWith code s)) (hbody : ∀ args, body args = .next t → P t) : P t := by
  rcases takeFrame_cases s taken tail body with ⟨-, hf⟩ | ⟨-, hf⟩ | ⟨-, hf⟩ | ⟨args, -, -, hf⟩
  · cases hf.symm.trans h; exact hrefuse _
  · cases hf.symm.trans h; exact hrefuse _
  · cases hf.symm.trans h; exact hrefuse _
  · exact hbody args (hf.symm.trans h)

/-- A frame whose argument length is checked first (R187). -/
theorem takeArgs_elim {P : State → Prop} {taken : Taken} {tail : List Byte} {n : Nat}
    {body : List Byte → Host.Outcome State Fault Refusal}
    (h : takeFrame taken tail s (fun args => withArgs n args s (body args)) = .next t)
    (hrefuse : ∀ code, P (refusedWith code s)) (hbody : ∀ args, body args = .next t → P t) : P t := by
  refine takeFrame_elim h hrefuse fun args h => ?_
  rw [withArgs_eq] at h
  split at h
  · exact hbody args h
  · cases h
    exact hrefuse _

theorem takeFrame_leads {taken : Taken} {tail : List Byte} {body : List Byte → Host.Outcome State Fault Refusal}
    (h : takeFrame taken tail s body = .next t) (hbody : ∀ args, body args = .next t → s.course.Leads t.course) :
    s.course.Leads t.course := takeFrame_elim (P := fun t => s.course.Leads t.course) h (fun _ => .refl _) hbody

theorem takeArgs_leads {taken : Taken} {tail : List Byte} {n : Nat} {body : List Byte → Host.Outcome State Fault Refusal}
    (h : takeFrame taken tail s (fun args => withArgs n args s (body args)) = .next t)
    (hbody : ∀ args, body args = .next t → s.course.Leads t.course) : s.course.Leads t.course :=
  takeArgs_elim (P := fun t => s.course.Leads t.course) h (fun _ => .refl _) hbody

/-! ### Frames (R185 to R197) -/

section Frames

variable {tail : List Byte}

theorem execLoadBegin_leads (h : execLoadBegin tail s = .next t) : s.course.Leads t.course := by
  refine takeArgs_leads h fun args h => ?_
  dsimp only at h
  split at h
  exacts [accept_leads h (.refl _), refuse_leads h]

theorem execLoadData_leads (h : execLoadData tail s = .next t) : s.course.Leads t.course := by
  refine takeFrame_leads h fun args h => ?_
  split at h
  exacts [accept_leads h (.refl _), refuse_leads h]

theorem execLoadEnd_leads (h : execLoadEnd tail s = .next t) : s.course.Leads t.course :=
  takeArgs_leads h fun _ h => settle_leads h (.refl _)

theorem execGetStatus_leads (h : execGetStatus tail s = .next t) : s.course.Leads t.course := by
  unfold execGetStatus answerFrame at h
  repeat' split at h
  · exact refuse_leads h
  · dsimp only at h
    rw [withArgs_eq] at h
    split at h
    · cases h
      exact .refl _
    · exact refuse_leads h
  · exact refuse_leads h

theorem execUnknownCommand_leads {code : Byte} (h : execUnknownCommand code tail s = .next t) : s.course.Leads t.course := by
  unfold execUnknownCommand at h
  repeat' split at h
  exacts [refuse_leads h, refuse_leads h, refuse_leads h, nomatch h]

theorem execSetEventEnable_leads (h : execSetEventEnable tail s = .next t) : s.course.Leads t.course :=
  takeArgs_leads h fun _ h => accept_leads h (.refl _)

theorem execClearEvents_leads (h : execClearEvents tail s = .next t) : s.course.Leads t.course :=
  takeArgs_leads h fun _ h => accept_leads h (.refl _)

theorem execRestart_leads (h : execRestart tail s = .next t) : s.course.Leads t.course := by
  refine takeArgs_leads h fun args h => ?_
  repeat' split at h
  exacts [refuse_leads h, accept_leads h (.refl _), refuse_leads h]

theorem execSetLevel_leads (h : execSetLevel tail s = .next t) : s.course.Leads t.course := by
  refine takeArgs_leads h fun args h => ?_
  split at h
  exacts [refuse_leads h, accept_leads h (invArrive_leads s _)]

theorem execAddZinc_leads (h : execAddZinc tail s = .next t) : s.course.Leads t.course := by
  refine takeArgs_leads h fun args h => ?_
  split at h
  exacts [accept_leads h (invArrive_leads s _), refuse_leads h]

theorem execRemoveDross_leads (h : execRemoveDross tail s = .next t) : s.course.Leads t.course := by
  refine takeArgs_leads h fun args h => ?_
  split at h
  exacts [accept_leads h (invArrive_leads s _), refuse_leads h]

/-- A record read makes room in the log (R110). -/
theorem execReadRecord_leads (h : execReadRecord tail s = .next t) : s.course.Leads t.course := by
  refine takeArgs_leads h fun args h => ?_
  split at h
  · exact refuse_leads h
  · rename_i r rest hlog
    refine accept_leads h ⟨⟨fun ⟨hreserved, hroom⟩ => ⟨hreserved, ?_⟩, id⟩, fun h => { h with }, fun h => ⟨h.1, rfl⟩⟩
    have hlength : s.course.logged = rest.length + 1 := by show s.acu.log.length = _; rw [hlog]; rfl
    show rest.length + s.course.reserved.toNat ≤ logSlots
    omega

theorem execPeekRecord_leads (h : execPeekRecord tail s = .next t) : s.course.Leads t.course := by
  refine takeArgs_leads h fun args h => ?_
  split at h
  exacts [refuse_leads h, accept_leads h (.refl _)]

theorem execReadPeer_leads (h : execReadPeer tail s = .next t) : s.course.Leads t.course := by
  refine takeArgs_leads h fun args h => ?_
  split at h
  exacts [refuse_leads h, accept_leads h (.refl _)]

theorem execForgetPeer_leads (h : execForgetPeer tail s = .next t) : s.course.Leads t.course := by
  refine takeArgs_leads h fun args h => ?_
  repeat' split at h
  exacts [refuse_leads h, refuse_leads h, refuse_leads h, accept_leads h (dropPeer_leads _ s)]

/-- A job that passes the checks of R21 has a new id and finds room. -/
theorem room_of_dipRefusal {args : List Byte} (h : dipRefusal args s = none) :
    (jobOfArgs args).id ∉ s.jobIds ∧ s.dcc.queue.length < queueSlots := by
  unfold dipRefusal at h
  dsimp only at h
  repeat' split at h
  all_goals try cases h
  rename_i hid hroom _
  exact ⟨by simpa using hid, by omega⟩

/-- A job joins the queue (R21, R22). -/
theorem execDip_leads (h : execDip tail s = .next t) : s.course.Leads t.course := by
  refine takeFrame_leads h fun args h => ?_
  repeat' split at h
  · exact refuse_leads h
  · exact refuse_leads h
  · rename_i hnone
    obtain ⟨hid, hroom⟩ := room_of_dipRefusal hnone
    refine accept_leads h ⟨⟨id, fun ⟨_, hids⟩ => ⟨?_, ?_⟩⟩, fun h => { h with }, fun h => ⟨h.1, rfl⟩⟩
    · show (s.dcc.queue ++ [jobOfArgs args]).length ≤ queueSlots
      rw [List.length_append]
      exact hroom
    · have hperm : ((s.dcc.queue ++ [jobOfArgs args]).map (·.id) ++ (s.job.map (·.id)).toList).Perm
          ((jobOfArgs args).id :: s.jobIds) := by
        rw [List.map_append, List.append_assoc]
        exact List.perm_middle
      exact hperm.nodup_iff.mpr (List.nodup_cons.mpr ⟨hid, hids⟩)

/-- A cancelled job leaves the queue (R23). -/
theorem execCancelJob_leads (h : execCancelJob tail s = .next t) : s.course.Leads t.course := by
  refine takeArgs_leads h fun args h => ?_
  dsimp only at h
  repeat' split at h
  · refine accept_leads h ⟨⟨id, fun ⟨hlength, hids⟩ => ⟨?_, ?_⟩⟩, fun h => { h with }, fun h => ⟨h.1, rfl⟩⟩
    · exact (List.length_filter_le _ _).trans hlength
    · exact hids.sublist ((List.filter_sublist.map _).append_right _)
  · exact refuse_leads h
  · exact refuse_leads h

/-- WITHDRAW and DEPART entered from a stage of the kettle: the claim is HELD there. -/
theorem enterLast_leads {g : State} {p : Phase} (hp : p = .withdraw ∨ p = .depart) (hk : inKettle s.dcc.stage = true)
    (hg : g.dcc.stage = s.dcc.stage) (hb : s.course.Books g.course)
    (hc : s.course.CycleOk → g.course.CycleOk ∧ g.sgx.current = none) : s.course.Leads (enterMotion p g).course := by
  refine .of_cycle (hb.trans (enterMotion_books g p)) (fun h => ?_) fun h => ?_
  · obtain ⟨hcycle, hcurrent⟩ := hc h
    refine enterMotion_cycleOk p hcycle hcurrent (hcycle.kettle ?_) ?_ ?_ ?_
    · show inKettle g.dcc.stage = true
      rw [hg]
      exact hk
    · rw [hg]
      exact ne_idle_of_inKettle hk
    · rcases hp with rfl | rfl <;> nofun
    · rcases hp with rfl | rfl <;> nofun
  · exact h.2.elim (ne_idle_of_inKettle hk) (ne_fault_of_inKettle hk)

/-- An abort of a segment (R41, R63): it is dropped, and a last phase is entered. -/
theorem enterLast_of_dropped {g : State} {p : Phase} (hp : p = .withdraw ∨ p = .depart) (hk : inKettle s.dcc.stage = true)
    (hg : g.course = (dropSegment s).course) : s.course.Leads (enterMotion p g).course := by
  refine enterLast_leads hp hk (congrArg Course.stage hg) ?_ fun h => ⟨?_, ?_⟩
  · rw [hg]
    exact .of_eq rfl rfl rfl rfl
  · rw [hg]
    exact { h with running := nofun }
  · have : g.sgx.current.isSome = false := congrArg Course.running hg
    simpa using this

theorem releaseDip_leads {g : State} (hg : g.course = s.course) (hi : s.dcc.stage ≠ .idle) (hf : s.dcc.stage ≠ .fault) :
    s.course.Leads (releaseDip g).course := by
  rw [← hg]
  refine .of_cycle (releaseDip_books g) (fun _ => ?_) ?_
  · rw [releaseDip_course]
    exact ended_cycleOk _
  · rw [hg]
    exact fun h => h.2.elim hi hf

/-- An abort by its stage (R40 to R42, R63). -/
theorem routeAbort_leads (s : State) : s.course.Leads (routeAbort s).course := by
  unfold routeAbort
  split
  · rename_i h
    exact releaseDip_leads (g := dropWeigh s) rfl (by rw [h]; nofun) (by rw [h]; nofun)
  · rename_i h
    exact releaseDip_leads rfl (by rw [h]; nofun) (by rw [h]; nofun)
  · rename_i h
    exact enterLast_of_dropped (.inr rfl) (by rw [h]; rfl) (endHold_course _)
  · rename_i h
    have hcourse : (raiseState (releaseResv (endHold s))).course = { s.course with resv := .none } := by
      rw [raiseState_course, releaseResv_course, endHold_course]
    have hphase : ∀ p, s.dcc.stage ≠ phaseStage p := fun p hp => by rw [h] at hp; cases p <;> cases hp
    refine enterLast_leads (.inr rfl) (by rw [h]; rfl) (congrArg Course.stage hcourse) ?_ fun hc => ⟨?_, ?_⟩
    · rw [hcourse]
      exact .of_eq rfl rfl rfl rfl
    · rw [hcourse]
      exact hc.resv_of_admitting h _
    · simpa using hc.current_eq_none hphase
  · rename_i h
    exact enterLast_of_dropped (.inl rfl) (by rw [h]; rfl) rfl
  · rename_i h
    exact enterLast_of_dropped (.inl rfl) (by rw [h]; rfl) rfl
  · rename_i h
    have hs : s.course.stage = .drain := h
    rw [enterWeighDrained_course]
    refine .of_cycle (.of_eq rfl rfl rfl rfl) (fun hc => ?_) fun hr => ?_
    · have hd : (dropSegment s).course.CycleOk := { hc with running := nofun }
      exact (hd.inKettle rfl (hd.kettle (by rw [dropSegment_course, hs]; rfl)) (by rw [dropSegment_course, hs]; nofun)
        (st := .weighDrained) rfl (by nofun) nofun (o := none) nofun).toCycleOk
    · rcases hr.2 with hr | hr <;> cases hs.symm.trans hr
  · exact .refl _

theorem execAbortDip_leads (h : execAbortDip tail s = .next t) : s.course.Leads t.course := by
  refine takeArgs_leads h fun args h => ?_
  repeat' split at h
  · exact refuse_leads h
  · exact refuse_leads h
  · exact refuse_leads h
  · exact refuse_leads h
  · have hmark : (markAbort s).course = s.course := onDip_course s fun _ => rfl
    have hroute := routeAbort_leads (markAbort s)
    rw [hmark] at hroute
    exact accept_leads h hroute

end Frames

/-! ### Arrivals at the port and of the dip cycle -/

theorem loadPasses_course (c : Settings) (s : State) : (loadPasses c s).course = s.course := by
  unfold loadPasses
  dsimp only
  rw [respond_course, raiseEvent_course, onWgu_course, raiseState_course, refreshSurface_course, lowTest_course]
  rfl

theorem execValidationEnd_leads (h : execValidationEnd s = .next t) : s.course.Leads t.course := by
  unfold execValidationEnd at h
  repeat' split at h
  exacts [settle_leads h (.refl _), settle_leads h (.of_eq (loadPasses_course _ s)), unchanged_leads h]

theorem execLoadTimerExpiry_leads (h : execLoadTimerExpiry s = .next t) : s.course.Leads t.course := by
  unfold execLoadTimerExpiry at h
  split at h
  exacts [settle_leads h (.refl _), unchanged_leads h]

theorem execListenTimerExpiry_leads (h : execListenTimerExpiry s = .next t) : s.course.Leads t.course := by
  unfold execListenTimerExpiry at h
  split at h
  exacts [settle_leads h (.refl _), unchanged_leads h]

theorem execRestartTimerExpiry_leads (h : execRestartTimerExpiry s = .next t) : s.course.Leads t.course := by
  unfold execRestartTimerExpiry at h
  split at h
  exacts [settle_leads h (restartClear_leads s), unchanged_leads h]

theorem execHoldLimitExpiry_leads (h : execHoldLimitExpiry s = .next t) : s.course.Leads t.course := by
  unfold execHoldLimitExpiry at h
  repeat' split at h
  exacts [unchanged_leads h, settle_leads h (.refl _), unchanged_leads h]

/-- A claim asked for is HELD at the end of its window (R166). -/
theorem holdClaim_leads (hs : s.zcu.claim.asked) : s.course.Leads (holdClaim s).course := by
  have hheld : s.course.Leads (setClaim .held s.zcu.mask s).course := setClaim_leads s hs nofun
  unfold holdClaim
  dsimp only
  generalize hg : setClaim .held s.zcu.mask s = g at hheld
  refine Course.Leads.trans ?_ (conflictCheck_leads _)
  have hclaim : g.zcu.claim = .held := by rw [← hg]; simp
  split
  · rename_i hstage
    have hphase : ∀ p, g.dcc.stage ≠ phaseStage p := fun p hp => by rw [hstage] at hp; cases p <;> cases hp
    refine hheld.trans (.of_cycle (enterMotion_books g .approach) (fun h => ?_) fun h => ?_)
    · exact enterMotion_cycleOk .approach h (h.current_eq_none hphase) hclaim (by rw [hstage]; nofun) (by nofun)
        fun _ => h.unreserved (.inr (.inr (.inl hstage)))
    · rcases h.2 with h | h <;> cases hstage.symm.trans h
  · exact hheld

theorem execClaimWindowExpiry_leads (h : execClaimWindowExpiry s = .next t) : s.course.Leads t.course := by
  unfold execClaimWindowExpiry at h
  repeat' split at h
  · rename_i hc _
    exact settle_leads h (holdClaim_leads (claimAsked_of_pending hc))
  · exact unchanged_leads h
  · exact unchanged_leads h

/-- A reservation asked for is ADMITTED or withdrawn at the end of its window (R179). -/
theorem admitResv_leads (hs : s.adm.resv.asked) : s.course.Leads (admitResv s).course := by
  have hset : ∀ r, s.course.Leads (setResv r s).course := setResv_leads s hs
  unfold admitResv
  dsimp only
  split
  · have hadmit := hset .admitted
    generalize hg : setResv .admitted s = g at hadmit
    have hresv : g.adm.resv = .admitted := by rw [← hg]; simp
    split
    · rename_i hstage
      have hphase : ∀ p, g.dcc.stage ≠ phaseStage p := fun p hp => by rw [hstage] at hp; cases p <;> cases hp
      refine hadmit.trans (.of_cycle (enterMotion_books g .immerse) (fun h => ?_) fun h => ?_)
      · exact enterMotion_cycleOk .immerse h (h.current_eq_none hphase)
          (h.kettle (by show inKettle g.dcc.stage = true; rw [hstage]; rfl)) (by rw [hstage]; nofun) (fun _ => hresv) nofun
      · rcases h.2 with h | h <;> cases hstage.symm.trans h
    · exact hadmit
  · exact hset _

theorem execAdmissionWindowExpiry_leads (h : execAdmissionWindowExpiry s = .next t) : s.course.Leads t.course := by
  unfold execAdmissionWindowExpiry at h
  repeat' split at h
  · rename_i hr _
    exact settle_leads h (admitResv_leads (asked_of_pending hr))
  · exact unchanged_leads h
  · exact unchanged_leads h

theorem execPulseExpiry_leads {marker : Marker} (h : execPulseExpiry marker s = .next t) : s.course.Leads t.course := by
  have hlower : (lowerMarker marker s).course = s.course := by cases marker <;> rfl
  unfold execPulseExpiry at h
  split at h
  exacts [settle_leads h (.of_eq hlower), unchanged_leads h]

theorem execDwellExpiry_leads (h : execDwellExpiry s = .next t) : s.course.Leads t.course := by
  unfold execDwellExpiry at h
  split at h
  · rename_i hd
    exact settle_leads h (endSegment_leads s (by rw [hd.1]; rfl))
  · exact unchanged_leads h

theorem execWaitTimeout_leads (h : execWaitTimeout s = .next t) : s.course.Leads t.course := by
  unfold execWaitTimeout at h
  split at h
  · rename_i hw
    have hrun : s.sgx.current.isSome = true := by
      have := hw.1
      unfold State.inWait at this
      split at this
      · rename_i hc
        rw [hc]
        rfl
      · cases this
    have hend := endSegment_leads (s.onFlags fun f => { f with waitExpired := true }) hrun
    rw [onFlags_course] at hend
    exact settle_leads h hend
  · exact unchanged_leads h

/-! ### Arrivals at the hoist signals and the load cell -/

theorem execMotionLimitExpiry_leads (h : execMotionLimitExpiry s = .next t) : s.course.Leads t.course := by
  unfold execMotionLimitExpiry at h
  repeat' split at h
  exacts [unchanged_leads h, settle_leads h (faultCause_leads _ s), unchanged_leads h]

theorem execDriveLostExpiry_leads (h : execDriveLostExpiry s = .next t) : s.course.Leads t.course := by
  unfold execDriveLostExpiry at h
  repeat' split at h
  exacts [unchanged_leads h, settle_leads h (faultCause_leads _ s), unchanged_leads h]

theorem execDriveReadyEdge_leads {a b : Bool} (h : execDriveReadyEdge a b s = .next t) : s.course.Leads t.course := by
  unfold execDriveReadyEdge at h
  split at h
  exacts [unchanged_leads h, settle_leads h (.refl _)]

theorem execHaltEdge_leads {a b : Bool} (h : execHaltEdge a b s = .next t) : s.course.Leads t.course := by
  unfold execHaltEdge at h
  split at h
  exacts [unchanged_leads h, settle_leads h (.refl _)]

theorem execDriveFaultEdge_leads {a b : Bool} (h : execDriveFaultEdge a b s = .next t) : s.course.Leads t.course := by
  unfold execDriveFaultEdge setDriveFault at h
  dsimp only at h
  repeat' split at h
  exacts [unchanged_leads h, settle_leads h (faultCause_leads _ (s.onHif _)), settle_leads h (.refl _)]

theorem execFirstFilteredLevel_leads {i : DiscreteInput} {a b : Bool} (h : execFirstFilteredLevel i a b s = .next t) :
    s.course.Leads t.course := by
  unfold execFirstFilteredLevel at h
  split at h
  exacts [unchanged_leads h, settle_leads h (.refl _)]

theorem current_of_waitEnds {k : Trigger} {rising : Bool} (h : s.waitEnds k rising = true) : s.sgx.current.isSome = true := by
  unfold State.waitEnds at h
  split at h
  · rename_i hc
    rw [hc]
    rfl
  · cases h

theorem raiseTrigger_course (k : Trigger) (rising : Bool) (s : State) :
    (raiseTrigger k rising (latchEdge k rising s)).course = s.course := by
  unfold raiseTrigger
  split <;> rfl

theorem raiseTrigger_sgx (k : Trigger) (rising : Bool) (s : State) :
    (raiseTrigger k rising (latchEdge k rising s)).sgx = s.sgx := by
  unfold raiseTrigger
  split <;> rfl

theorem execTriggerEdge_leads {k : Trigger} {a b : Bool} (h : execTriggerEdge k a b s = .next t) : s.course.Leads t.course := by
  unfold execTriggerEdge takeEdge at h
  dsimp only at h
  repeat' split at h
  · exact unchanged_leads h
  · rename_i rising _ hw
    have hend := endSegment_leads (raiseTrigger k rising (latchEdge k rising s))
      (by rw [raiseTrigger_sgx]; exact current_of_waitEnds hw)
    rw [raiseTrigger_course] at hend
    exact settle_leads h hend
  · exact settle_leads h (.of_eq (raiseTrigger_course _ _ s))

/-- The receivers of a hook-height update, in either order (R74). -/
theorem hookUpdate_leads (s : State) : s.course.Leads (hookUpdate s).course := by
  have hstart : (testImmersion s.nextFree).course = s.course := by
    unfold testImmersion
    split
    · exact onDip_course s.nextFree fun _ => rfl
    · rfl
  have hmend : ∀ g k : State, (mendExitWet g k).course = k.course := fun g k => by
    unfold mendExitWet
    split
    · exact onFlags_course _ _
    · rfl
  unfold hookUpdate hookUpdateWith
  dsimp only
  rw [← hstart]
  split
  · exact (admHookUpdate_leads _).trans (sgxHookUpdate_leads _)
  · rw [hmend]
    exact (sgxHookUpdate_leads _).trans (admHookUpdate_leads _)

theorem execEncoderRead_leads {start : Bool} {height : BitVec 16} {parity : Bool}
    (h : execEncoderRead start height parity s = .next t) : s.course.Leads t.course := by
  unfold execEncoderRead failedRead at h
  repeat' split at h
  exacts [settle_leads h (hookUpdate_leads (takeHeight height.toNat s)),
    settle_leads h (faultCause_leads _ (countFailedRead s)), settle_leads h (.refl _)]

theorem takeSample_leads (x : Sample) (s : State) : s.course.Leads (takeSample x s).course := by
  unfold takeSample settleSample averageSample
  dsimp only
  repeat' split
  exacts [.refl _, .refl _, deliverSamples_leads _ _ (pushWindow x s), .refl _]

theorem execRawSample_leads {raw : BitVec 24} (h : execRawSample raw s = .next t) : s.course.Leads t.course := by
  unfold execRawSample takeRaw at h
  repeat' split at h
  exacts [settle_leads h (takeSample_leads _ (s.onWgu _)), settle_leads h (.refl _), unchanged_leads h]

theorem execSettleTimeout_leads (h : execSettleTimeout s = .next t) : s.course.Leads t.course := by
  unfold execSettleTimeout at h
  repeat' split at h
  exacts [unchanged_leads h, unchanged_leads h, settle_leads h (deliverSamples_leads _ _ s), unchanged_leads h]

/-! ### Arrivals at the kettle line and the peer table -/

theorem execTransmitAttemptStart_leads (h : execTransmitAttemptStart s = .next t) : s.course.Leads t.course := by
  unfold execTransmitAttemptStart at h
  split at h
  exacts [settle_leads h (.refl _), unchanged_leads h]

theorem execHeartbeatTimerExpiry_leads (h : execHeartbeatTimerExpiry s = .next t) : s.course.Leads t.course := by
  unfold execHeartbeatTimerExpiry at h
  repeat' split at h
  exacts [unchanged_leads h, settle_leads h (.of_eq (raiseState_course (s.onKli _))), unchanged_leads h]

theorem execUnsentExpiry_leads (h : execUnsentExpiry s = .next t) : s.course.Leads t.course := by
  unfold execUnsentExpiry at h
  repeat' split at h
  exacts [unchanged_leads h, settle_leads h (lineLostOccurs_leads _ s), unchanged_leads h]

theorem execPeerAgeing_leads {i : StationIx} (h : execPeerAgeing i s = .next t) : s.course.Leads t.course := by
  unfold execPeerAgeing at h
  split at h
  exacts [settle_leads h (agePeer_leads i s), unchanged_leads h]

theorem execBitReadBackMismatch_leads {n : Nat} {dominant : Bool} (h : execBitReadBackMismatch n dominant s = .next t) :
    s.course.Leads t.course := by
  unfold execBitReadBackMismatch stopAttempt at h
  dsimp only at h
  repeat' split at h
  exacts [unchanged_leads h, settle_leads h (attemptFailed_leads (s.onKli _)), settle_leads h (.refl _), unchanged_leads h]

theorem tickAll_course (s : State) : (tickAll s).course = s.course := by
  show ({ s.course with running := s.sgx.tick.current.isSome } : Course) = s.course
  rfl

/-! ### Every command -/

/-- A command that alone takes the dip out of IDLE or FAULT: JOB_START, RECOVER, and hardware reset (R24, R45, R188). -/
def Wakes (c : Instr) : Prop := c = .hardwareReset ∨ c = .jobStart ∨ ∃ tail, c = .recover tail

/-- Every other command leads along the course. -/
theorem exec_leads {c : Instr} (hc : ¬ Wakes c) (h : exec c s = .next t) : s.course.Leads t.course := by
  cases c with
  | hardwareReset => exact absurd (.inl rfl) hc
  | jobStart => exact absurd (.inr (.inl rfl)) hc
  | recover tail => exact absurd (.inr (.inr ⟨tail, rfl⟩)) hc
  | loadBegin => exact execLoadBegin_leads h
  | loadData => exact execLoadData_leads h
  | loadEnd => exact execLoadEnd_leads h
  | validationEnd => exact execValidationEnd_leads h
  | loadTimerExpiry => exact execLoadTimerExpiry_leads h
  | listenTimerExpiry => exact execListenTimerExpiry_leads h
  | getStatus => exact execGetStatus_leads h
  | dip => exact execDip_leads h
  | cancelJob => exact execCancelJob_leads h
  | abortDip => exact execAbortDip_leads h
  | setLevel => exact execSetLevel_leads h
  | addZinc => exact execAddZinc_leads h
  | removeDross => exact execRemoveDross_leads h
  | readRecord => exact execReadRecord_leads h
  | peekRecord => exact execPeekRecord_leads h
  | readPeer => exact execReadPeer_leads h
  | forgetPeer => exact execForgetPeer_leads h
  | setEventEnable => exact execSetEventEnable_leads h
  | clearEvents => exact execClearEvents_leads h
  | restart => exact execRestart_leads h
  | idleFrame => exact unchanged_leads h
  | unknownCommand => exact execUnknownCommand_leads h
  | restartTimerExpiry => exact execRestartTimerExpiry_leads h
  | rawSample => exact execRawSample_leads h
  | settleTimeout => exact execSettleTimeout_leads h
  | encoderRead => exact execEncoderRead_leads h
  | driveReadyEdge => exact execDriveReadyEdge_leads h
  | driveFaultEdge => exact execDriveFaultEdge_leads h
  | haltEdge => exact execHaltEdge_leads h
  | triggerEdge => exact execTriggerEdge_leads h
  | motionLimitExpiry => exact execMotionLimitExpiry_leads h
  | driveLostExpiry => exact execDriveLostExpiry_leads h
  | dwellExpiry => exact execDwellExpiry_leads h
  | waitTimeout => exact execWaitTimeout_leads h
  | pulseExpiry => exact execPulseExpiry_leads h
  | holdLimitExpiry => exact execHoldLimitExpiry_leads h
  | transmitAttemptStart => exact execTransmitAttemptStart_leads h
  | noticeEnd bytes spoiled => exact settle_leads h (endNotice_leads bytes spoiled s)
  | heartbeatTimerExpiry => exact execHeartbeatTimerExpiry_leads h
  | unsentExpiry => exact execUnsentExpiry_leads h
  | peerAgeing => exact execPeerAgeing_leads h
  | claimWindowExpiry => exact execClaimWindowExpiry_leads h
  | admissionWindowExpiry => exact execAdmissionWindowExpiry_leads h
  | stationClockTick => exact settle_leads h (.of_eq (tickAll_course s))
  | firstFilteredLevel => exact execFirstFilteredLevel_leads h
  | bitReadBackMismatch => exact execBitReadBackMismatch_leads h
  | csnFallingEdge => cases h; exact .refl _

/-! ### The commands that wake the dip -/

/-- The conditions on the course are kept. -/
structure Course.Keeps (v w : Course) : Prop extends Course.Books v w where
  cycle : v.CycleOk → w.CycleOk

theorem Course.Leads.keeps {v w : Course} (h : v.Leads w) : v.Keeps w := { h with }

theorem Course.Keeps.trans {v w x : Course} (h : v.Keeps w) (h' : w.Keeps x) : v.Keeps x :=
  { toBooks := h.toBooks.trans h'.toBooks, cycle := h'.cycle ∘ h.cycle }

theorem startJob_course (j : Job) (rest : List Job) (s : State) :
    (startJob j rest s).course
      = { s.course.atStage .weighDry with queue := rest, job := some j, reserved := true } := by
  rw [startJob, weighRequest_course, setStage_course]
  rfl

/-- The fault of a job start, which FAULT takes with the job active (R24, R43). -/
theorem faultAtStart_keeps (hs : s.dcc.stage = .weighDry) : s.course.Keeps (faultAtStart s).course := by
  have hfault : ∀ code, s.course.Keeps (enterFault code s).course := fun code =>
    { toBooks := enterFault_books code s, cycle := fun h => enterFault_cycleOk code s h (by rw [hs]; nofun) }
  unfold faultAtStart
  repeat' split
  exacts [hfault _, (Course.Leads.refl _).keeps, hfault _]

/-- The head of the queue becomes the active job, in the slot that the start conditions ask for (R22, R24, R101). -/
theorem startJob_keeps {j : Job} {rest : List Job} (hq : s.dcc.queue = j :: rest) (hm : s.mayStart = true) :
    s.course.Keeps (startJob j rest s).course := by
  have hidle : s.course.stage = .idle ∧ s.course.logged < logSlots := by
    unfold State.mayStart at hm
    simp only [Bool.and_eq_true, decide_eq_true_eq] at hm
    exact ⟨hm.1.1.2.1, hm.1.1.2.2⟩
  obtain ⟨hstage, hroom⟩ := hidle
  have hqueue : s.course.queue = j :: rest := hq
  refine { log := fun _ => ?_, queue := fun ⟨hlength, hids⟩ => ?_, cycle := fun h => ?_ }
  · rw [startJob_course]
    exact ⟨rfl, hroom⟩
  · rw [startJob_course]
    rw [hqueue] at hlength hids
    refine ⟨(Nat.le_succ _).trans hlength, ?_⟩
    have hall : (j.id :: rest.map (·.id)).Nodup := (List.nodup_append.mp hids).1
    exact (List.perm_append_singleton _ _).nodup_iff.mpr hall
  · rw [startJob_course]
    have hrun : s.course.running = false := h.not_running fun p hp => by rw [hstage] at hp; cases p <;> cases hp
    have hclaim := h.unclaimed (.inl hstage)
    exact
      { quiet := h.quiet, conflict := h.conflict
        yielding := fun hy => by cases ((Bool.and_false _).symm.trans hy : false = true)
        kettle := nofun, unclaimed := fun _ => hclaim
        admitted := fun hi => by rcases hi with hi | hi <;> cases hi
        unreserved := fun _ => h.unreserved (.inl hstage)
        hand := fun p hp => by
          rcases h.hand p hp with hi | hi <;> rw [hstage] at hi
          · cases p <;> cases hi
          · cases hi
        running := fun hr => by cases (hrun.symm.trans hr : false = true)
        active := ⟨fun _ => nofun, fun _ => rfl⟩, left := nofun }

theorem execJobStart_keeps (h : execJobStart s = .next t) : s.course.Keeps t.course := by
  unfold execJobStart at h
  repeat' split at h
  · exact (unchanged_leads h).keeps
  · rename_i j rest hq hm
    cases h
    have hstage : (startJob j rest s).dcc.stage = .weighDry := congrArg Course.stage (startJob_course j rest s)
    exact (startJob_keeps hq hm).trans (faultAtStart_keeps hstage)
  · exact (unchanged_leads h).keeps

theorem recoverDip_course (s : State) : (recoverDip s).course = { s.course.ended with stage := .idle } := by
  have hcode : ∀ g : State, (g.onDcc fun d => { d with faultCode := .none }).course = g.course := fun _ => rfl
  rw [recoverDip, setStage_course, hcode, finishDip_course]
  rfl

theorem execRecover_keeps {tail : List Byte} (h : execRecover tail s = .next t) : s.course.Keeps t.course := by
  refine takeArgs_elim (P := fun t => s.course.Keeps t.course) h (fun _ => (Course.Leads.refl _).keeps) fun args h => ?_
  dsimp only at h
  repeat' split at h
  · exact (refuse_leads h).keeps
  · exact (refuse_leads h).keeps
  · exact (refuse_leads h).keeps
  · cases h
    have hcourse : (drivePins (respond .ok [] (recoverDip s))).course = { s.course.ended with stage := .idle } := by
      rw [drivePins_course, respond_course, recoverDip_course]
    refine { toBooks := ?_, cycle := fun _ => ?_ }
    · rw [hcourse]
      exact (ended_books _).trans (.of_eq rfl rfl rfl rfl)
    · rw [hcourse]
      exact ended_cycleOk _

theorem reset_cycleOk : State.reset.course.CycleOk where
  quiet _ := rfl
  conflict := nofun
  yielding := nofun
  kettle := nofun
  unclaimed _ := rfl
  admitted := nofun
  unreserved _ := rfl
  hand := nofun
  running := nofun
  active := ⟨nofun, fun h => absurd rfl h⟩
  left := nofun

theorem reset_logOk : State.reset.course.LogOk := ⟨rfl, Nat.zero_le _⟩
theorem reset_queueOk : State.reset.course.QueueOk := ⟨Nat.zero_le _, List.nodup_nil⟩

theorem exec_keeps {c : Instr} (h : exec c s = .next t) : s.course.Keeps t.course := by
  by_cases hc : Wakes c
  · rcases hc with rfl | rfl | ⟨tail, rfl⟩
    · cases h
      exact { log := fun _ => reset_logOk, queue := fun _ => reset_queueOk, cycle := fun _ => reset_cycleOk }
    · exact execJobStart_keeps h
    · exact execRecover_keeps h
  · exact (exec_leads hc h).keeps

/-- A step runs the command at the front of the queue, or idles (log 3). -/
theorem step_keeps (h : step s = .next t) : s.course.Keeps t.course := by
  unfold step at h
  split at h
  · cases h
    exact (Course.Leads.refl _).keeps
  · rename_i rest _
    exact exec_keeps (s := { s with pending := rest }) h

/-- Settles O57: the books of the log and of the queue are kept by every step. -/
theorem stepKeepsTheLogAndTheQueue : Obligations.StepKeepsTheLogAndTheQueue :=
  ⟨fun s t hs h => (logWf_iff t).mpr ((step_keeps h).log ((logWf_iff s).mp hs)),
    fun s t hs h => (queueWf_iff t).mpr ((step_keeps h).queue ((queueWf_iff s).mp hs))⟩

/-- Settles O59: every step keeps the conditions on the course. -/
theorem stepKeepsTheCycle : Obligations.StepKeepsTheCycle :=
  fun s t hs h => (cycleWf_iff t).mpr ((step_keeps h).cycle ((cycleWf_iff s).mp hs))

end Sys2Proof.Machine
end

section
/-! PROOF. IDLE and FAULT are left by the commands that wake a dip, and the modes LISTEN and READY are entered by their own (O19);
hardware reset meets every invariant (O54). -/

namespace Sys2Proof.Machine

variable {s t : State}

/-! ### A dip at rest (R24, R44, R45) -/

theorem resting_of_sgxWf (h : SgxWf s) (hs : s.dcc.stage = .idle ∨ s.dcc.stage = .fault) : s.course.Resting := by
  refine ⟨?_, hs⟩
  by_contra hr
  obtain ⟨p, -, hp⟩ := h.2 (by show s.course.running = true; simpa using hr)
  rcases hs with hs | hs <;> rw [hs] at hp <;> cases p <;> cases hp

/-- RECOVER outside FAULT is refused (R45). -/
theorem execRecover_stage {tail : List Byte} (hs : s.dcc.stage ≠ .fault) (h : execRecover tail s = .next t) :
    t.dcc.stage = s.dcc.stage := by
  refine takeArgs_elim (P := fun t => t.dcc.stage = s.dcc.stage) h (fun _ => rfl) fun args h => ?_
  dsimp only at h
  rw [if_pos hs] at h
  split at h <;> cases h <;> rfl

/-- JOB_START outside IDLE changes nothing (R24, log 4). -/
theorem execJobStart_eq (hs : s.dcc.stage ≠ .idle) : execJobStart s = .next s := by
  have hm : s.mayStart = false := by
    simp [State.mayStart, hs]
  unfold execJobStart
  rw [hm]
  split <;> rfl

/-! ### The modes (R188) -/

/-- How a command other than hardware reset moves the mode (R188, R189, R193, R197). -/
def ModeMoves (c : Instr) (s t : State) : Prop :=
  t.cpt.mode = s.cpt.mode ∨ t.cpt.mode = .boot ∨ t.cpt.mode = .loading
    ∨ (t.cpt.mode = .ready ∧ s.cpt.mode = .listen ∧ c = .listenTimerExpiry)
    ∨ (t.cpt.mode = .listen ∧ (s.cpt.validating = true ∧ c = .validationEnd ∨ s.cpt.restartPending = true))

theorem execLoadBegin_mode {tail : List Byte} {c : Instr} (h : execLoadBegin tail s = .next t) : ModeMoves c s t := by
  refine takeArgs_elim (P := ModeMoves c s) h (fun _ => .inl rfl) fun args h => ?_
  dsimp only at h
  split at h <;> cases h
  · exact .inr (.inr (.inl rfl))
  · exact .inl rfl

theorem execValidationEnd_mode (h : execValidationEnd s = .next t) : ModeMoves .validationEnd s t := by
  unfold execValidationEnd at h
  split at h
  · rename_i hv
    split at h <;> cases h
    · exact .inr (.inl rfl)
    · have hm : (loadPasses (settingsOf s.cpt.load.buffer) s).cpt.mode = .listen := by simp [loadPasses, Cpt.listenFromLoad]
      exact .inr (.inr (.inr (.inr ⟨hm, .inl ⟨hv, rfl⟩⟩)))
  · cases h
    exact .inl rfl

theorem execLoadTimerExpiry_mode {c : Instr} (h : execLoadTimerExpiry s = .next t) : ModeMoves c s t := by
  unfold execLoadTimerExpiry at h
  split at h <;> cases h
  · exact .inr (.inl rfl)
  · exact .inl rfl

theorem execListenTimerExpiry_mode (h : execListenTimerExpiry s = .next t) : ModeMoves .listenTimerExpiry s t := by
  unfold execListenTimerExpiry at h
  split at h
  · rename_i hl
    cases h
    exact .inr (.inr (.inr (.inl ⟨rfl, hl.1, rfl⟩)))
  · cases h
    exact .inl rfl

theorem execRestartTimerExpiry_mode {c : Instr} (h : execRestartTimerExpiry s = .next t) : ModeMoves c s t := by
  unfold execRestartTimerExpiry at h
  split at h
  · rename_i hr
    cases h
    exact .inr (.inr (.inr (.inr ⟨rfl, .inr hr.1⟩)))
  · cases h
    exact .inl rfl

theorem receiveNotice_mode (bytes : List Byte) (spoiled : Bool) (s : State) :
    (receiveNotice bytes spoiled s).cpt.mode = s.cpt.mode := by
  have hstore : ∀ i a, (storeState i a s).cpt.mode = s.cpt.mode := fun i a => by
    unfold storeState
    dsimp only
    split <;> simp
  unfold receiveNotice storeLeave dropPeer
  repeat' split
  all_goals simp [hstore]

/-- An own LEAVE gone out while RESTART is pending clears it (R197); no other end of a notice moves the mode. -/
theorem endNotice_mode {c : Instr} (bytes : List Byte) (spoiled : Bool) (s : State) : ModeMoves c s (endNotice bytes spoiled s) := by
  have hreceive : ∀ g : State, g.cpt.mode = s.cpt.mode → ModeMoves c s (receiveNotice bytes spoiled g) := fun g hg =>
    .inl ((receiveNotice_mode _ _ g).trans hg)
  unfold endNotice attemptSucceeded
  repeat' split
  · exact .inl rfl
  · exact hreceive s rfl
  · unfold leaveSent
    dsimp only
    split
    · split
      · rename_i hr
        exact .inr (.inr (.inr (.inr ⟨rfl, .inr hr⟩)))
      · exact .inl rfl
    · exact .inl rfl
  · refine .inl ?_
    unfold stateSent
    dsimp only
    split <;> simp
  · exact hreceive (dropAttempt s) rfl
  · exact hreceive (attemptFailed (dropAttempt s)) (by simp)
  · exact hreceive (dropAttempt s) rfl

/-- Beyond the six commands that move the mode the table of O18 gives none. -/
theorem exec_mode {c : Instr} (hc : c ≠ .hardwareReset) (h : exec c s = .next t) : ModeMoves c s t := by
  have htable := congrArg Named.mode (exec_scope hc h).within
  cases c with
  | hardwareReset => exact absurd rfl hc
  | loadBegin => exact execLoadBegin_mode h
  | validationEnd => exact execValidationEnd_mode h
  | loadTimerExpiry => exact execLoadTimerExpiry_mode h
  | listenTimerExpiry => exact execListenTimerExpiry_mode h
  | restartTimerExpiry => exact execRestartTimerExpiry_mode h
  | noticeEnd bytes spoiled =>
    cases h
    exact endNotice_mode bytes spoiled s
  | _ => exact .inl htable

/-- Settles O19: a command that does not wake the dip leaves it at rest (`exec_leads`), and the commands that do are refused in
the other stage; the mode by `exec_mode`. -/
theorem idleFaultAndModesAreLeftOnlySo : Obligations.IdleFaultAndModesAreLeftOnlySo := by
  intro c s t hc h
  have hrest : ¬ Wakes c → SgxWf s → s.dcc.stage = .idle ∨ s.dcc.stage = .fault → t.dcc.stage = s.dcc.stage :=
    fun hw hx hs => ((exec_leads hw h).rest (resting_of_sgxWf hx hs)).2
  refine ⟨fun hx hs => ?_, fun hx hs => ?_, fun ht => ?_, fun ht => ?_⟩
  · by_cases hw : Wakes c
    · rcases hw with hw | hw | ⟨tail, rfl⟩
      · exact absurd hw hc
      · exact .inr hw
      · exact .inl ((execRecover_stage (by rw [hs]; nofun) h).trans hs)
    · exact .inl ((hrest hw hx (.inl hs)).trans hs)
  · by_cases hw : Wakes c
    · rcases hw with hw | rfl | hw
      · exact absurd hw hc
      · have heq := (execJobStart_eq (by rw [hs]; nofun)).symm.trans h
        cases heq
        exact .inl hs
      · exact .inr hw
    · exact .inl ((hrest hw hx (.inr hs)).trans hs)
  · rcases exec_mode hc h with hm | hm | hm | ⟨-, hm⟩ | ⟨hm, -⟩
    · exact .inl (hm.symm.trans ht)
    · rw [ht] at hm; cases hm
    · rw [ht] at hm; cases hm
    · exact .inr hm
    · rw [ht] at hm; cases hm
  · rcases exec_mode hc h with hm | hm | hm | ⟨hm, -⟩ | ⟨-, hm⟩
    · exact .inl (hm.symm.trans ht)
    · rw [ht] at hm; cases hm
    · rw [ht] at hm; cases hm
    · rw [ht] at hm; cases hm
    · exact .inr hm

/-! ### Hardware reset -/

/-- Settles O54: the blocks after hardware reset, invariant by invariant. -/
theorem resetMeetsTheInvariants : Obligations.ResetMeetsTheInvariants :=
  ⟨by unfold PinsFollow; decide, ⟨Nat.zero_le _, (levelOf_zero _).symm⟩, (logWf_iff _).mpr reset_logOk,
    (queueWf_iff _).mpr reset_queueOk, by unfold SurfaceWf; decide, (cycleWf_iff _).mpr reset_cycleOk,
    ⟨Nat.zero_le _, nofun, nofun⟩, nofun⟩

end Sys2Proof.Machine
end

section
/-! PROOF. The frames of the dip that are answered by their checks, and the expiries of its timers (O22, O24, O34). -/

namespace Sys2Proof.Machine

variable {s t : State}

/-! ### DIP and CANCEL_JOB (R21, R23) -/

theorem exec_dip {tail args : List Byte} (hopen : FrameOpen s tail args) (honline : s.online = true) :
    exec (.dip tail) s
      = if s.cpt.restartPending = true then .next (refusedWith .mode s)
        else match dipRefusal args s with
          | some r => .next (refusedWith r s)
          | none => accept (beBytes 1 (s.dcc.queue ++ [jobOfArgs args]).length)
              (s.onDcc fun d => { d with queue := s.dcc.queue ++ [jobOfArgs args] }) := by
  show execDip tail s = _
  rw [execDip, takeFrame_of_open s hopen, listenReady_inMode, if_pos honline]
  rfl

/-- The checks of R21 in their order, as the statement writes them. -/
theorem dipRefusal_eq (args : List Byte) (s : State) :
    dipRefusal args s
      = if args.length ≠ 13 ∨ jobInRange s.settings.zoneCount (jobOfArgs args) = false then some .badArg
        else match headOf s.settings (jobOfArgs args).recipe with
          | none => some .noRecipe
          | some head =>
            if (jobOfArgs args).id ∈ s.jobIds then some .duplicateJob
            else if 4 ≤ s.dcc.queue.length then some .queueFull
            else if ∃ seg ∈ recipeSegments s.settings head, absoluteOutside s.settings (jobOfArgs args).hang seg = true then
              some .outOfBounds
            else none := by
  unfold dipRefusal
  simp only [Bool.not_eq_true', List.contains_iff_mem, queueSlots, List.any_eq_true] <;> rfl

theorem exec_cancelJob {tail args : List Byte} (hopen : FrameOpen s tail args) (honline : s.online = true)
    (hlen : args.length = 4) {id : Word} (hid : BitVec.ofNat 32 (beNat args) = id) :
    exec (.cancelJob tail) s
      = if s.dcc.queue.any (fun j => j.id == id) then
          accept [] (s.onDcc fun d => { d with queue := d.queue.filter fun j => j.id != id })
        else if (s.job.map (·.id)) = some id then .next (refusedWith .active s)
        else .next (refusedWith .noSuchJob s) := by
  show execCancelJob tail s = _
  rw [execCancelJob, takeFrame_of_open s hopen, listenReady_inMode, if_pos honline, withArgs_eq, if_pos hlen,
    beField_all args 4 hlen, hid]
  rfl

theorem beBytes_one (n : Nat) : beBytes 1 n = [BitVec.ofNat 8 n] := by
  simp [beBytes]

/-- Settles O22: DIP by its checks (`dipRefusal_eq`), CANCEL_JOB by where the id is found. -/
theorem jobsAreQueuedAndCancelled : Obligations.JobsAreQueuedAndCancelled := by
  refine ⟨fun s tail args hopen honline => ?_, fun s tail args id hopen honline hlen hid => ?_, fun s tail args hopen => ?_⟩
  · rw [exec_dip hopen honline, dipRefusal_eq]
    by_cases hr : s.cpt.restartPending = true
    · rw [if_pos hr, if_pos hr]
    rw [if_neg hr, if_neg hr]
    by_cases ha : args.length ≠ 13 ∨ jobInRange s.settings.zoneCount (jobOfArgs args) = false
    · rw [if_pos ha, if_pos ha]
    rw [if_neg ha, if_neg ha]
    cases headOf s.settings (jobOfArgs args).recipe with
    | none => rfl
    | some head =>
      dsimp only
      by_cases hid : (jobOfArgs args).id ∈ s.jobIds
      · rw [if_pos hid, if_pos hid]
      rw [if_neg hid, if_neg hid]
      by_cases hfull : 4 ≤ s.dcc.queue.length
      · rw [if_pos hfull, if_pos hfull]
      rw [if_neg hfull, if_neg hfull]
      by_cases hout : ∃ seg ∈ recipeSegments s.settings head, absoluteOutside s.settings (jobOfArgs args).hang seg = true
      · rw [if_pos hout, if_pos hout]
      rw [if_neg hout, if_neg hout]
      dsimp only
      rw [beBytes_one, List.length_append]
      rfl
  · rw [exec_cancelJob hopen honline hlen hid]
    have hany : (s.dcc.queue.any fun j => j.id == id) = true ↔ ∃ j ∈ s.dcc.queue, j.id = id := by simp
    have hnone : (∀ j ∈ s.dcc.queue, j.id ≠ id) → ¬ (s.dcc.queue.any fun j => j.id == id) = true := fun h ha => by
      obtain ⟨j, hj, hjid⟩ := hany.mp ha
      exact h j hj hjid
    refine ⟨fun hq => ?_, fun hq ⟨d, hd, hdid⟩ => ?_, fun hq hd => ?_⟩
    · have hfilter : (s.dcc.queue.filter fun j => j.id != id) = s.dcc.queue.filter fun j => decide (j.id ≠ id) :=
        List.filter_congr fun j _ => by simp [bne, BEq.beq]
      rw [if_pos (hany.mpr hq), ← hfilter]
      rfl
    · rw [if_neg (hnone hq), if_pos (by rw [State.job, hd, ← hdid]; rfl)]
    · rw [if_neg (hnone hq), if_neg]
      rw [State.job, Option.map_map, Option.map_eq_some_iff]
      rintro ⟨d, hdip, hdid⟩
      exact hd d hdip hdid
  · have hexec : exec (.cancelJob tail) s = execCancelJob tail s := rfl
    rw [hexec, execCancelJob, takeFrame_of_open s hopen, listenReady_inMode]
    exact ⟨fun hoff => if_neg (by simp [hoff]), fun hon hlen => by rw [if_pos hon, withArgs_eq, if_neg hlen]⟩

/-! ### ABORT_DIP (R39) -/

/-- ABORT_DIP with a dip active, by the checks of R39. -/
theorem exec_abortDip {tail : List Byte} {d : Dip} (hopen : FrameOpen s tail []) (honline : s.online = true)
    (hd : s.dcc.active = some d) :
    exec (.abortDip tail) s
      = if s.dcc.stage = .fault then .next (refusedWith .mode s)
        else if d.abortPending then .next (refusedWith .already s)
        else if s.dcc.stage.tooLate then .next (refusedWith .late s)
        else .next (drivePins (respond .ok [] (routeAbort (markAbort s)))) := by
  show execAbortDip tail s = _
  rw [execAbortDip, takeFrame_of_open s hopen, listenReady_inMode, if_pos honline, withArgs_eq, if_pos (by rfl), hd]
  rfl

/-- An abort that is accepted (R39). -/
theorem exec_abortDip_accepted {tail : List Byte} {d : Dip} (hopen : FrameOpen s tail []) (honline : s.online = true)
    (hd : s.dcc.active = some d) (hpending : d.abortPending = false) (hf : s.dcc.stage ≠ .fault)
    (hlate : s.dcc.stage.tooLate = false) :
    exec (.abortDip tail) s = .next (drivePins (respond .ok [] (routeAbort (markAbort s)))) := by
  rw [exec_abortDip hopen honline hd, if_neg hf, if_neg (by simp [hpending]), if_neg (by simp [hlate])]

/-- Settles O24: the checks in their order, then the route of the stage. -/
theorem abortDipIsAnswered : Obligations.AbortDipIsAnswered := by
  intro s tail hopen honline
  refine ⟨fun hnone => ?_, fun d hd => ?_⟩
  · show execAbortDip tail s = _
    rw [execAbortDip, takeFrame_of_open s hopen, listenReady_inMode, if_pos honline, withArgs_eq, if_pos (by rfl), hnone]
    rfl
  · have haccept : ∀ st, s.dcc.stage = st → st ≠ .fault → st.tooLate = false → d.abortPending = false →
        exec (.abortDip tail) s = .next (drivePins (respond .ok [] (routeAbort (markAbort s)))) :=
      fun st hst hf hl hp => exec_abortDip_accepted hopen honline hd hp (by rw [hst]; exact hf) (by rw [hst]; exact hl)
    have hroute : ∀ st, s.dcc.stage = st → (markAbort s).dcc.stage = st := fun st hst => hst
    refine ⟨fun hf => ?_, fun hf hp => ?_, fun hp hs => ?_, fun hp hs => ?_, fun hp hs => ?_, fun hp hs => ?_, fun hp hs => ?_⟩
    · rw [exec_abortDip hopen honline hd, if_pos hf]
    · rw [exec_abortDip hopen honline hd, if_neg hf, if_pos hp]
    · have hlate : s.dcc.stage ≠ .fault ∧ s.dcc.stage.tooLate = true := by
        rcases hs with hs | hs | hs <;> rw [hs] <;> exact ⟨nofun, rfl⟩
      rw [exec_abortDip hopen honline hd, if_neg hlate.1, if_neg (by simp [hp]), if_pos hlate.2]
    · rcases hs with hs | hs
      · rw [haccept _ hs nofun rfl hp, routeAbort, hroute _ hs]
      · rw [haccept _ hs nofun rfl hp, routeAbort, hroute _ hs]
    · rw [haccept _ hs nofun rfl hp, routeAbort, hroute _ hs]
    · rw [haccept _ hs nofun rfl hp, routeAbort, hroute _ hs]
    · rcases hs with hs | hs
      · rw [haccept _ hs nofun rfl hp, routeAbort, hroute _ hs]
      · rw [haccept _ hs nofun rfl hp, routeAbort, hroute _ hs]

/-! ### Timers of the dip (R36, R54, R59, R61, R62) -/

theorem inWait_iff (s : State) : s.inWait = true ↔ ∃ input edge, s.sgx.current = some (.wait input edge) := by
  unfold State.inWait
  split
  · rename_i input edge h
    exact ⟨fun _ => ⟨input, edge, h⟩, fun _ => rfl⟩
  · rename_i h
    exact ⟨nofun, fun ⟨input, edge, he⟩ => absurd he (h input edge)⟩

/-- HOLD_LIMIT_EXPIRY with a hold in effect (R36). -/
theorem exec_holdLimitExpiry {h : Hold} (hh : s.dcc.hold = some h) :
    exec .holdLimitExpiry s
      = if !h.longRaised ∧ 1000 * s.settings.holdLimit < h.elapsed then
          .next (drivePins (raiseEvent .holdLong (s.onDcc fun d => { d with hold := some { h with longRaised := true } })))
        else .next s := by
  show execHoldLimitExpiry s = _
  simp only [execHoldLimitExpiry, hh]
  rfl

/-- Settles O34: each expiry by its guard. -/
theorem segmentAndHoldTimersExpire : Obligations.SegmentAndHoldTimersExpire := by
  refine ⟨fun s => ⟨fun hc hw => if_pos ⟨hc, hw⟩, fun h => if_neg (not_and_or.mpr h), fun input edge d hc hw hd => ?_,
    fun h => if_neg ?_, fun h => if_pos h, fun h => if_pos h, fun h => if_neg h, fun h => if_neg h⟩,
    fun s h hh hlong hdue => ?_, fun s h => ?_, fun s h hh hnot => ?_⟩
  · refine (if_pos ⟨(inWait_iff s).mpr ⟨input, edge, hc⟩, hw⟩).trans ?_
    rw [onFlags_eq, State.onDcc, hd]
    rfl
  · rintro ⟨hw, hzero⟩
    obtain ⟨input, edge, hc⟩ := (inWait_iff s).mp hw
    exact h.elim (fun hn => hn input edge hc) fun hn => hn hzero
  · let g := drivePins (raiseEvent .holdLong (s.onDcc fun d => { d with hold := some { h with longRaised := true } }))
    have hfirst : exec .holdLimitExpiry s = .next g := by
      rw [exec_holdLimitExpiry hh]
      exact if_pos ⟨by simp [hlong], hdue⟩
    have hagain : exec .holdLimitExpiry g = .next g := by
      rw [exec_holdLimitExpiry (h := { h with longRaised := true }) rfl]
      exact if_neg fun hn => by cases hn.1
    exact ⟨g, hfirst, raiseEvent_pendingEvent _ _, rfl, hagain,
      ⟨rfl, rfl, rfl, rfl, rfl, rfl, rfl, rfl, rfl, rfl, rfl, rfl, rfl, rfl⟩, rfl, rfl, rfl⟩
  · show execHoldLimitExpiry s = _
    simp only [execHoldLimitExpiry, h]
    rfl
  · rw [exec_holdLimitExpiry hh]
    refine if_neg fun hn => ?_
    rcases hnot with hl | he
    · simp [hl] at hn
    · exact absurd hn.2 (Nat.not_lt.mpr he)

end Sys2Proof.Machine
end

section
/-! PROOF. JOB_START and the faults (O23, O27): what the end of a hold and the entry into FAULT make of the blocks, once, and the
arrivals that lead there. -/

namespace Sys2Proof.Machine

variable {s t : State}

/-! ### The end of a hold and the entry into FAULT (R36, R43, R64) -/

/-- The Dip Cycle Controller after the end of a hold (R36, R104). -/
theorem endHold_dcc (s : State) :
    (endHold s).dcc
      = { s.dcc with
          hold := none, active := s.dcc.active.map fun d => { d with holdTime := holdTimeAfter s.dcc.hold d } } := by
  unfold endHold
  split
  · rename_i h
    have hactive : (s.dcc.active.map fun d => { d with holdTime := holdTimeAfter none d }) = s.dcc.active := by
      cases s.dcc.active <;> rfl
    rw [h, hactive, ← h]
  · rename_i b h
    have hr : ∀ u : State, (raiseState u).dcc = u.dcc := fun u => by simp
    rw [hr, h]
    rfl

/-- A dip as FAULT takes it: its hold over, the stage of the fault kept (R36, R43). -/
def Dip.faultedIn (stage : Stage) (hold : Option Hold) (d : Dip) : Dip :=
  { d with
    holdTime := holdTimeAfter hold d, faultStage := some stage, flags := { d.flags with faulted := true } }

theorem setStage_dcc (st : Stage) (s : State) : (setStage st s).dcc = { s.dcc with stage := st } := by simp

/-- What FAULT notes of its dip, and the hold it ends (R43, R64). -/
theorem faultedIn_eq (stage : Stage) (hold : Option Hold) (d : Dip) :
    d.faultedIn stage hold
      = { d with
          holdTime := holdTimeAfter hold { d with faultStage := some stage, flags := { d.flags with faulted := true } }
          faultStage := some stage, flags := { d.flags with faulted := true } } := by
  cases hold <;> rfl

theorem enterFault_dcc (code : FaultCode) (s : State) :
    (enterFault code s).dcc
      = { s.dcc with
          stage := .fault, hold := none, faultCode := code, secondFaults := 0
          active := s.dcc.active.map (Dip.faultedIn s.dcc.stage s.dcc.hold) } := by
  let g := (s.onDcc fun d => { d with faultCode := code, secondFaults := 0 }).onDip fun d =>
    { d with faultStage := some s.dcc.stage, flags := { d.flags with faulted := true } }
  have hg : (enterFault code s).dcc = { (endHold g).dcc with stage := .fault } := setStage_dcc _ _
  have hactive : g.dcc.active = s.dcc.active.map fun d =>
    { d with faultStage := some s.dcc.stage, flags := { d.flags with faulted := true } } := rfl
  have hmap : Dip.faultedIn s.dcc.stage s.dcc.hold = _ := funext (faultedIn_eq s.dcc.stage s.dcc.hold)
  rw [hg, endHold_dcc, hactive, Option.map_map, hmap]
  rfl

/-- The hoist and the markers in FAULT: nothing runs and both latches are low (R62, R64). -/
theorem enterFault_sgx (code : FaultCode) (s : State) :
    (enterFault code s).sgx
      = { s.sgx with
          current := none, repeats := 0, dwell := none, wait := none
          m0 := { high := false, pulse := none }, m1 := { high := false, pulse := none } } := by
  simp [enterFault, dropSegment, markersLow]

theorem enterFault_hif (code : FaultCode) (s : State) :
    (enterFault code s).hif = { s.hif with motion := none, driveLost := none } := by
  simp [enterFault, dropSegment]

theorem enterFault_wgu (code : FaultCode) (s : State) : (enterFault code s).wgu = { s.wgu with op := none } := by
  simp [enterFault, dropWeigh]

theorem enterFault_zcu (code : FaultCode) (s : State) : (enterFault code s).zcu = { s.zcu with yielding := false } := by
  simp [enterFault, Stage.yields]

theorem speedCommand_of_stage {s : State} (h : s.dcc.stage.moves = false) : s.speedCommand = 0 := by
  rw [State.speedCommand, if_neg]
  rw [h]
  rintro ⟨-, hm, -⟩
  cases hm

/-- FAULT as the statements put it, with the pins following (R43, R64). -/
theorem enterFault_entered (code : FaultCode) (s : State) : EnteredFault code s (drivePins (enterFault code s)) := by
  have hdcc := enterFault_dcc code s
  have hsgx := enterFault_sgx code s
  have hhif := enterFault_hif code s
  have hwgu := enterFault_wgu code s
  have hzcu := enterFault_zcu code s
  have hstage : (enterFault code s).dcc.stage = .fault := (congrArg Dcc.stage hdcc :)
  refine ⟨hstage, (congrArg Dcc.faultCode hdcc :), (congrArg Dcc.secondFaults hdcc :), (congrArg Dcc.hold hdcc :), (congrArg Dcc.queue hdcc :),
    raiseEvent_pendingEvent _ _, (congrArg Sgx.current hsgx :), (congrArg (·.m0.high) hsgx :), (congrArg (·.m1.high) hsgx :),
    (congrArg Sgx.cursor hsgx :), speedCommand_of_stage (by rw [hstage]; rfl), (congrArg (·.m0.high) hsgx :), (congrArg (·.m1.high) hsgx :),
    (congrArg Hif.motion hhif :), (congrArg Hif.driveLost hhif :), (congrArg Wgu.op hwgu :), (congrArg Wgu.window hwgu :),
    (congrArg Zcu.claim hzcu :), (congrArg Zcu.mask hzcu :), by simp, by simp, by simp, by simp, by simp, by simp, fun d hd => ?_⟩
  refine ⟨d.faultedIn s.dcc.stage s.dcc.hold, ?_, rfl, rfl, rfl, rfl, rfl, rfl, rfl, rfl, rfl, rfl⟩
  exact ((congrArg Dcc.active hdcc :)).trans (by rw [hd]; rfl)

/-! ### JOB_START (R24, R27, R101) -/

theorem mayStart_iff (s : State) :
    s.mayStart = true ↔ (s.cpt.mode = .ready ∧ s.dcc.stage = .idle ∧ s.acu.log.length < 32
      ∧ s.driveReady = true ∧ s.cpt.restartPending = false) := by
  simp only [State.mayStart, Bool.and_eq_true, decide_eq_true_eq, Bool.not_eq_true', and_assoc]
  rfl

theorem startJob_dcc (j : Job) (rest : List Job) (s : State) :
    (startJob j rest s).dcc
      = { s.dcc with stage := .weighDry, queue := rest, active := some (newDip j s.sck s.lineLost) } :=
  setStage_dcc _ _

/-- A weigh request finds the stillness of the window as it stands (R91, R92). -/
theorem weighRequest_wgu_of (hw : t.wgu = s.wgu) (hc : t.cfs = s.cfs) :
    (weighRequest t).wgu = { s.wgu with op := some ⟨if s.still = true then .averaging else .settling, 0, []⟩ } := by
  have hstill : t.still = s.still := by
    rw [State.still, State.settings, hw, hc]
    rfl
  rw [weighRequest_wgu, State.newWeighing, hw, hstill]

theorem startJob_wgu (j : Job) (rest : List Job) (s : State) :
    (startJob j rest s).wgu = { s.wgu with op := some ⟨if s.still = true then .averaging else .settling, 0, []⟩ } :=
  weighRequest_wgu_of (by simp) (by simp)

/-- Settles O23: the head job started (`startJob`), then its fault, if it meets one. -/
theorem jobStartTakesTheHead : Obligations.JobStartTakesTheHead := by
  refine ⟨fun s hs => ?_, mayStart_iff, fun s j rest hq hm => ?_⟩
  · show execJobStart s = _
    unfold execJobStart
    rcases hs with hq | hm
    · rw [hq]
      rfl
    · rw [hm]
      split <;> rfl
  · let g := startJob j rest s
    have hexec : exec .jobStart s = .next (drivePins (faultAtStart g)) := by
      show execJobStart s = _
      unfold execJobStart
      rw [hq]
      exact if_pos hm
    have hdcc : g.dcc = _ := startJob_dcc j rest s
    have hg : g.acu = { s.acu with reserved := true } ∧ g.inv = s.inv ∧ g.zcu.claim = s.zcu.claim ∧ g.adm = s.adm
        ∧ g.peers = s.peers ∧ g.sck = s.sck ∧ g.hif = s.hif := by
      simp [g, startJob]
    obtain ⟨hacu, hinv, hclaim, hadm, hpeers, hsck, hhif⟩ := hg
    have hfault : g.driveFault = s.driveFault := by rw [State.driveFault, hhif]; rfl
    have hvalid : g.hif.hookValid = s.hif.hookValid := by rw [hhif]
    have hcases : (s.driveFault = false ∧ s.hif.hookValid = true ∧ faultAtStart g = g)
        ∨ ∃ code, faultAtStart g = enterFault code g ∧ (s.driveFault = true → code = .driveFault)
          ∧ (s.driveFault = false → code = .encoder) ∧ ¬ (s.driveFault = false ∧ s.hif.hookValid = true) := by
      unfold faultAtStart
      rw [hfault, hvalid]
      cases hf : s.driveFault <;> cases hv : s.hif.hookValid <;> simp
    refine ⟨_, hexec, ?_⟩
    rcases hcases with ⟨hf, hv, heq⟩ | ⟨code, heq, hdrive, hencoder, hnot⟩
    · rw [heq]
      exact ⟨(congrArg Dcc.queue hdcc :), hacu, hinv, hclaim, hadm, hpeers, hsck,
        fun _ _ => ⟨(congrArg Dcc.stage hdcc :), (congrArg Dcc.active hdcc :), startJob_wgu j rest s, (congrArg Dcc.faultCode hdcc :)⟩,
        fun h => (by rw [hf] at h; cases h), fun _ h => (by rw [hv] at h; cases h),
        fun h => (by rw [hf, hv] at h; rcases h with h | h <;> cases h)⟩
    · rw [heq]
      have hfd := enterFault_dcc code g
      rw [hdcc] at hfd
      have hstage : (drivePins (enterFault code g)).dcc.stage = .fault := (congrArg Dcc.stage hfd :)
      have hcode : (drivePins (enterFault code g)).dcc.faultCode = code := (congrArg Dcc.faultCode hfd :)
      refine ⟨(congrArg Dcc.queue hfd :), ?_, ?_, ?_, ?_, ?_, ?_, fun h h' => absurd ⟨h, h'⟩ hnot,
        fun h => ⟨hstage, hcode.trans (hdrive h)⟩, fun h _ => ⟨hstage, hcode.trans (hencoder h)⟩,
        fun _ => ⟨(congrArg Dcc.secondFaults hfd :), congrArg Wgu.op (enterFault_wgu code g), raiseEvent_pendingEvent _ _, ?_⟩⟩
      · simpa using hacu
      · simpa using hinv
      · exact (congrArg Zcu.claim (enterFault_zcu code g)).trans hclaim
      · simpa using hadm
      · simpa using hpeers
      · simpa using hsck
      · exact (congrArg Dcc.active hfd :)

/-! ### The fault causes (R43, R44, R75, R80, R83) -/

theorem faultCause_of_faults {code : FaultCode} (h : s.dcc.stage.faults = true) : faultCause code s = enterFault code s :=
  if_pos h

theorem faultCause_of_fault {code : FaultCode} (h : s.dcc.stage = .fault) : faultCause code s = secondFault s := by
  rw [faultCause, h]
  rfl

theorem faultCause_of_idle {code : FaultCode} (h : s.dcc.stage = .idle) : faultCause code s = s := by
  rw [faultCause, h]
  rfl

/-- An assertion of drive-fault: its level, then the fault cause (R83). -/
theorem exec_driveFaultEdge_rising (h : s.hif.driveFault = some false) :
    exec (.driveFaultEdge true true) s
      = .next (drivePins (faultCause .driveFault { s with hif := { s.hif with driveFault := some true } })) := by
  show execDriveFaultEdge true true s = _
  rw [execDriveFaultEdge, h]
  rfl

/-- A third failed read in a row: the height becomes invalid, then the fault cause (R73, R75). -/
theorem exec_encoderRead_third {start : Bool} {height : BitVec 16} {parity : Bool}
    (hbad : goodRead start height parity = false) (h : s.hif.readFailures = 2) :
    exec (.encoderRead start height parity) s
      = .next (drivePins (faultCause .encoder { s with hif := { s.hif with hookValid := false, readFailures := 3 } })) := by
  have hcount : countFailedRead s = { s with hif := { s.hif with hookValid := false, readFailures := 3 } } := by
    simp [countFailedRead, State.onHif, h, saturate, readFailureLimit]
  show execEncoderRead start height parity s = _
  rw [execEncoderRead, hbad, if_neg nofun, failedRead, if_pos (by rw [h]; rfl), hcount]
  rfl

/-- Settles O27: each arrival comes to `faultCause`, which acts by the stage. -/
theorem faultCausesActByStage : Obligations.FaultCausesActByStage := by
  refine ⟨fun s hs => ⟨fun m hm hlimit hhalt hready => ?_, fun n hn hlimit => ?_, fun hf => ?_,
    fun start height parity hbad hr => ?_⟩,
    fun s hs => ⟨fun hf => ?_, fun start height parity hbad hr => ?_⟩,
    fun s hs => ⟨fun hf => ?_, fun start height parity hbad hr => ?_⟩, fun s hf => ?_⟩
  · refine ⟨_, ?_, enterFault_entered _ s⟩
    show execMotionLimitExpiry s = _
    simp only [execMotionLimitExpiry, hm, faultCause_of_faults hs]
    exact if_pos ⟨hlimit, by rw [hhalt]; rfl, hready⟩
  · refine ⟨_, ?_, enterFault_entered _ s⟩
    show execDriveLostExpiry s = _
    simp only [execDriveLostExpiry, hn, faultCause_of_faults hs]
    exact if_pos hlimit
  · let g : State := { s with hif := { s.hif with driveFault := some true } }
    refine ⟨_, (exec_driveFaultEdge_rising hf).trans ?_, enterFault_entered .driveFault g, ?_⟩
    · rw [faultCause_of_faults (s := g) hs]
    · exact congrArg Hif.driveFault (enterFault_hif .driveFault g)
  · let g : State := { s with hif := { s.hif with hookValid := false, readFailures := 3 } }
    have hhif := enterFault_hif .encoder g
    refine ⟨_, (exec_encoderRead_third hbad hr).trans ?_, enterFault_entered .encoder g, (congrArg Hif.hook hhif :),
      (congrArg Hif.hookValid hhif :), (congrArg Hif.readFailures hhif :)⟩
    rw [faultCause_of_faults (s := g) hs]
  · rw [exec_driveFaultEdge_rising hf, faultCause_of_fault]
    · rfl
    · exact hs
  · rw [exec_encoderRead_third hbad hr, faultCause_of_fault]
    · rfl
    · exact hs
  · rw [exec_driveFaultEdge_rising hf, faultCause_of_idle]
    exact hs
  · rw [exec_encoderRead_third hbad hr, faultCause_of_idle]
    exact hs
  · show execDriveFaultEdge false false s = _
    rw [execDriveFaultEdge, hf]
    rfl

end Sys2Proof.Machine
end

section
/-! PROOF. RECOVER and the aborts that end a dip (O25, O26): what the end of a dip makes of the blocks, once, where the claim and
the reservation are reported to no stage that waits for them. -/

namespace Sys2Proof.Machine

variable {s t : State}

/-! ### The end of a dip (R34, R46) -/

/-- Outside CLAIM the release of the claim leaves the dip (R171). -/
theorem releaseClaim_dcc (h : s.dcc.stage ≠ .claim) : (releaseClaim s).dcc = s.dcc := by
  unfold releaseClaim setClaim reportClaim
  rw [if_neg (by simpa using h)]
  simp

/-- Outside ADMIT the release of the reservation leaves the dip (R183). -/
theorem releaseResv_dcc (h : s.dcc.stage ≠ .admitting) : (releaseResv s).dcc = s.dcc := by
  unfold releaseResv setResv reportResv
  rw [if_neg (by simpa using h)]
  simp

/-- Without a reservation an arrival at the INV leaves the dip (R176). -/
theorem invArrive_dcc_of_none (f : Inv → Inv) (h : s.adm.resv = .none) : (invArrive f s).dcc = s.dcc := by
  have hr : (refreshSurface (s.onInv fun v => (f v).relevel s.settings.area)).adm.resv = .none := h
  unfold invArrive
  dsimp only
  simp only [raiseStateIf_frame, lowTest_frame]
  split
  · rfl
  · rw [admLevelChanged, reviewResv, hr]
    rfl

theorem storeDip_pendingEvent_recordStored {d : Dip} (hd : s.dcc.active = some d) :
    (storeDip s).pendingEvent .recordStored = true := by
  rw [storeDip_eq s hd]
  exact (invArrive_pendingEvent _ (by decide) (by decide) _).trans (logRecord_pendingEvent s _).1

/-- The record of a dip is completed from the count, the station, the epoch and the fault code (R103). -/
theorem recordOf_congr (hq : t.acu = s.acu) (hc : t.cfs = s.cfs) (hi : t.inv = s.inv) (hk : t.sck = s.sck)
    (hf : t.dcc.faultCode = s.dcc.faultCode) (d : Dip) : recordOf t d = recordOf s d := by
  simp only [recordOf, State.ownNumber, own_congr hc, hq, hi, hk, hf]

/-- What the end of a dip makes of the blocks (R34 steps 1 to 6, R46 steps 1 to 5). -/
structure DipEnded (d : Dip) (s t : State) : Prop where
  dcc      : t.dcc = { s.dcc with active := none }
  zcu      : t.zcu = { claim := .none, mask := 0, conflict := false, yielding := false }
  resv     : t.adm.resv = .none
  full     : t.adm.full = 0
  actual   : t.adm.actual = 0
  surface  : t.adm.surface = t.adm.without
  cursor   : t.sgx.cursor = .none
  hand     : t.sgx.stage = none
  m0       : t.sgx.m0.high = false
  m1       : t.sgx.m1.high = false
  log      : t.acu.log = s.acu.log ++ [recordOf s d]
  reserved : t.acu.reserved = false
  done     : t.pendingEvent .dipDone = true
  stored   : t.pendingEvent .recordStored = true

theorem zcu_eq {z : Zcu} {c : ClaimState} {m : Mask} {b y : Bool} (hc : z.claim = c) (hm : z.mask = m) (hb : z.conflict = b)
    (hy : z.yielding = y) : z = { claim := c, mask := m, conflict := b, yielding := y } := by
  subst hc hm hb hy
  rfl

theorem onDcc_pendingEvent (f : Dcc → Dcc) (u : State) (e : Event) : (u.onDcc f).pendingEvent e = u.pendingEvent e := rfl

/-- The last steps of the end of a dip leave the events as DIP_DONE raised them (R34). -/
theorem clearFull_onDcc_pendingEvent (f : Dcc → Dcc) (u : State) (e : Event) :
    (clearFull (u.onDcc f)).pendingEvent e = u.pendingEvent e := rfl

theorem finishDip_ended {d : Dip} (hd : s.dcc.active = some d) (hclaim : s.dcc.stage ≠ .claim)
    (hadmit : s.dcc.stage ≠ .admitting) : DipEnded d s (finishDip s) := by
  let g := dropRecipe (markersLow (releaseResv (releaseClaim s)))
  have hdcc : g.dcc = s.dcc := by
    have hr : (releaseResv (releaseClaim s)).dcc = s.dcc := by
      rw [releaseResv_dcc (by simpa using hadmit), releaseClaim_dcc hclaim]
    simpa [g] using hr
  have hresv : g.adm.resv = .none := by simp [g, releaseResv]
  have hgd : g.dcc.active = some d := by rw [hdcc]; exact hd
  have hrecord : recordOf g d = recordOf s d :=
    recordOf_congr (by simp [g]) (by simp [g]) (by simp [g]) (by simp [g]) (by rw [hdcc]) d
  have hstore : (storeDip g).dcc = s.dcc := by
    rw [storeDip_eq g hgd, invArrive_dcc_of_none _ (by simpa using hresv), ← hdcc]
    simp
  have hacu : (storeDip g).acu = { log := s.acu.log ++ [recordOf s d], reserved := false, nextSeq := s.acu.nextSeq + 1 } := by
    have hg : g.acu = s.acu := by simp [g]
    rw [storeDip_eq g hgd]
    simp only [invArrive_frame, logRecord_acu, hrecord, hg]
  have hsgx : (storeDip g).sgx = g.sgx := by simp
  have hcourse := finishDip_course s
  have hevents : ∀ e, (finishDip s).pendingEvent e = (raiseEvent .dipDone (storeDip g)).pendingEvent e :=
    clearFull_onDcc_pendingEvent _ _
  exact
    { dcc := congrArg (fun x : Dcc => { x with active := none }) hstore
      zcu := by
        have hc : (finishDip s).zcu.claim = .none := congrArg Course.claim hcourse
        have hm : (finishDip s).zcu.mask = 0 := congrArg Course.mask hcourse
        have hf : (finishDip s).zcu.conflict = false := congrArg Course.conflict hcourse
        have hy : (finishDip s).zcu.yielding = false := congrArg Course.yielding hcourse
        exact zcu_eq hc hm hf hy
      resv := congrArg Course.resv hcourse
      full := rfl, actual := rfl, surface := rfl
      cursor := congrArg Sgx.cursor hsgx, hand := congrArg Sgx.stage hsgx
      m0 := congrArg (·.m0.high) hsgx, m1 := congrArg (·.m1.high) hsgx
      log := congrArg Acu.log hacu, reserved := congrArg Acu.reserved hacu
      done := (hevents _).trans (raiseEvent_pendingEvent (storeDip g) .dipDone)
      stored := (hevents _).trans
        ((raiseEvent_pendingEvent_of_apart (storeDip g) (e := .dipDone) (by decide)).trans (storeDip_pendingEvent_recordStored hgd)) }

/-! ### RECOVER (R45, R46) -/

/-- The pins and the response leave a pending event (R194). -/
theorem pendingEvent_answered (code : ResultCode) (data : List Byte) (u : State) (e : Event) :
    (drivePins (respond code data u)).pendingEvent e = u.pendingEvent e := rfl

theorem raiseState_pendingEvent (u : State) (e : Event) : (raiseState u).pendingEvent e = u.pendingEvent e :=
  pendingEvent_congr (by simp) e

theorem setStage_pendingEvent (st : Stage) (u : State) (e : Event) : (setStage st u).pendingEvent e = u.pendingEvent e :=
  pendingEvent_congr (by simp) e

theorem setStage_idle_zcu (u : State) : (setStage .idle u).zcu = { u.zcu with yielding := false } := by
  simp [Stage.yields]

/-- RECOVER by the checks of R45. -/
theorem exec_recover {tail args : List Byte} (hopen : FrameOpen s tail args) (honline : s.online = true)
    (hlen : args.length = 1) :
    exec (.recover tail) s
      = if 1 < beNat args then .next (refusedWith .badArg s)
        else if s.dcc.stage ≠ .fault then .next (refusedWith .mode s)
        else if beNat args = 0 ∧ !s.clearOfKettle then .next (refusedWith .notClear s)
        else .next (drivePins (respond .ok [] (recoverDip s))) := by
  show execRecover tail s = _
  rw [execRecover, takeFrame_of_open s hopen, listenReady_inMode, if_pos honline, withArgs_eq, if_pos hlen,
    beField_all args 1 hlen]
  rfl

theorem clearOfKettle_iff (s : State) :
    s.clearOfKettle = true
      ↔ s.hif.hookValid = true ∧ (s.settings.safeHeight : Int) ≤ loadBottom s.hif.hook s.hang := by
  simp [State.clearOfKettle]

/-- RECOVER's last step: IDLE, and the fault code cleared (R46). -/
theorem recovered_of_ended {d : Dip} {u t : State} (h : DipEnded d s u)
    (hframe : u.wgu = s.wgu ∧ u.peers = s.peers ∧ u.cfs = s.cfs)
    (ht : t = drivePins (respond .ok [] (setStage .idle (u.onDcc fun d => { d with faultCode := .none })))) :
    t.cpt.response = { code := .ok, data := [] } ∧ t.dcc.stage = .idle ∧ t.dcc.active = none ∧ t.dcc.faultCode = .none
      ∧ t.dcc.secondFaults = s.dcc.secondFaults ∧ t.dcc.queue = s.dcc.queue
      ∧ t.zcu = { claim := .none, mask := 0, conflict := false, yielding := false }
      ∧ t.adm.resv = .none ∧ t.adm.full = 0 ∧ t.adm.actual = 0 ∧ t.adm.surface = t.adm.without
      ∧ t.acu.log = s.acu.log ++ [recordOf s d] ∧ t.acu.reserved = false
      ∧ t.pendingEvent .dipDone = true ∧ t.pendingEvent .recordStored = true
      ∧ t.wgu = s.wgu ∧ t.peers = s.peers ∧ t.cfs = s.cfs := by
  have hevents : ∀ e, t.pendingEvent e = u.pendingEvent e := fun e => by
    rw [ht, pendingEvent_answered, setStage_pendingEvent, onDcc_pendingEvent]
  have hfields : t.dcc = { u.dcc with stage := .idle, faultCode := .none } ∧ t.zcu = { u.zcu with yielding := false }
      ∧ t.adm = u.adm ∧ t.acu = u.acu ∧ t.wgu = u.wgu ∧ t.peers = u.peers ∧ t.cfs = u.cfs
      ∧ t.cpt.response = { code := .ok, data := [] } := by
    rw [ht]
    simp [Stage.yields]
  obtain ⟨hdcc, hzcu, hadm, hacu, hwgu, hpeers, hcfs, hresponse⟩ := hfields
  obtain ⟨hfwgu, hfpeers, hfcfs⟩ := hframe
  rw [hevents, hevents, hdcc, hzcu, hadm, hacu, hwgu, hpeers, hcfs, h.dcc, h.zcu]
  exact ⟨hresponse, rfl, rfl, rfl, rfl, rfl, rfl, h.resv, h.full, h.actual, h.surface, h.log, h.reserved, h.done, h.stored,
    hfwgu, hfpeers, hfcfs⟩

/-- Settles O26: the checks in their order, then the end of the dip. -/
theorem recoverEndsTheFaultedDip : Obligations.RecoverEndsTheFaultedDip := by
  intro s tail args hopen honline
  refine ⟨fun hbad => ?_, fun hlen hforce hstage => ?_, fun hlen hforce hstage hnot => ?_, fun d hlen hstage hd hclear => ?_⟩
  · by_cases hlen : args.length = 1
    · rw [exec_recover hopen honline hlen, if_pos (hbad.resolve_left fun h => h hlen)]
    · show execRecover tail s = _
      rw [execRecover, takeFrame_of_open s hopen, listenReady_inMode, if_pos honline, withArgs_eq, if_neg hlen]
  · rw [exec_recover hopen honline hlen, if_neg (Nat.not_lt.mpr hforce), if_pos hstage]
  · have hkettle : ¬ s.clearOfKettle = true := fun h => by
      obtain ⟨hvalid, hsafe⟩ := (clearOfKettle_iff s).mp h
      rcases hnot with hn | hn
      · rw [hvalid] at hn
        cases hn
      · omega
    rw [exec_recover hopen honline hlen, if_neg (by omega), if_neg (by simp [hstage]), if_pos ⟨hforce, by simpa using hkettle⟩]
  · have hpass : ¬ (beNat args = 0 ∧ (!s.clearOfKettle) = true) := fun ⟨hzero, hkettle⟩ => by
      rcases hclear with hforce | ⟨-, hvalid, hsafe⟩
      · omega
      · rw [(clearOfKettle_iff s).mpr ⟨hvalid, hsafe⟩] at hkettle
        cases hkettle
    have hforce : ¬ 1 < beNat args := by
      rcases hclear with hforce | ⟨hforce, -⟩ <;> omega
    have h := finishDip_ended hd (by rw [hstage]; nofun) (by rw [hstage]; nofun)
    have hframe : (finishDip s).wgu = s.wgu ∧ (finishDip s).peers = s.peers ∧ (finishDip s).cfs = s.cfs := by simp
    have hexec : exec (.recover tail) s
        = .next (drivePins (respond .ok [] (setStage .idle ((finishDip s).onDcc fun d => { d with faultCode := .none })))) := by
      rw [exec_recover hopen honline hlen, if_neg hforce, if_neg (by simp [hstage]), if_neg hpass]
      rfl
    refine ⟨_, hexec, ?_⟩
    generalize finishDip s = u at h hframe
    exact recovered_of_ended h hframe rfl

/-! ### Aborts that end the dip or go to the drained weighing (R34, R40, R42) -/

/-- What RELEASE makes of the blocks: the hold over, the record stored, IDLE (R34, R36). -/
structure DipReleased (d : Dip) (s t : State) : Prop where
  dcc      : t.dcc = { s.dcc with stage := .idle, hold := none, active := none }
  zcu      : t.zcu = { claim := .none, mask := 0, conflict := false, yielding := false }
  resv     : t.adm.resv = .none
  full     : t.adm.full = 0
  actual   : t.adm.actual = 0
  cursor   : t.sgx.cursor = .none
  hand     : t.sgx.stage = none
  m0       : t.sgx.m0.high = false
  m1       : t.sgx.m1.high = false
  log      : t.acu.log = s.acu.log ++ [recordOf s { d with holdTime := holdTimeAfter s.dcc.hold d }]
  reserved : t.acu.reserved = false
  done     : t.pendingEvent .dipDone = true
  stored   : t.pendingEvent .recordStored = true

theorem releaseDip_released {d : Dip} (hd : s.dcc.active = some d) : DipReleased d s (releaseDip s) := by
  let w := setStage .release (endHold s)
  have hw : w.dcc = { s.dcc with
      stage := .release, hold := none
      active := s.dcc.active.map fun d => { d with holdTime := holdTimeAfter s.dcc.hold d } } := by
    simp only [w, setStage_dcc, endHold_dcc]
  have hwd : w.dcc.active = some { d with holdTime := holdTimeAfter s.dcc.hold d } := by rw [hw, hd]; rfl
  have hwst : w.dcc.stage = .release := by rw [hw]
  have h := finishDip_ended hwd (by rw [hwst]; nofun) (by rw [hwst]; nofun)
  have hrecord : recordOf w { d with holdTime := holdTimeAfter s.dcc.hold d }
      = recordOf s { d with holdTime := holdTimeAfter s.dcc.hold d } :=
    recordOf_congr (by simp [w]) (by simp [w]) (by simp [w]) (by simp [w]) (by rw [hw]) _
  have hacu : w.acu = s.acu := by simp [w]
  rw [releaseDip]
  generalize finishDip w = u at h
  have hrest : (setStage .idle u).adm = u.adm ∧ (setStage .idle u).acu = u.acu ∧ (setStage .idle u).sgx = u.sgx := by simp
  obtain ⟨hadm, hacu', hsgx⟩ := hrest
  exact
    { dcc := by rw [setStage_dcc, h.dcc, hw]
      zcu := by rw [setStage_idle_zcu, h.zcu]
      resv := by rw [hadm, h.resv]
      full := by rw [hadm, h.full]
      actual := by rw [hadm, h.actual]
      cursor := by rw [hsgx, h.cursor]
      hand := by rw [hsgx, h.hand]
      m0 := by rw [hsgx, h.m0]
      m1 := by rw [hsgx, h.m1]
      log := by rw [hacu', h.log, hacu, hrecord]
      reserved := by rw [hacu', h.reserved]
      done := by rw [setStage_pendingEvent, h.done]
      stored := by rw [setStage_pendingEvent, h.stored] }

/-- The response and the pins leave what RELEASE made (R186). -/
theorem DipReleased.answered {d : Dip} {u : State} (h : DipReleased d s u) (code : ResultCode) (data : List Byte) :
    DipReleased d s (drivePins (respond code data u)) :=
  ⟨h.dcc, h.zcu, h.resv, h.full, h.actual, h.cursor, h.hand, h.m0, h.m1, h.log, h.reserved, h.done, h.stored⟩

/-- The dip that an accepted abort leaves (R39). -/
def Dip.abortedIn (stage : Stage) (d : Dip) : Dip :=
  { d with abortPending := true, abortStage := some stage, flags := { d.flags with aborted := true } }

theorem markAbort_dcc (s : State) :
    (markAbort s).dcc = { s.dcc with active := s.dcc.active.map (Dip.abortedIn s.dcc.stage) } := rfl

/-- An abort in WEIGH_DRY or CLAIM goes to RELEASE, the weigh operation of WEIGH_DRY dropped (R40). -/
theorem routeAbort_early (h : s.dcc.stage = .weighDry ∨ s.dcc.stage = .claim) :
    ∃ u, routeAbort (markAbort s) = releaseDip u ∧ u.dcc = (markAbort s).dcc ∧ u.acu = s.acu ∧ u.cfs = s.cfs
      ∧ u.inv = s.inv ∧ u.sck = s.sck ∧ u.peers = s.peers ∧ u.wgu.window = s.wgu.window
      ∧ (s.dcc.stage = .weighDry → u.wgu.op = none) := by
  have hstage : (markAbort s).dcc.stage = s.dcc.stage := rfl
  rcases h with h | h
  · refine ⟨dropWeigh (markAbort s), ?_, rfl, rfl, rfl, rfl, rfl, rfl, rfl, fun _ => rfl⟩
    rw [routeAbort, hstage, h]
  · refine ⟨markAbort s, ?_, rfl, rfl, rfl, rfl, rfl, rfl, rfl, fun hw => by rw [h] at hw; cases hw⟩
    rw [routeAbort, hstage, h]

/-- Settles O25: RELEASE in WEIGH_DRY and CLAIM, the drained weighing in DRAIN. -/
theorem abortCutsTheDipShort : Obligations.AbortCutsTheDipShort := by
  refine ⟨fun s tail d hopen honline hd hpending hfaulted hstage => ?_, fun s tail d hopen honline hd hpending hstage => ?_⟩
  · obtain ⟨u, hroute, hdcc, hacu, hcfs, hinv, hsck, hpeers, hwindow, hop⟩ := routeAbort_early hstage
    have hud : u.dcc.active = some (d.abortedIn s.dcc.stage) := by rw [hdcc, markAbort_dcc, hd]; rfl
    have hhold : u.dcc.hold = s.dcc.hold := by rw [hdcc, markAbort_dcc]
    have hexec := exec_abortDip_accepted hopen honline hd hpending
      (by rcases hstage with h | h <;> rw [h] <;> nofun) (by rcases hstage with h | h <;> rw [h] <;> rfl)
    rw [hroute] at hexec
    have hframe : (releaseDip u).wgu = u.wgu ∧ (releaseDip u).peers = u.peers := by simp
    have h := releaseDip_released hud
    generalize releaseDip u = v at h hframe hexec
    obtain ⟨hwgu, hvpeers⟩ := hframe
    have h := h.answered .ok []
    refine ⟨_, _, hexec, rfl, (congrArg Dcc.stage h.dcc :), (congrArg Dcc.active h.dcc :), (congrArg Dcc.hold h.dcc :), ?_, h.zcu,
      h.resv, h.full, h.actual, h.cursor, h.hand, h.m0, h.m1, h.log.trans (by rw [hacu]), h.reserved, rfl, rfl,
      ?_, rfl, rfl, ?_, h.done, h.stored, fun hw => ?_, ?_, ?_⟩
    · exact (congrArg Dcc.queue h.dcc :).trans (by rw [hdcc, markAbort_dcc])
    · exact endStage_of_aborted (d := { d.abortedIn s.dcc.stage with holdTime := _ }) hfaulted rfl rfl
    · show holdTimeAfter u.dcc.hold _ = _
      rw [hhold]
      cases s.dcc.hold <;> rfl
    · exact (congrArg Wgu.op hwgu :).trans (hop hw)
    · exact (congrArg Wgu.window hwgu :).trans hwindow
    · exact hvpeers.trans hpeers
  · let u := (dropSegment (markAbort s)).onSgx fun x => { x with stage := none }
    have hroute : routeAbort (markAbort s) = enterWeighDrained u := by
      have h : (markAbort s).dcc.stage = .drain := hstage
      rw [routeAbort, h]
    have hexec := exec_abortDip_accepted hopen honline hd hpending (by rw [hstage]; nofun) (by rw [hstage]; rfl)
    rw [hroute] at hexec
    have hwgu : (enterWeighDrained u).wgu = _ :=
      weighRequest_wgu_of (s := s) (t := setStage .weighDrained u) (by simp [u, dropSegment, markAbort]) (by simp [u, dropSegment, markAbort])
    have hdcc : (enterWeighDrained u).dcc = { (markAbort s).dcc with stage := .weighDrained } := setStage_dcc _ _
    have hrest : (enterWeighDrained u).sgx = u.sgx ∧ (enterWeighDrained u).adm = s.adm ∧ (enterWeighDrained u).inv = s.inv
        ∧ (enterWeighDrained u).acu = s.acu ∧ (enterWeighDrained u).peers = s.peers ∧ (enterWeighDrained u).zcu.claim = s.zcu.claim := by
      simp [u, enterWeighDrained, dropSegment, markAbort]
    obtain ⟨hsgx, hadm, hinv, hacu, hpeers, hclaim⟩ := hrest
    refine ⟨_, hexec, rfl, (congrArg Dcc.stage hdcc :), (congrArg Sgx.current hsgx :), (congrArg Sgx.cursor hsgx :),
      speedCommand_of_stage (by exact (congrArg (·.stage.moves) hdcc :)), hwgu, ?_, hclaim, hadm, hinv, hacu, hpeers⟩
    exact (congrArg Dcc.active hdcc :).trans (by rw [markAbort_dcc, hd, ← hstage]; rfl)

end Sys2Proof.Machine
end

section
/-! PROOF. The next segment (O35): what the walk of the Segment Executor does from the end of a segment and past the segments of
earlier phases, each by the step that its cursor asks for. -/

namespace Sys2Proof.Machine

variable {s t : State}

/-! ### What the start of a segment leaves and sets (R53, R62) -/

theorem startLeg_kept (r : Running) (u : State) :
    (startLeg r u).sgx.cursor = u.sgx.cursor ∧ (startLeg r u).sgx.m0 = u.sgx.m0 ∧ (startLeg r u).sgx.m1 = u.sgx.m1
      ∧ (startLeg r u).sgx.returnIndex = u.sgx.returnIndex := by
  unfold startLeg
  split <;> exact ⟨rfl, rfl, rfl, rfl⟩

/-- The work of a segment leaves the cursor, the markers and the return index (R53). -/
theorem startWork_kept (w : Work) (u : State) :
    (startWork w u).sgx.cursor = u.sgx.cursor ∧ (startWork w u).sgx.m0 = u.sgx.m0 ∧ (startWork w u).sgx.m1 = u.sgx.m1
      ∧ (startWork w u).sgx.returnIndex = u.sgx.returnIndex := by
  cases w with
  | move r target speed =>
    unfold startWork startMove
    dsimp only
    split
    · simp [dropSegment]
    · simp [startLeg_kept]
  | shake r target speed amplitude count =>
    unfold startWork startShake
    dsimp only
    split
    · split
      · simp [dropSegment]
      · simp [startLeg_kept]
    · simp [startLeg_kept]
  | dwell time =>
    unfold startWork startDwell
    dsimp only
    split <;> exact ⟨rfl, rfl, rfl, rfl⟩
  | waitInput input edge time =>
    cases input <;> exact ⟨rfl, rfl, rfl, rfl⟩
  | call k => exact ⟨rfl, rfl, rfl, rfl⟩

theorem startSegment_cursor (g : Segment) (s : State) : (startSegment g s).sgx.cursor = Cursor.ofNext g.next :=
  (startWork_kept _ _).1

theorem startSegment_m0 (g : Segment) (s : State) : (startSegment g s).sgx.m0 = s.sgx.m0.act g.m0 := (startWork_kept _ _).2.1

theorem startSegment_m1 (g : Segment) (s : State) : (startSegment g s).sgx.m1 = s.sgx.m1.act g.m1 := (startWork_kept _ _).2.2.1

theorem startSegment_returnIndex (g : Segment) (s : State) : (startSegment g s).sgx.returnIndex = s.sgx.returnIndex :=
  (startWork_kept _ _).2.2.2

/-! ### The walk (R52 to R55) -/

theorem find_start {p : Phase} {i : Nat} {seg : Segment} (hh : s.sgx.stage = some p) (hc : s.sgx.cursor = .seg i)
    (hs : segmentAt s.settings i = some seg) (hp : seg.phase = p) : s.find = .start seg := by
  rw [find_of_seg hh hc hs, hp, if_neg (lt_irrefl _), if_neg (lt_irrefl _)]

theorem find_back {p : Phase} {next : Option Nat} (hh : s.sgx.stage = some p) (hc : s.sgx.cursor = .chainEnd)
    (hr : s.sgx.returnIndex = some next) : s.find = .back next := by
  simp only [State.find, hh, hc, hr]

/-- A walk that comes to a segment which then runs ends there (R53). -/
theorem sgxRun_running {seg : Segment} (n : Nat) (h : s.find = .start seg)
    (hy : ¬ (s.dcc.stage = .approach ∧ s.zcu.yielding = true)) (hw : ∀ k, seg.work ≠ .call k)
    (hr : (startSegment seg s).sgx.current.isSome = true) : sgxRun (n + 1) s = startSegment seg s := by
  rw [sgxRun_start n h hy hw, if_neg]
  cases hc : (startSegment seg s).sgx.current <;> simp [hc] at hr ⊢

/-- A segment of the pool that an abort passes over on its way to another (R63). -/
def PassedTo (c : Settings) (q : Phase) (i : Nat) (next : Option Nat) : Prop :=
  ∃ seg, segmentAt c i = some seg ∧ phaseOrder seg.phase < phaseOrder q ∧ seg.next = next

/-- The walk passes over a segment of an earlier phase (R52, R63). -/
theorem sgxRun_passed {q : Phase} {i : Nat} {next : Option Nat} (n : Nat) (hh : s.sgx.stage = some q)
    (hc : s.sgx.cursor = .seg i) (hpass : PassedTo s.settings q i next) :
    sgxRun (n + 1) s = sgxRun n (s.onSgx fun x => { x with cursor := Cursor.ofNext next }) := by
  obtain ⟨seg, hs, hlt, hnext⟩ := hpass
  rw [sgxRun_pass n (by rw [find_of_seg hh hc hs, if_pos hlt]), hnext]

/-- The walk passes over a path of segments of earlier phases, a step each (R52, R63). -/
theorem sgxRun_path {q : Phase} (path : Nat → Nat) (n fuel : Nat) (hh : s.sgx.stage = some q)
    (hc : s.sgx.cursor = .seg (path 0)) (hpath : ∀ m < n, PassedTo s.settings q (path m) (some (path (m + 1)))) :
    sgxRun (fuel + n) s = sgxRun fuel (s.onSgx fun x => { x with cursor := .seg (path n) }) := by
  induction n generalizing fuel with
  | zero =>
    rw [← hc]
    rfl
  | succ n ih =>
    have hlast := hpath n (Nat.lt_succ_self n)
    rw [show fuel + (n + 1) = (fuel + 1) + n by omega, ih (fuel + 1) fun m hm => hpath m (Nat.lt_succ_of_lt hm),
      sgxRun_passed (s := s.onSgx fun x => { x with cursor := .seg (path n) }) fuel hh rfl hlast]
    rfl

/-- A walk along a path of earlier phases starts the segment at its end (R52, R53, R63). -/
theorem sgxRun_path_start {q : Phase} {seg : Segment} (path : Nat → Nat) (n fuel : Nat) (hh : s.sgx.stage = some q)
    (hc : s.sgx.cursor = .seg (path 0)) (hpath : ∀ m < n, PassedTo s.settings q (path m) (some (path (m + 1))))
    (hs : segmentAt s.settings (path n) = some seg) (hp : seg.phase = q)
    (hy : ¬ (s.dcc.stage = .approach ∧ s.zcu.yielding = true)) (hw : ∀ k, seg.work ≠ .call k)
    (hr : (startSegment seg s).sgx.current.isSome = true) : sgxRun (fuel + 1 + n) s = startSegment seg s := by
  rw [sgxRun_path path n (fuel + 1) hh hc hpath]
  exact sgxRun_running (s := s.onSgx fun x => { x with cursor := .seg (path n) }) fuel (find_start hh rfl hs hp) hy hw hr

/-- A walk from the end of a called chain goes on at the saved index, which it clears, and along a path from there (R55, R63). -/
theorem sgxRun_chainEnd_start {q : Phase} {seg : Segment} (back : Nat → Nat) (k fuel : Nat) (hh : s.sgx.stage = some q)
    (hc : s.sgx.cursor = .chainEnd) (hret : s.sgx.returnIndex = some (some (back 0)))
    (hback : ∀ m < k, PassedTo s.settings q (back m) (some (back (m + 1))))
    (hs : segmentAt s.settings (back k) = some seg) (hp : seg.phase = q)
    (hy : ¬ (s.dcc.stage = .approach ∧ s.zcu.yielding = true)) (hw : ∀ j, seg.work ≠ .call j)
    (hr : (startSegment seg (s.onSgx fun x => { x with returnIndex := none })).sgx.current.isSome = true) :
    sgxRun (fuel + 1 + k + 1) s = startSegment seg (s.onSgx fun x => { x with returnIndex := none }) := by
  rw [sgxRun_back _ (find_back hh hc hret)]
  exact sgxRun_path_start (s := s.onSgx fun x => { x with cursor := .seg (back 0), returnIndex := none }) back k fuel hh rfl hback
    hs hp hy hw hr

/-! ### The hand-over of a stage -/

theorem setStage_onSgx (st : Stage) (f : Sgx → Sgx) (u : State) : setStage st (u.onSgx f) = (setStage st u).onSgx f := by
  unfold setStage raiseState
  split
  · rename_i h
    exact (if_pos h).symm ▸ rfl
  · rename_i h
    exact (if_neg h).symm ▸ rfl

/-- The return index is left to the stages of the rest of the recipe (R51). -/
theorem handStage_returnIndex {q : Phase} (hq : q ≠ .approach) (r : Option (Option Nat)) (u : State) :
    handStage q (u.onSgx fun x => { x with returnIndex := r }) = (handStage q u).onSgx fun x => { x with returnIndex := r } := by
  rw [handStage_of_ne hq, handStage_of_ne hq, setStage_onSgx]
  rfl

theorem not_yielding_of_stage (h : s.dcc.stage ≠ .approach ∨ s.zcu.yielding = false) :
    ¬ (s.dcc.stage = .approach ∧ s.zcu.yielding = true) := fun ⟨hst, hy⟩ =>
  h.elim (fun hn => hn hst) fun hn => by rw [hn] at hy; cases hy

/-- What the hand-over of a stage leaves of the walk's course. -/
theorem handStage_walk {q : Phase} (hq : q ≠ .approach) (u : State) :
    (handStage q u).sgx = { u.sgx with stage := some q } ∧ (handStage q u).cfs = u.cfs
      ∧ ¬ ((handStage q u).dcc.stage = .approach ∧ (handStage q u).zcu.yielding = true) := by
  refine ⟨?_, by simp, not_yielding_of_stage (.inl ?_)⟩
  · rw [handStage_of_ne hq]
    simp
  · rw [(handStage_inPhase hq u).stage]
    exact phaseStage_ne_approach hq

theorem withdraw_depart_ne {q : Phase} (hq : q = .withdraw ∨ q = .depart) : q ≠ .approach := by
  rcases hq with rfl | rfl <;> nofun

/-- The phase that follows another at once comes later in the recipe (R26, R31). -/
theorem phaseFollowing_iff (p q : Phase) :
    phaseFollowing p = some q ↔ (p = .immerse ∧ q = .soak) ∨ (p = .soak ∧ q = .withdraw) := by
  cases p <;> cases q <;> decide

theorem phaseOrder_following {p q : Phase} (h : phaseFollowing p = some q) : phaseOrder p < phaseOrder q ∧ q ≠ .approach := by
  rcases (phaseFollowing_iff p q).mp h with ⟨rfl, rfl⟩ | ⟨rfl, rfl⟩ <;> exact ⟨by decide, nofun⟩

/-! ### From the end of a segment (R51 to R55) -/

theorem endSegment_start {p : Phase} {i : Nat} {seg : Segment} (hh : s.sgx.stage = some p) (hc : s.sgx.cursor = .seg i)
    (hs : segmentAt s.settings i = some seg) (hp : seg.phase = p)
    (hy : s.dcc.stage ≠ .approach ∨ s.zcu.yielding = false) (hw : ∀ k, seg.work ≠ .call k)
    (hr : (startSegment seg (dropSegment s)).sgx.current.isSome = true) :
    endSegment s = startSegment seg (dropSegment s) :=
  sgxRun_running (s := dropSegment s) 9999 (find_start hh hc hs hp) (not_yielding_of_stage hy) hw hr

theorem endSegment_call {p : Phase} {i k : Nat} {seg called : Segment} (hh : s.sgx.stage = some p) (hc : s.sgx.cursor = .seg i)
    (hs : segmentAt s.settings i = some seg) (hp : seg.phase = p)
    (hy : s.dcc.stage ≠ .approach ∨ s.zcu.yielding = false) (hw : seg.work = .call k)
    (hk : segmentAt s.settings k = some called) (hkp : called.phase = p) (hkw : ∀ k', called.work ≠ .call k')
    (hr : (startSegment called (takeCall seg k (dropSegment s))).sgx.current.isSome = true) :
    endSegment s = startSegment called (takeCall seg k (dropSegment s)) :=
  (sgxRun_call (s := dropSegment s) 9999 (find_start hh hc hs hp) (not_yielding_of_stage hy) hw).trans
    (sgxRun_running (s := takeCall seg k (dropSegment s)) 9998 (find_start hh rfl hk hkp) (not_yielding_of_stage hy) hkw hr)

theorem endSegment_chainEnd {p : Phase} {i : Nat} {seg : Segment} (hh : s.sgx.stage = some p) (hc : s.sgx.cursor = .chainEnd)
    (hret : s.sgx.returnIndex = some (some i)) (hs : segmentAt s.settings i = some seg) (hp : seg.phase = p)
    (hy : s.dcc.stage ≠ .approach ∨ s.zcu.yielding = false) (hw : ∀ k, seg.work ≠ .call k)
    (hr : (startSegment seg (dropSegment (s.onSgx fun x => { x with returnIndex := none }))).sgx.current.isSome = true) :
    endSegment s = startSegment seg (dropSegment (s.onSgx fun x => { x with returnIndex := none })) :=
  sgxRun_chainEnd_start (s := dropSegment s) (fun _ => i) 0 9998 hh hc hret nofun hs hp (not_yielding_of_stage hy) hw hr

/-- A segment that ends in the step in which it starts is followed by the next one (R54). -/
theorem endSegment_atOnce {p : Phase} {i j : Nat} {seg after_ : Segment} (hh : s.sgx.stage = some p)
    (hc : s.sgx.cursor = .seg i) (hs : segmentAt s.settings i = some seg) (hp : seg.phase = p)
    (hy : s.dcc.stage ≠ .approach ∨ s.zcu.yielding = false) (hw : ∀ k, seg.work ≠ .call k) (hnext : seg.next = some j)
    (hnone : (startSegment seg (dropSegment s)).sgx.current = none) (hj : segmentAt s.settings j = some after_)
    (hjp : after_.phase = p) (hjw : ∀ k, after_.work ≠ .call k)
    (hr : (startSegment after_ (startSegment seg (dropSegment s))).sgx.current.isSome = true) :
    endSegment s = startSegment after_ (startSegment seg (dropSegment s)) := by
  let u := startSegment seg (dropSegment s)
  have hrun : endSegment s = sgxRun 9999 u := by
    refine (sgxRun_start (s := dropSegment s) 9999 (find_start hh hc hs hp) (not_yielding_of_stage hy) hw).trans ?_
    rw [hnone]
    exact if_pos rfl
  have hframe : u.cfs = s.cfs ∧ u.dcc.stage = s.dcc.stage ∧ u.zcu = s.zcu := by simp [u]
  obtain ⟨hcfs, hstage, hzcu⟩ := hframe
  have hcursor : u.sgx.cursor = .seg j := (startSegment_cursor seg _).trans (by rw [hnext]; rfl)
  have hfind : u.find = .start after_ :=
    find_start ((startSegment_hand _ seg).trans hh) hcursor (by rw [State.settings, hcfs]; exact hj) hjp
  exact hrun.trans (sgxRun_running 9998 hfind (not_yielding_of_stage (by rw [hstage, hzcu]; exact hy)) hjw hr)

/-- At the end of IMMERSE the first segment of SOAK, at the end of SOAK that of WITHDRAW (R31). -/
theorem endSegment_following {p q : Phase} {i : Nat} {seg : Segment} (hq : phaseFollowing p = some q)
    (hh : s.sgx.stage = some p) (hc : s.sgx.cursor = .seg i) (hs : segmentAt s.settings i = some seg) (hp : seg.phase = q)
    (hw : ∀ k, seg.work ≠ .call k) (hr : (startSegment seg (handStage q (dropSegment s))).sgx.current.isSome = true) :
    endSegment s = startSegment seg (handStage q (dropSegment s)) := by
  obtain ⟨hlt, hne⟩ := phaseOrder_following hq
  have hdone : (dropSegment s).find = .done p := by
    rw [find_of_seg (s := dropSegment s) hh hc hs, hp, if_neg (Nat.lt_asymm hlt), if_pos hlt]
  obtain ⟨hsgx, hcfs, hy⟩ := handStage_walk hne (dropSegment s)
  have hfind : (handStage q (dropSegment s)).find = .start seg :=
    find_start (by rw [hsgx]) (by rw [hsgx]; exact hc) (by rw [State.settings, hcfs]; exact hs) hp
  exact (sgxRun_done_next 9999 hdone hq).trans (sgxRun_running 9998 hfind hy hw hr)

/-! ### Past the segments of earlier phases (R63) -/

theorem enterMotion_path {q : Phase} {seg : Segment} (path : Nat → Nat) (n : Nat) (hn : n ≤ 96) (hq : q ≠ .approach)
    (hc : s.sgx.cursor = .seg (path 0)) (hpath : ∀ m < n, PassedTo s.settings q (path m) (some (path (m + 1))))
    (hs : segmentAt s.settings (path n) = some seg) (hp : seg.phase = q) (hw : ∀ k, seg.work ≠ .call k)
    (hr : (startSegment seg (handStage q s)).sgx.current.isSome = true) :
    enterMotion q s = startSegment seg (handStage q s) := by
  obtain ⟨hsgx, hcfs, hy⟩ := handStage_walk hq s
  have hset : (handStage q s).settings = s.settings := by rw [State.settings, hcfs]; rfl
  obtain ⟨fuel, hfuel⟩ : ∃ fuel, sgxFuel = fuel + 1 + n := ⟨9999 - n, by unfold sgxFuel; omega⟩
  rw [enterMotion, sgxGo, hfuel]
  exact sgxRun_path_start path n fuel (by rw [hsgx]) (by rw [hsgx]; exact hc) (by rw [hset]; exact hpath) (by rw [hset]; exact hs)
    hp hy hw hr

theorem enterMotion_chainEnd {q : Phase} {seg : Segment} (path back : Nat → Nat) (n k : Nat) (hn : n ≤ 96) (hk : k ≤ 96)
    (hq : q ≠ .approach)
    (hc : s.sgx.cursor = .chainEnd ∨ (s.sgx.cursor = .seg (path 0)
      ∧ (∀ m < n, PassedTo s.settings q (path m) (some (path (m + 1)))) ∧ PassedTo s.settings q (path n) none))
    (hret : s.sgx.returnIndex = some (some (back 0)))
    (hback : ∀ m < k, PassedTo s.settings q (back m) (some (back (m + 1))))
    (hs : segmentAt s.settings (back k) = some seg) (hp : seg.phase = q) (hw : ∀ j, seg.work ≠ .call j)
    (hr : (startSegment seg (handStage q (s.onSgx fun x => { x with returnIndex := none }))).sgx.current.isSome = true) :
    enterMotion q s = startSegment seg (handStage q (s.onSgx fun x => { x with returnIndex := none })) := by
  obtain ⟨hsgx, hcfs, hy⟩ := handStage_walk hq s
  have hset : (handStage q s).settings = s.settings := by rw [State.settings, hcfs]; rfl
  rw [handStage_returnIndex hq] at hr ⊢
  rw [← hset] at hc hback hs
  rw [enterMotion, sgxGo]
  generalize handStage q s = u at *
  have hh : u.sgx.stage = some q := by rw [hsgx]
  have huret : u.sgx.returnIndex = some (some (back 0)) := by rw [hsgx]; exact hret
  rcases hc with hend | ⟨hcur, hpath, hlast⟩
  · obtain ⟨fuel, hfuel⟩ : ∃ fuel, sgxFuel = fuel + 1 + k + 1 := ⟨9998 - k, by unfold sgxFuel; omega⟩
    rw [hfuel]
    exact sgxRun_chainEnd_start back k fuel hh (by rw [hsgx]; exact hend) huret hback hs hp hy hw hr
  · obtain ⟨fuel, hfuel⟩ : ∃ fuel, sgxFuel = fuel + 1 + k + 1 + 1 + n := ⟨9997 - k - n, by unfold sgxFuel; omega⟩
    rw [hfuel, sgxRun_path path n _ hh (by rw [hsgx]; exact hcur) hpath,
      sgxRun_passed (s := u.onSgx fun x => { x with cursor := .seg (path n) }) _ hh rfl hlast]
    exact sgxRun_chainEnd_start (s := u.onSgx fun x => { x with cursor := .chainEnd }) back k fuel hh rfl huret hback hs hp hy hw hr

/-- Settles O35: each way from the end of a segment, by the steps of the walk it takes. -/
theorem nextSegmentStartsAtOnce : Obligations.NextSegmentStartsAtOnce := by
  intro s p i seg hh hs
  refine ⟨fun hy => ⟨fun hw hc hp hr => endSegment_start hh hc hs hp hy hw hr,
      fun k called hw hc hp hk hkp hkw hr => ⟨endSegment_call hh hc hs hp hy hw hk hkp hkw hr, rfl⟩,
      fun hw hc hret hp hr => endSegment_chainEnd hh hc hret hs hp hy hw hr,
      fun j after_ hw hc hp hnext hnone hj hjp hjw hr => endSegment_atOnce hh hc hs hp hy hw hnext hnone hj hjp hjw hr⟩,
    fun q hq hc hp hw hr => ?_, fun q path n hq hn hc hpath hbefore hp hw hr => ?_,
    fun q path back n k hq hn hk hc hret hend hback hp hw hr => ?_, fun hst hyield hc hp => ?_⟩
  · have hfollow := (phaseFollowing_iff p q).mpr hq
    have h := endSegment_following hfollow hh hc hs hp hw hr
    have hne := (phaseOrder_following hfollow).2
    refine ⟨h, ?_, ?_⟩
    · rw [h, ← (handStage_inPhase hne (dropSegment s)).stage]
      simp
    · rw [h, startSegment_hand, (handStage_walk hne _).1]
  · subst hpath
    have hne := withdraw_depart_ne hq
    have h := enterMotion_path path n hn hne hc hbefore hs hp hw hr
    rw [h, startSegment_m0, startSegment_m1, (handStage_walk hne _).1]
    exact ⟨rfl, rfl, rfl⟩
  · subst hend
    have hne := withdraw_depart_ne hq
    have h := enterMotion_chainEnd path back n k hn hk hne hc hret hback hs hp hw hr
    refine ⟨h, ?_, ?_, ?_⟩
    · rw [h, startSegment_returnIndex, (handStage_walk hne _).1]
      rfl
    · rw [h, startSegment_m0, (handStage_walk hne _).1]
      rfl
    · rw [h, startSegment_m1, (handStage_walk hne _).1]
      rfl
  · exact sgxRun_yield (s := dropSegment s) 9999 (find_start hh hc hs hp) ⟨hst, hyield⟩

end Sys2Proof.Machine
end

section
/-! PROOF. The hook-height update (O31, O32, O33): what the immersion start, the ADM's figures and the surface-clear test make of
the blocks, once, and the leg's own test on top of them in either order of the blocks (log 5). -/

namespace Sys2Proof.Machine

variable {s t : State}

/-! ### The immersion start (R33) -/

/-- A dip at a hook-height update in a stage: the immersion start is recorded in IMMERSE (R33). -/
def Dip.immersedAt (stage : Stage) (without hook : Nat) (now : Word) (d : Dip) : Dip :=
  { d with
    immersionStart :=
      if stage = .immerse ∧ d.immersionStart = none ∧ belowSurface without hook d.job.hang = true then some now
      else d.immersionStart }

theorem onDip_of_none (hd : s.dcc.active = none) (f : Dip → Dip) : s.onDip f = s := by
  rw [onDip_eq, State.onDcc, hd, Option.map_none, ← hd]

theorem testImmersion_eq (s : State) :
    testImmersion s = s.onDip (Dip.immersedAt s.dcc.stage s.adm.without s.hif.hook s.sck) := by
  unfold testImmersion
  by_cases h : s.dcc.stage = .immerse
  · rw [if_pos h, h]
    exact congrArg s.onDip (funext fun d => by simp [Dip.immersedAt])
  · have hmap : Dip.immersedAt s.dcc.stage s.adm.without s.hif.hook s.sck = id := funext fun d => by
      rw [Dip.immersedAt, if_neg fun hn => h hn.1]
      rfl
    rw [if_neg h, hmap, onDip_eq, State.onDcc, Option.map_id]
    rfl

/-! ### The ADM's figures and surface clear (R15, R181, R182) -/

/-- The own figures follow the hook only (R181). -/
theorem refreshActual_kept (s : State) :
    (refreshActual s).adm.resv = s.adm.resv ∧ (refreshActual s).adm.without = s.adm.without
      ∧ (refreshActual s).adm.full = s.adm.full := by
  unfold refreshActual
  split
  · exact ⟨rfl, rfl, rfl⟩
  · split <;> exact ⟨rfl, rfl, rfl⟩

/-- The update shows surface clear of the admitted load of a dip (R15, R182). -/
def SeesClear (d : Dip) (s : State) : Prop :=
  s.adm.resv = .admitted ∧ s.dcc.stage.testsClear = true
    ∧ surfaceClear s.adm.without s.hif.hook d.job.hang s.settings.exitClearance = true

theorem seesClear_refreshActual {d : Dip} : SeesClear d (refreshActual s) ↔ SeesClear d s := by
  obtain ⟨hresv, hwithout, -⟩ := refreshActual_kept s
  simp [SeesClear, hresv, hwithout, State.settings]

theorem testsClear_ne_admitting {st : Stage} (h : st.testsClear = true) : st ≠ .admitting := by
  rintro rfl
  cases h

/-- Outside ADMIT a change of the reservation leaves the dip (R173). -/
theorem setResv_dcc (r : ResvState) (h : s.dcc.stage ≠ .admitting) : (setResv r s).dcc = s.dcc := by
  unfold setResv reportResv
  rw [if_neg (by simpa using h)]
  simp

/-- A dip whose load is seen clear of the surface, from the first time on (R33, R182). -/
def Dip.clearedAt (now : Word) (d : Dip) : Dip := { d with immersionEnd := some (d.immersionEnd.getD now) }

theorem testClear_of_clear {d : Dip} (hd : s.dcc.active = some d) (h : SeesClear d s) :
    (testClear s).dcc = { s.dcc with active := some (d.clearedAt s.sck) } ∧ (testClear s).adm = { s.adm with resv := .none } := by
  obtain ⟨hresv, hstage, hclear⟩ := h
  have hdcc := setResv_dcc (s := s) .none (testsClear_ne_admitting hstage)
  unfold testClear
  rw [if_pos ⟨hresv, hstage, by rw [State.clearNow, hd]; exact hclear⟩]
  constructor
  · rw [onDip_eq]
    simp only [onDcc_fields, hdcc, hd, Option.map_some]
    simp [Dip.clearedAt]
  · simp

theorem testClear_of_unclear {d : Dip} (hd : s.dcc.active = some d) (h : ¬ SeesClear d s) : testClear s = s := by
  unfold testClear
  refine if_neg fun ⟨hresv, hstage, hclear⟩ => h ⟨hresv, hstage, ?_⟩
  rw [State.clearNow, hd] at hclear
  exact hclear

theorem admHookUpdate_of_clear {d : Dip} (hd : s.dcc.active = some d) (h : SeesClear d s) :
    (admHookUpdate s).dcc = { s.dcc with active := some (d.clearedAt s.sck) } ∧ (admHookUpdate s).adm.resv = .none := by
  obtain ⟨hdcc, hadm⟩ := testClear_of_clear (s := refreshActual s) (by simpa using hd) (seesClear_refreshActual.mpr h)
  refine ⟨?_, (congrArg Adm.resv hadm :)⟩
  rw [admHookUpdate, hdcc]
  simp

theorem admHookUpdate_of_unclear {d : Dip} (hd : s.dcc.active = some d) (h : ¬ SeesClear d s) :
    admHookUpdate s = refreshActual s :=
  testClear_of_unclear (by simpa using hd) (mt seesClear_refreshActual.mp h)

/-- Without a dip the ADM has no load to follow (R181). -/
theorem admHookUpdate_of_none (hd : s.dcc.active = none) : admHookUpdate s = s := by
  have hrefresh : refreshActual s = s := by
    unfold refreshActual
    rw [hd]
  have hclear : s.clearNow = false := by rw [State.clearNow, hd]
  rw [admHookUpdate, hrefresh, testClear, hclear]
  exact if_neg fun h => Bool.noConfusion h.2.2

/-- The figures of the ADM after the update: surface clear changes the reservation only (R181, R182). -/
theorem admHookUpdate_figures_kept (s : State) :
    (admHookUpdate s).adm.actual = (refreshActual s).adm.actual ∧ (admHookUpdate s).adm.surface = (refreshActual s).adm.surface
      ∧ (admHookUpdate s).adm.without = s.adm.without ∧ (admHookUpdate s).adm.full = s.adm.full := by
  obtain ⟨-, hwithout, hfull⟩ := refreshActual_kept s
  have hclear : (testClear (refreshActual s)).adm = { (refreshActual s).adm with resv := (testClear (refreshActual s)).adm.resv } := by
    unfold testClear
    split <;> simp
  rw [admHookUpdate, hclear]
  exact ⟨rfl, rfl, hwithout, hfull⟩

theorem refreshActual_of_steel {d : Dip} (hd : s.dcc.active = some d) (h : d.steel.isSome = true) :
    (refreshActual s).adm.actual
        = ownDisplacement s.adm.full (immersedDepth s.adm.without s.hif.hook d.job.hang d.job.height) d.job.height
      ∧ (refreshActual s).adm.surface = surfaceEstimate s.adm.without (refreshActual s).adm.actual := by
  simp only [refreshActual, hd, h, if_true]
  exact ⟨rfl, rfl⟩

theorem refreshActual_of_no_steel {d : Dip} (hd : s.dcc.active = some d) (h : d.steel = none) : refreshActual s = s := by
  simp [refreshActual, hd, h]

/-! ### The update at the load (R33, R74, R181, R182) -/

/-- A state at a hook height just read, the free value of the blocks' order taken (R73, log 5). -/
def State.atHook (n : Nat) (s : State) : State := (takeHeight n s).nextFree

theorem exec_encoderRead_good {height : BitVec 16} {parity : Bool} (h : goodRead false height parity = true) :
    exec (.encoderRead false height parity) s
      = .next (drivePins (hookUpdateWith (Config.blockOrder s.freeCount) (s.atHook height.toNat))) := by
  show execEncoderRead false height parity s = _
  rw [execEncoderRead, h, if_pos rfl]
  rfl

/-- The dip and the reservation after a hook-height update, from the dip before it (R33, R182). -/
structure LoadFollows (n : Nat) (d e : Dip) (s t : State) : Prop where
  job     : e.job = d.job
  flags   : e.flags = d.flags
  start   : e.immersionStart = if s.dcc.stage = .immerse ∧ d.immersionStart = none
    ∧ belowSurface s.adm.without n d.job.hang = true then some s.sck else d.immersionStart
  clear   : s.adm.resv = .admitted → s.dcc.stage.testsClear = true →
    surfaceClear s.adm.without n d.job.hang s.settings.exitClearance = true →
    t.adm.resv = .none ∧ e.immersionEnd = some (d.immersionEnd.getD s.sck)
  unclear : s.adm.resv ≠ .admitted ∨ s.dcc.stage.testsClear = false
    ∨ surfaceClear s.adm.without n d.job.hang s.settings.exitClearance = false →
    t.adm.resv = s.adm.resv ∧ e.immersionEnd = d.immersionEnd

/-- The state after the ADM's part of the update, with no leg of its own (R74). -/
def State.loadMoved (n : Nat) (s : State) : State := admHookUpdate (testImmersion (s.atHook n))

/-- What the update leaves wherever the leg stands. -/
theorem loadMoved_frame (n : Nat) (s : State) :
    (s.loadMoved n).sgx = s.sgx ∧ (s.loadMoved n).hif = { s.hif with hook := n, hookValid := true, readFailures := 0 }
      ∧ (s.loadMoved n).dcc.stage = s.dcc.stage ∧ (s.loadMoved n).dcc.queue = s.dcc.queue ∧ (s.loadMoved n).zcu = s.zcu
      ∧ (s.loadMoved n).inv = s.inv ∧ (s.loadMoved n).acu = s.acu ∧ (s.loadMoved n).wgu = s.wgu
      ∧ (s.loadMoved n).peers = s.peers ∧ (s.loadMoved n).sck = s.sck ∧ (s.loadMoved n).cfs = s.cfs
      ∧ (s.loadMoved n).adm.without = s.adm.without ∧ (s.loadMoved n).adm.full = s.adm.full := by
  obtain ⟨-, -, hwithout, hfull⟩ := admHookUpdate_figures_kept (testImmersion (s.atHook n))
  rw [State.loadMoved, hwithout, hfull, testImmersion_eq]
  simp [State.atHook, takeHeight]

theorem testImmersion_active {d : Dip} (n : Nat) (hd : s.dcc.active = some d) :
    (testImmersion (s.atHook n)).dcc.active = some (d.immersedAt s.dcc.stage s.adm.without n s.sck) := by
  rw [testImmersion_eq]
  exact congrArg (Option.map _) hd

theorem seesClear_testImmersion (d : Dip) (n : Nat) (s : State) :
    SeesClear (d.immersedAt s.dcc.stage s.adm.without n s.sck) (testImmersion (s.atHook n))
      ↔ s.adm.resv = .admitted ∧ s.dcc.stage.testsClear = true
        ∧ surfaceClear s.adm.without n d.job.hang s.settings.exitClearance = true := by
  rw [testImmersion_eq]
  rfl

theorem loadMoved_follows {d : Dip} (n : Nat) (hd : s.dcc.active = some d) :
    ∃ e, (s.loadMoved n).dcc.active = some e ∧ LoadFollows n d e s (s.loadMoved n) := by
  have hactive := testImmersion_active n hd
  have hsees := seesClear_testImmersion d n s
  have hsck : (testImmersion (s.atHook n)).sck = s.sck := by rw [testImmersion_eq]; rfl
  have hresv : (testImmersion (s.atHook n)).adm.resv = s.adm.resv := by rw [testImmersion_eq]; rfl
  by_cases h : SeesClear (d.immersedAt s.dcc.stage s.adm.without n s.sck) (testImmersion (s.atHook n))
  · obtain ⟨hdcc, hnone⟩ := admHookUpdate_of_clear hactive h
    rw [hsck] at hdcc
    obtain ⟨ha, hst, hcl⟩ := hsees.mp h
    refine ⟨_, (congrArg Dcc.active hdcc :), rfl, rfl, rfl, fun _ _ _ => ⟨hnone, rfl⟩, fun hn => ?_⟩
    rcases hn with hn | hn | hn
    · exact absurd ha hn
    · rw [hst] at hn
      cases hn
    · rw [hcl] at hn
      cases hn
  · have hmoved : s.loadMoved n = refreshActual (testImmersion (s.atHook n)) := admHookUpdate_of_unclear hactive h
    refine ⟨d.immersedAt s.dcc.stage s.adm.without n s.sck, ?_, rfl, rfl, rfl, fun ha hst hcl => absurd (hsees.mpr ⟨ha, hst, hcl⟩) h, fun _ => ⟨?_, rfl⟩⟩
    · rw [hmoved]
      simpa using hactive
    · rw [hmoved, (refreshActual_kept _).1, hresv]

/-- The figures of the load follow the hook once S exists (R12 to R14, R181). -/
theorem loadMoved_figures {d : Dip} (n : Nat) (hd : s.dcc.active = some d) (h : d.steel.isSome = true) :
    (s.loadMoved n).adm.actual
        = ownDisplacement s.adm.full (immersedDepth s.adm.without n d.job.hang d.job.height) d.job.height
      ∧ (s.loadMoved n).adm.surface = surfaceEstimate s.adm.without (s.loadMoved n).adm.actual := by
  have hkept : (testImmersion (s.atHook n)).adm = s.adm ∧ (testImmersion (s.atHook n)).hif.hook = n := by
    rw [testImmersion_eq]
    exact ⟨rfl, rfl⟩
  obtain ⟨hadm, hhook⟩ := hkept
  obtain ⟨ha, hs, -, -⟩ := admHookUpdate_figures_kept (testImmersion (s.atHook n))
  obtain ⟨hactual, hsurface⟩ := refreshActual_of_steel (testImmersion_active n hd) h
  rw [State.loadMoved, ha, hs, hactual, hsurface, hactual, hadm, hhook]
  exact ⟨rfl, rfl⟩

theorem loadMoved_no_figures {d : Dip} (n : Nat) (hd : s.dcc.active = some d) (h : d.steel = none) :
    (s.loadMoved n).adm.actual = s.adm.actual ∧ (s.loadMoved n).adm.surface = s.adm.surface := by
  obtain ⟨ha, hs, -, -⟩ := admHookUpdate_figures_kept (testImmersion (s.atHook n))
  rw [State.loadMoved, ha, hs, refreshActual_of_no_steel (testImmersion_active n hd) h, testImmersion_eq]
  exact ⟨rfl, rfl⟩

theorem loadMoved_of_none (n : Nat) (hd : s.dcc.active = none) :
    (s.loadMoved n).adm = s.adm ∧ (s.loadMoved n).dcc = s.dcc ∧ (s.loadMoved n).kli = s.kli := by
  have hstart : testImmersion (s.atHook n) = s.atHook n := by
    rw [testImmersion_eq]
    exact onDip_of_none (s := s.atHook n) hd _
  rw [State.loadMoved, hstart, admHookUpdate_of_none (s := s.atHook n) hd]
  exact ⟨rfl, rfl, rfl⟩

/-! ### The leg, in either order of the blocks (R58, R60, R74, log 5) -/

/-- A dip whose EXIT_WET is as before the update needs no mending (R32). -/
theorem mendExitWet_of_same {u v : State} (h : v.exitWet = u.exitWet) : mendExitWet u v = v := by
  unfold mendExitWet
  split
  · rename_i hc
    have hwet : v.exitWet = false := by
      simp only [Bool.and_eq_true, Bool.not_eq_true'] at hc
      exact h.trans hc.1.1
    rw [onFlags_eq]
    cases hd : v.dcc.active with
    | none => exact onDip_of_none hd _
    | some d =>
      have hflag : d.flags.exitWet = false := by simpa [State.exitWet, hd] using hwet
      have hsame : ({ d with flags := { d.flags with exitWet := false } } : Dip) = d := by rw [← hflag]
      rw [State.onDcc, hd, Option.map_some, hsame, ← hd]
  · rfl

/-- EXIT_WET is mended in the flags of the dip only (R32). -/
theorem mendExitWet_frame (u v : State) :
    (mendExitWet u v).dcc.stage = v.dcc.stage ∧ (mendExitWet u v).sgx = v.sgx ∧ (mendExitWet u v).hif = v.hif
      ∧ (mendExitWet u v).wgu = v.wgu ∧ (mendExitWet u v).adm = v.adm := by
  unfold mendExitWet
  split <;> exact ⟨rfl, rfl, rfl, rfl, rfl⟩

/-- A leg, if one runs, is farther from its hook target than the arrival band (R58). -/
def NotArrived (s : State) : Prop :=
  ∀ target speed, s.leg = some (target, speed) → s.settings.arrivalBand < hookDistance s.hif.hook target

theorem inBand_iff (s : State) (target : Nat) :
    s.inBand target = true ↔ hookDistance s.hif.hook target ≤ s.settings.arrivalBand := by
  simp [State.inBand]

theorem not_inBand_iff (s : State) (target : Nat) :
    ¬ s.inBand target = true ↔ s.settings.arrivalBand < hookDistance s.hif.hook target := by
  rw [inBand_iff, Nat.not_le]

/-- Away from its target a leg goes on as it is (R58, R78). -/
theorem sgxHookUpdate_of_notArrived (h : NotArrived s) : sgxHookUpdate s = s := by
  unfold NotArrived State.leg at h
  unfold sgxHookUpdate
  cases hc : s.sgx.current with
  | none => rfl
  | some r =>
    rw [hc] at h
    cases r with
    | move frozen target speed => exact if_neg ((not_inBand_iff s target).mpr (h target speed rfl))
    | shake frozen lower upper speed count leg =>
      have hleg := h _ _ rfl
      cases leg with
      | up =>
        have hupper := (not_inBand_iff s upper).mpr hleg
        exact (if_neg fun hn => hupper hn.2).trans (if_neg hupper)
      | first =>
        have hlower := (not_inBand_iff s lower).mpr hleg
        exact (if_neg fun hn => hlower hn.1).trans (if_neg hlower)
      | down =>
        have hlower := (not_inBand_iff s lower).mpr hleg
        exact (if_neg fun hn => hlower hn.1).trans (if_neg hlower)
    | dwell => rfl
    | wait input edge => rfl

/-- What the ADM leaves and moves of EXIT_WET at the update: nothing (R182). -/
theorem admHookUpdate_exitWet (s : State) : (admHookUpdate s).exitWet = s.exitWet := by
  cases hd : s.dcc.active with
  | none => rw [admHookUpdate_of_none hd]
  | some d =>
    by_cases h : SeesClear d s
    · simp [State.exitWet, (admHookUpdate_of_clear hd h).1, hd, Dip.clearedAt]
    · rw [admHookUpdate_of_unclear hd h]
      simp [State.exitWet]

/-- With no leg at its target the update moves the load only, in either order of the blocks (log 5). -/
theorem hookUpdateWith_of_notArrived (admFirst : Bool) (n : Nat)
    (h : ∀ target speed, s.leg = some (target, speed) → s.settings.arrivalBand < hookDistance n target) :
    hookUpdateWith admFirst (s.atHook n) = s.loadMoved n := by
  have hstart : NotArrived (testImmersion (s.atHook n)) := by
    rw [testImmersion_eq]
    exact h
  have hmoved : NotArrived (s.loadMoved n) := by
    obtain ⟨hsgx, hhif, -, -, -, -, -, -, -, -, hcfs, -, -⟩ := loadMoved_frame n s
    intro target speed hleg
    rw [State.leg, hsgx] at hleg
    rw [State.settings, hcfs, hhif]
    exact h target speed hleg
  cases admFirst with
  | true => exact sgxHookUpdate_of_notArrived hmoved
  | false =>
    refine (congrArg (fun u => mendExitWet (testImmersion (s.atHook n)) (admHookUpdate u))
      (sgxHookUpdate_of_notArrived hstart)).trans ?_
    exact mendExitWet_of_same (admHookUpdate_exitWet _)

/-- Settles O31: with no leg running, the update moves the load only. -/
theorem encoderReadMovesTheFigures : Obligations.EncoderReadMovesTheFigures := by
  refine ⟨fun s height parity d hgood hleg hd hsteel => ?_, fun s start height parity hbad hcount => ?_⟩
  · have hmoved := hookUpdateWith_of_notArrived (s := s) (Config.blockOrder s.freeCount) height.toNat
      (by rw [hleg]; nofun)
    have hexec := exec_encoderRead_good (s := s) hgood
    rw [hmoved] at hexec
    obtain ⟨hsgx, hhif, hstage, hqueue, hzcu, hinv, hacu, hwgu, hpeers, hsck, -, hwithout, hfull⟩ := loadMoved_frame height.toNat s
    obtain ⟨hactual, hsurface⟩ := loadMoved_figures height.toNat hd hsteel
    obtain ⟨e, he, hload⟩ := loadMoved_follows height.toNat hd
    exact ⟨_, e, hexec, (congrArg Hif.hook hhif :), (congrArg Hif.hookValid hhif :), (congrArg Hif.readFailures hhif :), hactual,
      hsurface, hwithout, hfull, he, hload.job, hload.start, hload.clear, hload.unclear, hstage, hqueue, hsgx, hzcu, hinv, hacu,
      hwgu, hpeers, hsck⟩
  · have hexec : exec (.encoderRead start height parity) s = .next (drivePins (countFailedRead s)) := by
      show execEncoderRead start height parity s = _
      rw [execEncoderRead, hbad, if_neg nofun, failedRead, if_neg (by simpa [readFailureLimit] using hcount)]
      rfl
    have hvalid : decide (s.hif.readFailures + 1 < readFailureLimit) = decide (s.hif.readFailures < 2) :=
      decide_eq_decide.mpr (by unfold readFailureLimit; omega)
    refine ⟨_, hexec, rfl, rfl, congrArg (s.hif.hookValid && ·) hvalid, rfl, rfl, ?_⟩
    exact ⟨rfl, rfl, rfl, rfl, rfl, rfl, rfl, rfl, rfl, rfl, rfl, rfl, rfl, rfl⟩

end Sys2Proof.Machine
end

section
/-! PROOF. The legs at a hook-height update (O32, O33): what the SGX makes of an arrival, for every state that the ADM may have
left it or may be about to take from it. -/

namespace Sys2Proof.Machine

variable {s t : State}

/-! ### What the SGX sees of the update (R74, log 5) -/

/-- A state in which the SGX tests its leg at a hook-height update from `s`: what it reads and what the stage needs is as in `s`
with the new height, whether the ADM has acted or not (log 5). -/
structure LegTestAt (n : Nat) (s v : State) : Prop where
  sgx   : v.sgx = s.sgx
  hif   : v.hif = { s.hif with hook := n, hookValid := true, readFailures := 0 }
  cfs   : v.cfs = s.cfs
  zcu   : v.zcu = s.zcu
  wgu   : v.wgu = s.wgu
  stage : v.dcc.stage = s.dcc.stage

theorem legTestAt_loadMoved (n : Nat) (s : State) : LegTestAt n s (s.loadMoved n) := by
  obtain ⟨hsgx, hhif, hstage, -, hzcu, -, -, hwgu, -, -, hcfs, -, -⟩ := loadMoved_frame n s
  exact ⟨hsgx, hhif, hcfs, hzcu, hwgu, hstage⟩

theorem legTestAt_testImmersion (n : Nat) (s : State) : LegTestAt n s (testImmersion (s.atHook n)) := by
  rw [testImmersion_eq]
  exact ⟨rfl, rfl, rfl, rfl, rfl, rfl⟩

theorem LegTestAt.settings {n : Nat} {v : State} (h : LegTestAt n s v) : v.settings = s.settings := by
  rw [State.settings, h.cfs]
  rfl

theorem LegTestAt.inBand_iff {n : Nat} {v : State} (h : LegTestAt n s v) (target : Nat) :
    v.inBand target = true ↔ hookDistance n target ≤ s.settings.arrivalBand := by
  rw [Machine.inBand_iff, h.hif, h.settings]

theorem LegTestAt.not_inBand_iff {n : Nat} {v : State} (h : LegTestAt n s v) (target : Nat) :
    ¬ v.inBand target = true ↔ s.settings.arrivalBand < hookDistance n target := by
  rw [h.inBand_iff, Nat.not_le]

/-- What the SGX makes of the blocks stands after the update in either order: the ADM leaves them (log 5). -/
theorem hookUpdateWith_leg {P : Sgx → Hif → Wgu → Stage → Prop} {n : Nat} (admFirst : Bool)
    (h : ∀ v, LegTestAt n s v →
      P (sgxHookUpdate v).sgx (sgxHookUpdate v).hif (sgxHookUpdate v).wgu (sgxHookUpdate v).dcc.stage) :
    P (hookUpdateWith admFirst (s.atHook n)).sgx (hookUpdateWith admFirst (s.atHook n)).hif
      (hookUpdateWith admFirst (s.atHook n)).wgu (hookUpdateWith admFirst (s.atHook n)).dcc.stage := by
  cases admFirst with
  | true => exact h _ (legTestAt_loadMoved n s)
  | false =>
    let u := testImmersion (s.atHook n)
    have hu := h u (legTestAt_testImmersion n s)
    have hend : hookUpdateWith false (s.atHook n) = mendExitWet u (admHookUpdate (sgxHookUpdate u)) := rfl
    obtain ⟨hstage, hsgx, hhif, hwgu, -⟩ := mendExitWet_frame u (admHookUpdate (sgxHookUpdate u))
    rw [hend, hstage, hsgx, hhif, hwgu]
    simpa using hu

/-! ### The legs of a SHAKE (R60) -/

section Shake

variable {frozen : Int} {lower upper speed count : Nat}

theorem sgxHookUpdate_firstLeg (hc : s.sgx.current = some (.shake frozen lower upper speed count .first))
    (hl : s.inBand lower = true) (hu : ¬ s.inBand upper = true) :
    sgxHookUpdate s = startLeg (.shake frozen lower upper speed count .up) (s.onSgx fun x => { x with repeats := count }) := by
  simp only [sgxHookUpdate, hc, hl, hu, true_and, if_true]
  rfl

theorem sgxHookUpdate_upLeg (hc : s.sgx.current = some (.shake frozen lower upper speed count .up))
    (hu : s.inBand upper = true) (hl : ¬ s.inBand lower = true) :
    sgxHookUpdate s = startLeg (.shake frozen lower upper speed count .down) s := by
  simp only [sgxHookUpdate, hc, hl, hu, and_true, if_true]
  rfl

theorem sgxHookUpdate_downLeg (hc : s.sgx.current = some (.shake frozen lower upper speed count .down))
    (hr : 2 ≤ s.sgx.repeats) (hl : s.inBand lower = true) (hu : ¬ s.inBand upper = true) :
    sgxHookUpdate s
      = startLeg (.shake frozen lower upper speed count .up) (s.onSgx fun x => { x with repeats := x.repeats - 1 }) := by
  simp only [sgxHookUpdate, hc, hl, hu, true_and, if_true, if_neg (show ¬ s.sgx.repeats ≤ 1 by omega)]
  rfl

theorem sgxHookUpdate_lastLeg (hc : s.sgx.current = some (.shake frozen lower upper speed count .down))
    (hr : s.sgx.repeats ≤ 1) (hl : s.inBand lower = true) : sgxHookUpdate s = endSegment s := by
  simp only [sgxHookUpdate, hc, hl, if_true, hr, ite_self]

theorem sgxHookUpdate_bothInBand {leg : ShakeLeg} (hc : s.sgx.current = some (.shake frozen lower upper speed count leg))
    (hl : s.inBand lower = true) (hu : s.inBand upper = true) : sgxHookUpdate s = endSegment s := by
  simp only [sgxHookUpdate, hc, hl, hu, and_self, if_true]

end Shake

theorem sgxHookUpdate_move {frozen : Int} {target speed : Nat} (hc : s.sgx.current = some (.move frozen target speed))
    (h : s.inBand target = true) : sgxHookUpdate s = endSegment s := by
  simp only [sgxHookUpdate, hc, h, if_true]

/-! ### The DWELL that follows (R54, R59) -/

theorem speedCommand_of_no_leg (h : s.leg = none) : s.speedCommand = 0 := by
  rw [State.speedCommand, h]
  split <;> rfl

/-- A segment that ends before a DWELL of its phase starts it in the same step (R54, R59). -/
theorem endSegment_dwell {p : Phase} {i time : Nat} {seg : Segment} (hh : s.sgx.stage = some p) (hc : s.sgx.cursor = .seg i)
    (hs : segmentAt s.settings i = some seg) (hp : seg.phase = p)
    (hy : s.dcc.stage ≠ .approach ∨ s.zcu.yielding = false) (hw : seg.work = .dwell time) (htime : 0 < time) :
    endSegment s = ((applyMarkers seg (dropSegment s)).onSgx fun x => { x with cursor := Cursor.ofNext seg.next }).onSgx
      fun x => { x with current := some .dwell, dwell := some time } := by
  have hdwell : startSegment seg (dropSegment s)
      = ((applyMarkers seg (dropSegment s)).onSgx fun x => { x with cursor := Cursor.ofNext seg.next }).onSgx
          fun x => { x with current := some .dwell, dwell := some time } := by
    rw [startSegment, hw, startWork, startDwell, if_neg (by omega)]
  rw [endSegment_start hh hc hs hp hy (by simp [hw]) (by rw [hdwell]; rfl), hdwell]

/-- Settles O33: a leg away from its target by `hookUpdateWith_of_notArrived`, the others by what the SGX makes of them. -/
theorem hookUpdateAtARunningLeg : Obligations.HookUpdateAtARunningLeg := by
  intro s height parity hgood
  have hexec := exec_encoderRead_good (s := s) hgood
  refine ⟨fun hfar => ?_, fun frozen lower upper speed count => ⟨fun hc hl hu => ?_, fun hc hu hl => ?_, fun hc hr hl hu => ?_⟩,
    fun p i seg time hh hc hs hp hw htime hstage hy harrived => ?_⟩
  · rw [hookUpdateWith_of_notArrived _ _ hfar] at hexec
    obtain ⟨hsgx, hhif, hstage, hqueue, hzcu, hinv, hacu, hwgu, hpeers, hsck, -, hwithout, hfull⟩ := loadMoved_frame height.toNat s
    refine ⟨_, hexec, (congrArg Hif.hook hhif :), (congrArg Hif.hookValid hhif :), (congrArg Hif.readFailures hhif :), hsgx,
      (congrArg Hif.motion hhif :), (congrArg Hif.driveLost hhif :), hstage, hqueue, hzcu, hinv, hacu, hwgu, hpeers, hsck, hwithout,
      hfull, fun hd => loadMoved_of_none _ hd, fun d hd hsteel => loadMoved_no_figures _ hd hsteel,
      fun d hd hsteel => loadMoved_figures _ hd hsteel, fun d hd => ?_⟩
    obtain ⟨e, he, hload⟩ := loadMoved_follows height.toNat hd
    exact ⟨e, he, hload.job, hload.flags, hload.start, hload.clear, hload.unclear⟩
  · obtain ⟨hst, hsgx, hmotion⟩ := hookUpdateWith_leg (s := s) (n := height.toNat)
      (P := fun x h _ st => st = s.dcc.stage ∧ x = { s.sgx with current := some (.shake frozen lower upper speed count .up), repeats := count }
        ∧ h.motion = some { count := 0, limit := motionLimit (hookDistance height.toNat upper) speed })
      (Config.blockOrder s.freeCount) fun v hv => by
        rw [sgxHookUpdate_firstLeg (by rw [hv.sgx, hc]) ((hv.inBand_iff _).mpr hl) ((hv.not_inBand_iff _).mpr hu), ← hv.stage, ← hv.sgx]
        refine ⟨rfl, rfl, ?_⟩
        simp [startLeg, Running.leg, hv.hif]
    exact ⟨_, hexec, hst, hsgx, hmotion⟩
  · obtain ⟨hst, hsgx, hmotion⟩ := hookUpdateWith_leg (s := s) (n := height.toNat)
      (P := fun x h _ st => st = s.dcc.stage ∧ x = { s.sgx with current := some (.shake frozen lower upper speed count .down) }
        ∧ h.motion = some { count := 0, limit := motionLimit (hookDistance height.toNat lower) speed })
      (Config.blockOrder s.freeCount) fun v hv => by
        rw [sgxHookUpdate_upLeg (by rw [hv.sgx, hc]) ((hv.inBand_iff _).mpr hu) ((hv.not_inBand_iff _).mpr hl), ← hv.stage, ← hv.sgx]
        refine ⟨rfl, rfl, ?_⟩
        simp [startLeg, Running.leg, hv.hif]
    exact ⟨_, hexec, hst, hsgx, hmotion⟩
  · obtain ⟨hst, hsgx, hmotion⟩ := hookUpdateWith_leg (s := s) (n := height.toNat)
      (P := fun x h _ st => st = s.dcc.stage ∧ x = { s.sgx with
          current := some (.shake frozen lower upper speed count .up), repeats := s.sgx.repeats - 1 }
        ∧ h.motion = some { count := 0, limit := motionLimit (hookDistance height.toNat upper) speed })
      (Config.blockOrder s.freeCount) fun v hv => by
        rw [sgxHookUpdate_downLeg (by rw [hv.sgx, hc]) (by rw [hv.sgx]; exact hr) ((hv.inBand_iff _).mpr hl)
          ((hv.not_inBand_iff _).mpr hu), ← hv.stage, ← hv.sgx]
        refine ⟨rfl, rfl, ?_⟩
        simp [startLeg, Running.leg, hv.hif]
    exact ⟨_, hexec, hst, hsgx, hmotion⟩
  · obtain ⟨hst, hcurrent, hdwell, hrepeats, hhand, hcursor, hmotion, hlost⟩ := hookUpdateWith_leg (s := s) (n := height.toNat)
      (P := fun x h _ st => st = s.dcc.stage ∧ x.current = some .dwell ∧ x.dwell = some time ∧ x.repeats = 0 ∧ x.stage = some p
        ∧ x.cursor = Cursor.ofNext seg.next ∧ h.motion = none ∧ h.driveLost = none)
      (Config.blockOrder s.freeCount) fun v hv => by
        have hend : sgxHookUpdate v = endSegment v := by
          rcases harrived with ⟨frozen, target, speed, hcur, hin⟩ | ⟨frozen, lower, upper, speed, count, hcur, hr, hin⟩
            | ⟨frozen, lower, upper, speed, count, leg, hcur, hl, hu⟩
          · exact sgxHookUpdate_move (by rw [hv.sgx, hcur]) ((hv.inBand_iff _).mpr hin)
          · exact sgxHookUpdate_lastLeg (by rw [hv.sgx, hcur]) (by rw [hv.sgx]; exact hr) ((hv.inBand_iff _).mpr hin)
          · exact sgxHookUpdate_bothInBand (by rw [hv.sgx, hcur]) ((hv.inBand_iff _).mpr hl) ((hv.inBand_iff _).mpr hu)
        rw [hend, endSegment_dwell (by rw [hv.sgx, hh]) (by rw [hv.sgx, hc]) (by rw [hv.settings, hs]) hp
          (.inr (by rw [hv.zcu, hy])) hw htime, ← hv.stage, ← hh, ← hv.sgx]
        exact ⟨rfl, rfl, rfl, rfl, rfl, rfl, rfl, rfl⟩
    refine ⟨_, hexec, hst, hcurrent, hdwell, hrepeats, hmotion, hlost, speedCommand_of_no_leg ?_, hhand, hcursor.trans ?_⟩
    · rw [State.leg, hcurrent]
      rfl
    · cases seg.next <;> rfl

/-! ### The last arrival of WITHDRAW (R32, R54) -/

/-- A dip as WEIGH_EXIT takes it: EXIT_WET where surface clear has not been seen (R32). -/
def Dip.exitedWet (d : Dip) : Dip := { d with flags := { d.flags with exitWet := d.flags.exitWet || d.immersionEnd.isNone } }

theorem enterWeighExit_dcc (s : State) :
    (enterWeighExit s).dcc = { s.dcc with stage := .weighExit, active := s.dcc.active.map Dip.exitedWet } :=
  setStage_dcc _ _

theorem enterWeighExit_wgu (s : State) :
    (enterWeighExit s).wgu = { s.wgu with op := some ⟨if s.still = true then .averaging else .settling, 0, []⟩ } :=
  weighRequest_wgu_of (by simp) (by simp)

theorem later_than_withdraw {p : Phase} (h : p = .drain ∨ p = .depart) :
    ¬ phaseOrder p < phaseOrder .withdraw ∧ phaseOrder .withdraw < phaseOrder p := by
  rcases h with rfl | rfl <;> decide

theorem find_done_later {i : Nat} {seg : Segment} (hh : s.sgx.stage = some .withdraw) (hc : s.sgx.cursor = .seg i)
    (hs : segmentAt s.settings i = some seg) (hp : seg.phase = .drain ∨ seg.phase = .depart) : s.find = .done .withdraw := by
  obtain ⟨hpass, hdone⟩ := later_than_withdraw hp
  rw [find_of_seg hh hc hs, if_neg hpass, if_pos hdone]

/-- What the last arrival of WITHDRAW makes of the blocks; the ADM's part is beside it (R26, R32, R92). -/
structure WithdrawEnded (i : Nat) (s t : State) : Prop where
  current : t.sgx.current = none
  hand    : t.sgx.stage = none
  cursor  : t.sgx.cursor = .seg i
  motion  : t.hif.motion = none
  hook    : t.hif.hook = s.hif.hook
  dcc     : t.dcc = { s.dcc with stage := .weighExit, active := s.dcc.active.map Dip.exitedWet }
  wgu     : t.wgu = { s.wgu with op := some ⟨if s.still = true then .averaging else .settling, 0, []⟩ }
  adm     : t.adm = s.adm
  cfs     : t.cfs = s.cfs
  sck     : t.sck = s.sck

/-- WITHDRAW ends at a segment of a later phase, at the cursor or at the return index of the called chain that ends (R54, R55). -/
theorem endSegment_withdrawEnded {i : Nat} {seg : Segment} (hh : s.sgx.stage = some .withdraw)
    (hc : s.sgx.cursor = .seg i ∨ (s.sgx.cursor = .chainEnd ∧ s.sgx.returnIndex = some (some i)))
    (hs : segmentAt s.settings i = some seg) (hp : seg.phase = .drain ∨ seg.phase = .depart) :
    WithdrawEnded i s (endSegment s) := by
  have hexit : ∀ f : Sgx → Sgx, (f (dropSegment s).sgx).current = none → (f (dropSegment s).sgx).stage = none →
      (f (dropSegment s).sgx).cursor = .seg i → WithdrawEnded i s (enterWeighExit ((dropSegment s).onSgx f)) :=
    fun f hcurrent hhand hcursor =>
      { current := by simpa using hcurrent
        hand := by simpa using hhand
        cursor := by simpa using hcursor
        motion := by simp [dropSegment]
        hook := by simp [dropSegment]
        dcc := by rw [enterWeighExit_dcc]; rfl
        wgu := enterWeighExit_wgu _
        adm := by simp
        cfs := by simp
        sck := by simp }
  rcases hc with hseg | ⟨hend, hret⟩
  · have hrun : endSegment s = enterWeighExit ((dropSegment s).onSgx fun x => { x with stage := none }) :=
      sgxRun_done_leave (s := dropSegment s) 9999 (find_done_later hh hseg hs hp) rfl
    rw [hrun]
    exact hexit _ rfl rfl hseg
  · let u := (dropSegment s).onSgx fun x => { x with cursor := .seg i, returnIndex := none }
    have hback : endSegment s = sgxRun 9999 u := sgxRun_back (s := dropSegment s) 9999 (find_back hh hend hret)
    have hrun : sgxRun 9999 u = enterWeighExit (u.onSgx fun x => { x with stage := none }) :=
      sgxRun_done_leave (s := u) 9998 (find_done_later hh rfl hs hp) rfl
    rw [hback, hrun]
    exact hexit (fun x => { x with cursor := .seg i, returnIndex := none, stage := none }) rfl rfl rfl

theorem LegTestAt.still {n : Nat} {v : State} (h : LegTestAt n s v) : v.still = s.still := by
  rw [State.still, h.wgu, h.settings]
  rfl

/-- EXIT_WET after the last arrival of WITHDRAW, from the dip and whether the update shows surface clear (R32, log 5). -/
def ExitJudged (clear : Bool) (d : Dip) (now : Word) (t : State) : Prop :=
  ∃ e, t.dcc.active = some e
    ∧ (clear = true → t.adm.resv = .none ∧ e.immersionEnd = some now ∧ e.flags.exitWet = d.flags.exitWet)
    ∧ (clear = false → t.adm.resv = .admitted ∧ e.immersionEnd = none ∧ e.flags.exitWet = true)

/-- The mending of EXIT_WET after an entry that set it before surface clear was reported (R32). -/
theorem mendExitWet_judged {d e : Dip} {u v : State} {now : Word} (hu : u.dcc.active = some d) (hnone : d.immersionEnd = none)
    (hv : v.dcc.active = some e) (hend : e.immersionEnd = some now) (hwet : e.flags.exitWet = true) (hresv : v.adm.resv = .none) :
    ExitJudged true d now (mendExitWet u v) := by
  have hseen : u.clearSeen = false := by simp [State.clearSeen, hu, hnone]
  have hafter : v.clearSeen = true := by simp [State.clearSeen, hv, hend]
  have hbefore : u.exitWet = d.flags.exitWet := by simp [State.exitWet, hu]
  unfold mendExitWet
  rw [hseen, hafter, hbefore]
  cases hd : d.flags.exitWet with
  | true => exact ⟨e, hv, fun _ => ⟨hresv, hend, hwet.trans hd.symm⟩, nofun⟩
  | false =>
    refine ⟨{ e with flags := { e.flags with exitWet := false } }, ?_, fun _ => ⟨hresv, hend, hd.symm⟩, nofun⟩
    exact congrArg (Option.map fun x : Dip => { x with flags := { x.flags with exitWet := false } }) hv

/-- The ADM before the SGX: WEIGH_EXIT is entered on the verdict of the same update (R32, log 5). -/
theorem exitJudged_of_admFirst {n i : Nat} {d : Dip} {t : State} (hd : s.dcc.active = some d) (hnone : d.immersionEnd = none)
    (hstage : s.dcc.stage = .withdraw) (hresv : s.adm.resv = .admitted) (ht : WithdrawEnded i (s.loadMoved n) t) :
    ExitJudged (surfaceClear s.adm.without n d.job.hang s.settings.exitClearance) d s.sck t := by
  obtain ⟨e, he, hload⟩ := loadMoved_follows n hd
  have hactive : t.dcc.active = some e.exitedWet := by
    rw [ht.dcc]
    exact congrArg (Option.map _) he
  refine ⟨e.exitedWet, hactive, fun hclear => ?_, fun hunclear => ?_⟩
  · obtain ⟨hfallen, hend⟩ := hload.clear hresv (by rw [hstage]; rfl) hclear
    rw [hnone] at hend
    refine ⟨by rw [ht.adm]; exact hfallen, hend, ?_⟩
    show (e.flags.exitWet || e.immersionEnd.isNone) = _
    rw [hend, hload.flags, Option.isNone_some, Bool.or_false]
  · obtain ⟨hkept, hend⟩ := hload.unclear (.inr (.inr hunclear))
    refine ⟨by rw [ht.adm, hkept, hresv], hend.trans hnone, ?_⟩
    show (e.flags.exitWet || e.immersionEnd.isNone) = _
    rw [hend, hnone, Option.isNone_none, Bool.or_true]

/-- The SGX before the ADM: the entry into WEIGH_EXIT sets EXIT_WET, and a verdict of surface clear mends it (R32, log 5). -/
theorem exitJudged_of_sgxFirst {n i : Nat} {d : Dip} {t : State} (hd : s.dcc.active = some d) (hnone : d.immersionEnd = none)
    (hresv : s.adm.resv = .admitted) (ht : WithdrawEnded i (testImmersion (s.atHook n)) t) :
    ExitJudged (surfaceClear s.adm.without n d.job.hang s.settings.exitClearance) d s.sck
      (mendExitWet (testImmersion (s.atHook n)) (admHookUpdate t)) := by
  let d' := d.immersedAt s.dcc.stage s.adm.without n s.sck
  have hbefore : (testImmersion (s.atHook n)).dcc.active = some d' := testImmersion_active n hd
  have hkept : (testImmersion (s.atHook n)).adm = s.adm ∧ (testImmersion (s.atHook n)).sck = s.sck := by
    rw [testImmersion_eq]
    exact ⟨rfl, rfl⟩
  have hset : t.settings = s.settings := by
    rw [State.settings, ht.cfs, testImmersion_eq]
    rfl
  have hhook : t.hif.hook = n := by
    rw [ht.hook, testImmersion_eq]
    rfl
  have hactive : t.dcc.active = some d'.exitedWet := by
    rw [ht.dcc, hbefore]
    rfl
  have hwet : d'.exitedWet.flags.exitWet = true := by
    show (d.flags.exitWet || d.immersionEnd.isNone) = true
    rw [hnone, Option.isNone_none, Bool.or_true]
  have hsees : SeesClear d'.exitedWet t ↔ surfaceClear s.adm.without n d.job.hang s.settings.exitClearance = true := by
    have hstage : t.dcc.stage = .weighExit := by rw [ht.dcc]
    rw [SeesClear, ht.adm, hkept.1, hset, hhook, hstage]
    exact ⟨fun h => h.2.2, fun h => ⟨hresv, rfl, h⟩⟩
  cases hc : surfaceClear s.adm.without n d.job.hang s.settings.exitClearance with
  | true =>
    obtain ⟨hdcc, hfallen⟩ := admHookUpdate_of_clear hactive (hsees.mpr hc)
    have hend : (d'.exitedWet.clearedAt t.sck).immersionEnd = some s.sck := by
      show some (d.immersionEnd.getD t.sck) = some s.sck
      rw [hnone, ht.sck, hkept.2]
      rfl
    obtain ⟨e, he, hclear, -⟩ := mendExitWet_judged hbefore hnone (congrArg Dcc.active hdcc :) hend hwet hfallen
    exact ⟨e, he, hclear, nofun⟩
  | false =>
    have hunclear := admHookUpdate_of_unclear hactive (mt hsees.mp (by rw [hc]; nofun))
    have hresv' : (admHookUpdate t).adm.resv = .admitted := by
      rw [hunclear, (refreshActual_kept t).1, ht.adm, hkept.1, hresv]
    have hactive' : (admHookUpdate t).dcc.active = some d'.exitedWet := by
      rw [hunclear]
      simpa using hactive
    have hmend : mendExitWet (testImmersion (s.atHook n)) (admHookUpdate t) = admHookUpdate t := by
      unfold mendExitWet
      refine if_neg fun h => ?_
      have hseen : (admHookUpdate t).clearSeen = false := by
        simp [State.clearSeen, hactive', Dip.exitedWet, d', Dip.immersedAt, hnone]
      rw [hseen, Bool.and_false] at h
      cases h
    rw [hmend]
    exact ⟨d'.exitedWet, hactive', nofun, fun _ => ⟨hresv', hnone, hwet⟩⟩

/-- Settles O32: the ADM's verdict before the entry into WEIGH_EXIT, or after it and mended. -/
theorem withdrawalArrivalIsNotWetWhenClear : Obligations.WithdrawalArrivalIsNotWetWhenClear := by
  intro s height parity d frozen target speed i seg hgood hd hnone hstage hhand hcurrent hcursor hs hp hband hresv
  have hexec := exec_encoderRead_good (s := s) hgood
  have hended : ∀ v, LegTestAt height.toNat s v → WithdrawEnded i v (sgxHookUpdate v) := fun v hv => by
    rw [sgxHookUpdate_move (by rw [hv.sgx, hcurrent]) ((hv.inBand_iff _).mpr hband)]
    exact endSegment_withdrawEnded (by rw [hv.sgx, hhand]) (by rw [hv.sgx]; exact hcursor) (by rw [hv.settings, hs]) hp
  obtain ⟨hnocurrent, hnohand, hseg, hmotion, hwgu, hst⟩ := hookUpdateWith_leg (s := s) (n := height.toNat)
    (P := fun x h w st => x.current = none ∧ x.stage = none ∧ x.cursor = .seg i ∧ h.motion = none
      ∧ w = { s.wgu with op := some ⟨if s.still = true then .averaging else .settling, 0, []⟩ } ∧ st = .weighExit)
    (Config.blockOrder s.freeCount) fun v hv => by
      have h := hended v hv
      refine ⟨h.current, h.hand, h.cursor, h.motion, ?_, (congrArg Dcc.stage h.dcc :)⟩
      rw [h.wgu, hv.wgu, hv.still]
  have hjudged : ExitJudged (surfaceClear s.adm.without height.toNat d.job.hang s.settings.exitClearance) d s.sck
      (hookUpdateWith (Config.blockOrder s.freeCount) (s.atHook height.toNat)) := by
    cases Config.blockOrder s.freeCount with
    | true => exact exitJudged_of_admFirst hd hnone hstage hresv (hended _ (legTestAt_loadMoved _ s))
    | false => exact exitJudged_of_sgxFirst hd hnone hresv (hended _ (legTestAt_testImmersion _ s))
  obtain ⟨e, he, hclear, hunclear⟩ := hjudged
  exact ⟨_, e, hexec, hst, hnocurrent, hnohand, hmotion, speedCommand_of_stage (by rw [hst]; rfl), hseg, he, hwgu, hclear, hunclear⟩

end Sys2Proof.Machine
end

section
/-! PROOF. The ends of the two windows (O48, O49): a rule for the walk of the Segment Executor that follows the stage in hand, and
what it gives from APPROACH and from IMMERSE. -/

namespace Sys2Proof.Machine

variable {s t u : State}

/-! ### A rule for the walk (R52 to R55) -/

/-- What holds along a walk, and what each way out of it makes of that: a phase left for a stage without segments, the
conflict hold, a segment that runs, a walk that stands (R37, R52 to R55). -/
theorem sgxRun_walk {P Q : State → Prop} (hstop : ∀ u, P u → Q u)
    (hsgx : ∀ u f, (f u.sgx).stage = u.sgx.stage → P u → P (u.onSgx f)) (hcall : ∀ u g k, P u → P (takeCall g k u))
    (hstart : ∀ u g, P u → P (startSegment g u))
    (hnext : ∀ u p q, u.sgx.stage = some p → phaseFollowing p = some q → P u → P (handStage q u))
    (hleave : ∀ u p, u.sgx.stage = some p → phaseFollowing p = none → P u → Q (leavePhase p u))
    (hyield : ∀ u, u.dcc.stage = .approach → u.zcu.yielding = true → P u → Q (waitHold .conflict u)) (n : Nat) (h : P s) :
    Q (sgxRun n s) := by
  have hdone : ∀ (u : State) p, u.find = .done p → u.sgx.stage = some p := fun u p hf => by
    obtain ⟨q, hq⟩ := find_hand (s := u) (by rw [hf]; nofun)
    rw [find_done hq hf, hq]
  induction n generalizing s with
  | zero => exact hstop _ h
  | succ n ih =>
    cases hf : s.find with
    | nothing => rw [sgxRun_nothing n hf]; exact hstop _ h
    | back next => rw [sgxRun_back n hf]; exact ih (hsgx _ _ rfl h)
    | pass seg => rw [sgxRun_pass n hf]; exact ih (hsgx _ _ rfl h)
    | done p =>
      cases hq : phaseFollowing p with
      | some q => rw [sgxRun_done_next n hf hq]; exact ih (hnext _ _ _ (hdone _ _ hf) hq h)
      | none => rw [sgxRun_done_leave n hf hq]; exact hleave _ _ (hdone _ _ hf) hq h
    | start seg =>
      by_cases hy : s.dcc.stage = .approach ∧ s.zcu.yielding = true
      · rw [sgxRun_yield n hf hy]; exact hyield _ hy.1 hy.2 h
      · by_cases hw : ∃ k, seg.work = .call k
        · obtain ⟨k, hk⟩ := hw
          rw [sgxRun_call n hf hy hk]; exact ih (hcall _ _ _ h)
        · rw [sgxRun_start n hf hy (by simpa using hw)]
          split
          · exact ih (hstart _ _ h)
          · exact hstop _ (hstart _ _ h)

/-! ### From APPROACH, with the claim HELD (R29, R166) -/

/-- The claim, the inventory and the log stand as in `s`. -/
structure ClaimStands (s u : State) : Prop where
  claim : u.zcu.claim = s.zcu.claim
  mask  : u.zcu.mask = s.zcu.mask
  inv   : u.inv = s.inv
  acu   : u.acu = s.acu

theorem ClaimStands.refl (s : State) : ClaimStands s s := ⟨rfl, rfl, rfl, rfl⟩

theorem ClaimStands.trans (h : ClaimStands s t) (h' : ClaimStands t u) : ClaimStands s u :=
  ⟨h'.claim.trans h.claim, h'.mask.trans h.mask, h'.inv.trans h.inv, h'.acu.trans h.acu⟩

theorem ClaimStands.enterAdmit (s : State) : ClaimStands s (enterAdmit s) := by
  constructor <;> simp [Machine.enterAdmit]

theorem ClaimStands.handStage (p : Phase) (s : State) : ClaimStands s (handStage p s) := by
  constructor <;> simp [Machine.handStage]

theorem ClaimStands.onSgx (f : Sgx → Sgx) (s : State) : ClaimStands s (s.onSgx f) := ⟨rfl, rfl, rfl, rfl⟩

/-- ADMIT follows APPROACH (R26). -/
theorem leavePhase_approach (s : State) : leavePhase .approach s = enterAdmit (s.onSgx fun x => { x with stage := none }) := rfl

theorem ClaimStands.waitHold (r : HoldReason) (s : State) : ClaimStands s (waitHold r s) := by
  constructor <;> simp

/-- The Segment Executor has APPROACH in hand, and the claim stands. -/
structure InApproach (s u : State) : Prop where
  stands : ClaimStands s u
  stage  : u.dcc.stage = .approach
  hand   : u.sgx.stage = some .approach

/-- In APPROACH still, or in the ADMIT that follows it, the claim standing (R29, R30). -/
def ApproachedFrom (s u : State) : Prop := InApproach s u ∨ (ClaimStands s u ∧ u.dcc.stage = .admitting)

theorem ApproachedFrom.stands (h : ApproachedFrom s u) : ClaimStands s u := h.elim (·.stands) (·.1)

theorem ApproachedFrom.stage (h : ApproachedFrom s u) : u.dcc.stage = .approach ∨ u.dcc.stage = .admitting :=
  h.imp (·.stage) (·.2)

theorem sgxRun_approachedFrom (n : Nat) (h : InApproach s u) : ApproachedFrom s (sgxRun n u) := by
  refine sgxRun_walk (P := InApproach s) (Q := ApproachedFrom s) (fun _ h => .inl h) (fun v f hf h => ?_) (fun v g k h => ?_)
    (fun v g h => ?_) (fun v p q hp hq h => ?_) (fun v p hp _ h => ?_) (fun v hst _ h => ?_) n h
  · exact ⟨h.stands.trans ⟨rfl, rfl, rfl, rfl⟩, h.stage, hf.trans h.hand⟩
  · exact ⟨h.stands.trans ⟨rfl, rfl, rfl, rfl⟩, h.stage, h.hand⟩
  · exact ⟨h.stands.trans ⟨by simp, by simp, by simp, by simp⟩, by simpa using h.stage, (startSegment_hand v g).trans h.hand⟩
  · rw [h.hand] at hp
    cases hp
    cases hq
  · rw [h.hand] at hp
    cases hp
    rw [leavePhase_approach]
    exact .inr ⟨h.stands.trans (.trans (.onSgx _ v) (.enterAdmit _)), by simp [enterAdmit]⟩
  · exact .inl ⟨h.stands.trans (.waitHold _ v), by simpa using h.stage, by simpa using h.hand⟩

theorem enterMotion_approachedFrom (s : State) : ApproachedFrom s (enterMotion .approach s) :=
  sgxRun_approachedFrom sgxFuel ⟨.handStage .approach s, by simp [handStage, phaseStage], by simp [handStage]⟩

/-! ### The conflict check there (R168, R169) -/

/-- Outside APPROACH and ADMIT the conflict check moves the flag only (R169). -/
theorem conflictCheck_of_no_yield (h : s.dcc.stage.yields = false) : conflictCheck s = checkFlag s.conflicting s := by
  unfold conflictCheck State.yieldsTo
  dsimp only
  rw [h, Bool.false_and, if_neg (by nofun), if_neg (by simp)]

theorem checkFlag_zcu (l : List (StationIx × PeerEntry)) (s : State) :
    (checkFlag l s).zcu = { s.zcu with conflict := !l.isEmpty } := by
  unfold checkFlag
  cases hl : l.isEmpty with
  | true => rfl
  | false =>
    rw [if_neg nofun]
    cases hc : s.zcu.conflict with
    | true =>
      rw [if_pos rfl, Bool.not_false, ← hc]
    | false =>
      rw [if_neg nofun]
      simp [beginConflict]

theorem checkFlag_stands (l : List (StationIx × PeerEntry)) (s : State) : ClaimStands s (checkFlag l s) := by
  constructor <;> simp [checkFlag_zcu]

theorem beginYield_zcu (s : State) : (beginYield s).zcu = { s.zcu with yielding := true } := by
  unfold beginYield
  dsimp only
  split <;> simp

theorem ApproachedFrom.keeps {v : State} (h : ApproachedFrom s u) (hz : ClaimStands u v) (hst : v.dcc.stage = u.dcc.stage)
    (hh : v.sgx.stage = u.sgx.stage) : ApproachedFrom s v :=
  h.imp (fun hi => ⟨hi.stands.trans hz, hst.trans hi.stage, hh.trans hi.hand⟩) fun ⟨ha, hs⟩ => ⟨ha.trans hz, hst.trans hs⟩

theorem endYield_approachedFrom (h : ApproachedFrom s u) : ApproachedFrom s (endYield u) := by
  let v := openGate (u.onZcu fun z => { z with yielding := false })
  have hv : ApproachedFrom s v := h.keeps ⟨by simp [v], by simp [v], by simp [v], by simp [v]⟩ (by simp [v]) (by simp [v])
  show ApproachedFrom s (if v.dcc.stage = .approach ∧ v.dcc.hold.isSome ∧ v.sgx.current.isNone then sgxGo (endHold v) else v)
  split
  · rename_i hc
    have hi : InApproach s v := hv.resolve_right fun ⟨_, ha⟩ => by rw [hc.1] at ha; cases ha
    exact sgxRun_approachedFrom sgxFuel
      ⟨hi.stands.trans ⟨by simp, by simp, by simp, by simp⟩, by simpa using hi.stage, by simpa using hi.hand⟩
  · exact hv

theorem conflictCheck_approachedFrom (h : ApproachedFrom s u) : ApproachedFrom s (conflictCheck u) := by
  have hflag : ApproachedFrom s (checkFlag u.conflicting u) := h.keeps (checkFlag_stands _ _) (by simp) (by simp)
  unfold conflictCheck
  dsimp only
  split
  · split
    · exact hflag
    · exact hflag.keeps ⟨by rw [beginYield_zcu], by rw [beginYield_zcu], by simp, by simp⟩ (by simp) (by simp)
  · split
    · exact endYield_approachedFrom hflag
    · exact hflag

/-! ### The end of the claim window (R166) -/

theorem windowDue_iff (start : Word) (s : State) : s.windowDue (some start) = true ↔ 400 ≤ (s.sck - start).toNat := by
  rw [State.windowDue, decide_eq_true_eq]
  rfl

/-- In FAULT the claim is HELD at the end of its window as elsewhere, and the stage stays (R171). -/
theorem holdClaim_of_fault (h : s.dcc.stage = .fault) :
    holdClaim s = checkFlag (setClaim .held s.zcu.mask s).conflicting (setClaim .held s.zcu.mask s) := by
  have hst : (setClaim .held s.zcu.mask s).dcc.stage = .fault := by simpa using h
  unfold holdClaim
  dsimp only
  rw [if_neg (by rw [hst]; nofun), conflictCheck_of_no_yield (by rw [hst]; rfl)]

theorem holdClaim_of_claim (h : s.dcc.stage = .claim) :
    ApproachedFrom (setClaim .held s.zcu.mask s) (holdClaim s) := by
  have hst : (setClaim .held s.zcu.mask s).dcc.stage = .claim := by simpa using h
  unfold holdClaim
  dsimp only
  rw [if_pos hst]
  exact conflictCheck_approachedFrom (enterMotion_approachedFrom _)

/-- Settles O48: HELD, then APPROACH and the walk from it, or FAULT as it was. -/
theorem claimWindowExpiryHolds : Obligations.ClaimWindowExpiryHolds := by
  refine ⟨fun s start hc hdue hstage => ?_, fun s start hc hearly => ?_, fun s hc => ?_⟩
  · have hexec : exec .claimWindowExpiry s = .next (drivePins (holdClaim s)) := by
      show execClaimWindowExpiry s = _
      simp only [execClaimWindowExpiry, hc, (windowDue_iff start s).mpr hdue]
      rfl
    have hheld : (setClaim .held s.zcu.mask s).zcu = { s.zcu with claim := .held } := by simp
    have hframe : (holdClaim s).peers = s.peers ∧ (holdClaim s).sck = s.sck ∧ (holdClaim s).dcc.queue = s.dcc.queue := by
      unfold holdClaim
      dsimp only
      split <;> simp
    obtain ⟨hpeers, hsck, hqueue⟩ := hframe
    have hstands : ClaimStands (setClaim .held s.zcu.mask s) (holdClaim s) := by
      rcases hstage with hstage | hstage
      · exact (holdClaim_of_claim hstage).stands
      · rw [holdClaim_of_fault hstage]
        exact checkFlag_stands _ _
    refine ⟨_, hexec, hstands.claim.trans (by rw [hheld]), hstands.mask.trans (by rw [hheld]),
      fun h => (holdClaim_of_claim h).stage, fun h => ?_, hpeers, hstands.inv.trans (by simp), hstands.acu.trans (by simp), hsck, hqueue⟩
    show (holdClaim s).dcc.stage = .fault
    rw [holdClaim_of_fault h]
    simpa using h
  · show execClaimWindowExpiry s = _
    have hdue : s.windowDue (some start) = false := by
      rw [Bool.eq_false_iff, ne_eq, windowDue_iff]
      omega
    simp only [execClaimWindowExpiry, hc, hdue]
    rfl
  · show execClaimWindowExpiry s = _
    unfold execClaimWindowExpiry
    split
    · rename_i window h
      cases window with
      | none => rfl
      | some start => exact absurd h (hc start)
    · rfl

/-! ### From IMMERSE, with the reservation ADMITTED (R30, R31, R179) -/

/-- The reservation, the inventory and the log stand as in `s`. -/
structure ResvStands (s u : State) : Prop where
  adm : u.adm = s.adm
  inv : u.inv = s.inv
  acu : u.acu = s.acu

theorem ResvStands.trans (h : ResvStands s t) (h' : ResvStands t u) : ResvStands s u :=
  ⟨h'.adm.trans h.adm, h'.inv.trans h.inv, h'.acu.trans h.acu⟩

/-- The Segment Executor has one of the phases from IMMERSE through WITHDRAW in hand, and the reservation stands. -/
structure InKettle (s u : State) : Prop where
  stands : ResvStands s u
  hand   : ∃ p, (p = .immerse ∨ p = .soak ∨ p = .withdraw) ∧ u.sgx.stage = some p ∧ u.dcc.stage = phaseStage p

/-- From IMMERSE through WITHDRAW still, or in the WEIGH_EXIT that follows it, the reservation standing (R31, R32). -/
def ImmersedFrom (s u : State) : Prop := InKettle s u ∨ (ResvStands s u ∧ u.dcc.stage = .weighExit)

theorem ImmersedFrom.stands (h : ImmersedFrom s u) : ResvStands s u := h.elim (·.stands) (·.1)

theorem ImmersedFrom.stage (h : ImmersedFrom s u) :
    u.dcc.stage = .immerse ∨ u.dcc.stage = .soak ∨ u.dcc.stage = .withdraw ∨ u.dcc.stage = .weighExit := by
  rcases h with ⟨-, p, hp, -, hst⟩ | ⟨-, hst⟩
  · rcases hp with rfl | rfl | rfl
    · exact .inl hst
    · exact .inr (.inl hst)
    · exact .inr (.inr (.inl hst))
  · exact .inr (.inr (.inr hst))

/-- A later phase in the kettle is handed over (R31). -/
theorem InKettle.handStage {q : Phase} (hs : ResvStands s u) (hq : q = .immerse ∨ q = .soak ∨ q = .withdraw) :
    InKettle s (handStage q u) := by
  have hne : q ≠ .approach := by
    rcases hq with rfl | rfl | rfl <;> nofun
  exact ⟨hs.trans ⟨by simp, by simp, by simp⟩, q, hq, by rw [(handStage_walk hne u).1], (handStage_inPhase hne u).stage⟩

theorem sgxRun_immersedFrom (n : Nat) (h : InKettle s u) : ImmersedFrom s (sgxRun n u) := by
  refine sgxRun_walk (P := InKettle s) (Q := ImmersedFrom s) (fun _ h => .inl h) (fun v f hf h => ?_) (fun v g k h => ?_)
    (fun v g h => ?_) (fun v p q hp hq h => ?_) (fun v p hp hq h => ?_) (fun v hst _ h => ?_) n h
  · obtain ⟨hs, p, hp, hh, hst⟩ := h
    exact ⟨hs.trans ⟨rfl, rfl, rfl⟩, p, hp, hf.trans hh, hst⟩
  · obtain ⟨hs, p, hp, hh, hst⟩ := h
    exact ⟨hs.trans ⟨rfl, rfl, rfl⟩, p, hp, hh, hst⟩
  · obtain ⟨hs, p, hp, hh, hst⟩ := h
    exact ⟨hs.trans ⟨by simp, by simp, by simp⟩, p, hp, (startSegment_hand v g).trans hh, by simpa using hst⟩
  · refine .handStage h.stands ?_
    rcases (phaseFollowing_iff p q).mp hq with ⟨-, rfl⟩ | ⟨-, rfl⟩
    · exact .inr (.inl rfl)
    · exact .inr (.inr rfl)
  · obtain ⟨hs, p', hp', hh, hst⟩ := h
    rw [hh] at hp
    cases hp
    rcases hp' with rfl | rfl | rfl
    · cases hq
    · cases hq
    · refine .inr ⟨hs.trans ⟨?_, ?_, ?_⟩, ?_⟩
      · simp [leavePhase]
      · simp [leavePhase]
      · simp [leavePhase]
      · rw [leavePhase, enterWeighExit_dcc]
  · obtain ⟨-, p, hp, -, hst'⟩ := h
    rw [hst] at hst'
    rcases hp with rfl | rfl | rfl <;> cases hst'

/-- Settles O49: ADMITTED, then IMMERSE and the walk from it; or withdrawn. -/
theorem admissionWindowExpiryAdmits : Obligations.AdmissionWindowExpiryAdmits := by
  refine ⟨fun s start hr hdue hstage => ?_, fun s start hr hearly => ?_, fun s hr => ?_⟩
  · have hexec : exec .admissionWindowExpiry s = .next (drivePins (admitResv s)) := by
      show execAdmissionWindowExpiry s = _
      simp only [execAdmissionWindowExpiry, hr, (windowDue_iff start s).mpr hdue]
      rfl
    have hframe : (admitResv s).peers = s.peers ∧ (admitResv s).sck = s.sck ∧ (admitResv s).dcc.queue = s.dcc.queue := by
      unfold admitResv
      dsimp only
      repeat' split
      all_goals simp
    obtain ⟨hpeers, hsck, hqueue⟩ := hframe
    have hadmitting : ∀ {r}, (setResv r s).dcc.stage = s.dcc.stage := by simp
    cases hfits : s.committedFits with
    | true =>
      have hfull : (setResv .admitted s).adm = { s.adm with resv := .admitted } := by simp
      have heq : admitResv s = if (setResv .admitted s).dcc.stage = .admitting then enterMotion .immerse (setResv .admitted s)
          else setResv .admitted s := by
        rw [admitResv, hfits]
        rfl
      rcases hstage with hstage | hstage
      · rw [if_pos (hadmitting.trans hstage)] at heq
        have h : ImmersedFrom (setResv .admitted s) (admitResv s) := by
          rw [heq]
          exact sgxRun_immersedFrom sgxFuel (.handStage ⟨rfl, rfl, rfl⟩ (.inl rfl))
        refine ⟨_, hexec, fun _ => ?_, fun _ _ => h.stage, nofun, fun hf => (by rw [hstage] at hf; cases hf), ?_, hpeers,
          h.stands.inv.trans (by simp), h.stands.acu.trans (by simp), hsck, hqueue⟩
        · exact (congrArg Adm.resv (h.stands.adm.trans hfull) :)
        · exact (congrArg Adm.full (h.stands.adm.trans hfull) :)
      · rw [if_neg (by rw [hadmitting, hstage]; nofun)] at heq
        rw [heq] at hexec
        exact ⟨_, hexec, fun _ => (congrArg Adm.resv hfull :), fun _ hf => (by rw [hstage] at hf; cases hf), nofun,
          fun _ => hadmitting.trans hstage, (congrArg Adm.full hfull :), by simp, by simp, by simp, by simp, by simp⟩
    | false =>
      have heq : admitResv s = setResv (.waiting s.withdrawReason) s := by
        rw [admitResv, hfits]
        rfl
      rw [heq] at hexec
      have hfull : (setResv (.waiting s.withdrawReason) s).adm = { s.adm with resv := .waiting s.withdrawReason } := by simp
      exact ⟨_, hexec, nofun, nofun, fun _ => ⟨_, (congrArg Adm.resv hfull :)⟩, fun hf => hadmitting.trans hf,
        (congrArg Adm.full hfull :), by simp, by simp, by simp, by simp, by simp⟩
  · show execAdmissionWindowExpiry s = _
    have hdue : s.windowDue (some start) = false := by
      rw [Bool.eq_false_iff, ne_eq, windowDue_iff]
      omega
    simp only [execAdmissionWindowExpiry, hr, hdue]
    rfl
  · show execAdmissionWindowExpiry s = _
    unfold execAdmissionWindowExpiry
    split
    · rename_i window h
      cases window with
      | none => rfl
      | some start => exact absurd h (hr start)
    · rfl

end Sys2Proof.Machine
end

section
/-! SUPPORT. What a table change leaves on its way through the blocks (R141): the sums, the level and the table that the tests
read, a STATE request raised, the events but its own, the dip but for hold time and clamps; and what each operation makes of the
hold and of the hold time. -/

namespace Sys2Proof.Machine

variable {s t u : State}

/-! ### The STATE request (R124, R126) -/

/-- The STATE request stands. -/
def State.requested (s : State) : Prop := s.kli.stateRequest.isSome = true

theorem raiseState_requested (h : s.online = true) : (raiseState s).requested := by
  rw [State.requested, raiseState, if_pos h]
  rfl

theorem requested_of_kli (hk : t.kli = s.kli) (h : s.requested) : t.requested := by
  rw [State.requested, hk]
  exact h

theorem requested_raiseState (h : s.requested) : (raiseState s).requested := by
  unfold raiseState
  split
  · rfl
  · exact h

theorem requested_waitHold (r : HoldReason) (h : s.requested) : (waitHold r s).requested := by
  unfold waitHold
  split
  · exact h
  · exact requested_raiseState (requested_of_kli (s := s) rfl h)

theorem requested_endHold (h : s.requested) : (endHold s).requested := by
  unfold endHold
  split
  · exact h
  · exact requested_raiseState (requested_of_kli (s := s) rfl h)

theorem requested_reportResv (h : s.requested) : (reportResv s).requested := by
  unfold reportResv
  repeat' split
  · exact requested_waitHold _ h
  · exact requested_endHold h
  · exact h

theorem requested_reportClaim (h : s.requested) : (reportClaim s).requested := by
  unfold reportClaim
  repeat' split
  · exact requested_waitHold _ h
  · exact requested_endHold h
  · exact h

/-- A change of the announced reservation raises the STATE request (R173). -/
theorem setResv_requested (r : ResvState) (h : s.online = true) (hr : r.status ≠ s.adm.resv.status) :
    (setResv r s).requested := by
  refine requested_reportResv ?_
  rw [raiseStateIf, if_pos (decide_eq_true hr)]
  exact raiseState_requested h

/-- A change of the announced claim raises the STATE request (R161). -/
theorem setClaim_requested (c : ClaimState) (m : Mask) (h : s.online = true) (hc : c.status ≠ s.zcu.claim.status) :
    (setClaim c m s).requested := by
  refine requested_reportClaim ?_
  rw [raiseStateIf, if_pos (decide_eq_true hc)]
  exact raiseState_requested h

/-! ### What every part of a table change keeps -/

/-- The surface without own is that of the table and the level as they stand (R11, R181). -/
def State.fresh (s : State) : Prop := s.adm.without = s.surfaceWithout

/-- What the tests read beside the gate, and the registers that a table change does not touch. -/
structure Kept (s t : State) : Prop where
  level   : t.inv.level = s.inv.level
  peers   : t.peers = s.peers
  cfs     : t.cfs = s.cfs
  line    : t.kli.lineLost = s.kli.lineLost
  mode    : t.cpt.mode = s.cpt.mode
  full    : t.adm.full = s.adm.full
  acu     : t.acu = s.acu
  queue   : t.dcc.queue = s.dcc.queue
  job     : t.job = s.job
  fresh   : s.fresh → t.fresh
  request : s.requested → t.requested

theorem Kept.refl (s : State) : Kept s s := ⟨rfl, rfl, rfl, rfl, rfl, rfl, rfl, rfl, rfl, id, id⟩

theorem Kept.trans (h : Kept s t) (h' : Kept t u) : Kept s u where
  level := h'.level.trans h.level
  peers := h'.peers.trans h.peers
  cfs := h'.cfs.trans h.cfs
  line := h'.line.trans h.line
  mode := h'.mode.trans h.mode
  full := h'.full.trans h.full
  acu := h'.acu.trans h.acu
  queue := h'.queue.trans h.queue
  job := h'.job.trans h.job
  fresh := h'.fresh ∘ h.fresh
  request := h'.request ∘ h.request

theorem surfaceWithout_congr (hl : t.inv.level = s.inv.level) (hc : t.cfs = s.cfs) (hp : t.peers = s.peers) :
    t.surfaceWithout = s.surfaceWithout := by
  rw [State.surfaceWithout, hl, heardOthers_congr hc hp]
  rfl

theorem fresh_of_without (hl : t.inv.level = s.inv.level) (hc : t.cfs = s.cfs) (hp : t.peers = s.peers)
    (hw : t.adm.without = s.adm.without) : s.fresh → t.fresh := fun h => by
  rw [State.fresh, hw, surfaceWithout_congr hl hc hp]
  exact h

/-- A part of a table change that raises no event of its own and leaves the dip but for hold time and clamps. -/
structure Quiet (s t : State) : Prop extends Kept s t where
  event : t.pendingEvent .zoneConflict = s.pendingEvent .zoneConflict
  dip   : t.unclamped = s.unclamped

theorem Quiet.refl (s : State) : Quiet s s := ⟨.refl s, rfl, rfl⟩

theorem Quiet.trans (h : Quiet s t) (h' : Quiet t u) : Quiet s u :=
  ⟨h.toKept.trans h'.toKept, h'.event.trans h.event, h'.dip.trans h.dip⟩

/-- What leaves the dip, the log, the table, the requests and the figures that the tests read is quiet. -/
theorem Quiet.of_blocks (hl : t.inv.level = s.inv.level) (hp : t.peers = s.peers) (hc : t.cfs = s.cfs) (hk : t.kli = s.kli)
    (hm : t.cpt.mode = s.cpt.mode) (hf : t.adm.full = s.adm.full) (hw : t.adm.without = s.adm.without) (ha : t.acu = s.acu)
    (hd : t.dcc = s.dcc) (he : t.pendingEvent .zoneConflict = s.pendingEvent .zoneConflict) : Quiet s t where
  level := hl
  peers := hp
  cfs := hc
  line := by rw [hk]
  mode := hm
  full := hf
  acu := ha
  queue := by rw [hd]
  job := by rw [State.job, hd]; rfl
  fresh := fresh_of_without hl hc hp hw
  request := requested_of_kli hk
  event := he
  dip := unclamped_congr hd

theorem Quiet.onZcu (f : Zcu → Zcu) (s : State) : Quiet s (s.onZcu f) := .of_blocks rfl rfl rfl rfl rfl rfl rfl rfl rfl rfl
theorem Quiet.onSgx (f : Sgx → Sgx) (s : State) : Quiet s (s.onSgx f) := .of_blocks rfl rfl rfl rfl rfl rfl rfl rfl rfl rfl
theorem Quiet.nextFree (s : State) : Quiet s s.nextFree := .of_blocks rfl rfl rfl rfl rfl rfl rfl rfl rfl rfl
theorem Quiet.drivePins (s : State) : Quiet s (drivePins s) := .of_blocks rfl rfl rfl rfl rfl rfl rfl rfl rfl rfl

theorem Quiet.takeCall (g : Segment) (k : Nat) (s : State) : Quiet s (takeCall g k s) :=
  .of_blocks rfl rfl rfl rfl rfl rfl rfl rfl rfl rfl

theorem Quiet.respond (code : ResultCode) (data : List Byte) (s : State) : Quiet s (respond code data s) :=
  .of_blocks rfl rfl rfl rfl rfl rfl rfl rfl rfl rfl

theorem Quiet.onGate (b : Bool) (s : State) : Quiet s (s.onAdm fun a => { a with gateClosed := b }) :=
  .of_blocks rfl rfl rfl rfl rfl rfl rfl rfl rfl rfl

theorem Quiet.raiseEvent {e : Event} (h : e.bit &&& Event.zoneConflict.bit = 0) (s : State) : Quiet s (raiseEvent e s) :=
  .of_blocks rfl rfl rfl rfl rfl rfl rfl rfl rfl (raiseEvent_pendingEvent_of_apart s h)

theorem Quiet.refreshSurface (s : State) : Quiet s (refreshSurface s) :=
  ⟨{ Kept.refl s with fresh := fun _ => rfl }, rfl, rfl⟩

theorem Quiet.raiseState (s : State) : Quiet s (raiseState s) where
  level := by simp
  peers := by simp
  cfs := by simp
  line := by simp
  mode := by simp
  full := by simp
  acu := by simp
  queue := by simp
  job := by simp [State.job]
  fresh := fresh_of_without (by simp) (by simp) (by simp) (by simp)
  request := requested_raiseState
  event := raiseState_pendingEvent s _
  dip := unclamped_of_unheld (by simp)

theorem Quiet.raiseStateIf (c : Bool) (s : State) : Quiet s (raiseStateIf c s) := by
  unfold Machine.raiseStateIf
  split
  · exact .raiseState s
  · exact .refl s

theorem Quiet.lowTest (s : State) : Quiet s (lowTest s) := by
  unfold Machine.lowTest
  dsimp only
  have hlow : Quiet s (s.onInv fun v => { v with low := isLow s.settings.minLevel s.inv.level }) :=
    .of_blocks rfl rfl rfl rfl rfl rfl rfl rfl rfl rfl
  split
  · exact hlow.trans (.raiseEvent (by decide) _)
  · exact hlow

theorem Quiet.waitHold (r : HoldReason) (s : State) : Quiet s (waitHold r s) where
  level := by simp
  peers := by simp
  cfs := by simp
  line := by simp
  mode := by simp
  full := by simp
  acu := by simp
  queue := by simp
  job := by simp [State.job]
  fresh := fresh_of_without (by simp) (by simp) (by simp) (by simp)
  request := requested_waitHold r
  event := by
    unfold Machine.waitHold
    split
    · rfl
    · exact (raiseState_pendingEvent _ _).trans (raiseEvent_pendingEvent_of_apart _ (by decide))
  dip := unclamped_of_unheld (by simp)

theorem Quiet.endHold (s : State) : Quiet s (endHold s) where
  level := by simp
  peers := by simp
  cfs := by simp
  line := by simp
  mode := by simp
  full := by simp
  acu := by simp
  queue := by simp
  job := by simp [State.job]
  fresh := fresh_of_without (by simp) (by simp) (by simp) (by simp)
  request := requested_endHold
  event := pendingEvent_congr (by simp) _
  dip := unclamped_of_unheld (by simp)

theorem Quiet.setStage (st : Stage) (s : State) : Quiet s (setStage st s) where
  level := by simp
  peers := by simp
  cfs := by simp
  line := by simp
  mode := by simp
  full := by simp
  acu := by simp
  queue := by simp
  job := by simp [State.job]
  fresh := fresh_of_without (by simp) (by simp) (by simp) (by simp)
  request := fun h => requested_raiseState (requested_of_kli (s := s) rfl h)
  event := setStage_pendingEvent st s _
  dip := unclamped_of_unheld (by simp)

theorem Quiet.startSegment (g : Segment) (s : State) : Quiet s (startSegment g s) where
  level := by simp
  peers := by simp
  cfs := by simp
  line := by simp
  mode := by simp
  full := by simp
  acu := by simp
  queue := by simp
  job := by simp [State.job]
  fresh := fresh_of_without (by simp) (by simp) (by simp) (by simp)
  request := requested_of_kli (by simp)
  event := pendingEvent_congr (by simp) _
  dip := by simp

theorem Quiet.reportResv (s : State) : Quiet s (reportResv s) := by
  unfold Machine.reportResv
  repeat' split
  · exact .waitHold _ s
  · exact .endHold s
  · exact .refl s

theorem Quiet.reportClaim (s : State) : Quiet s (reportClaim s) := by
  unfold Machine.reportClaim
  repeat' split
  · exact .waitHold _ s
  · exact .endHold s
  · exact .refl s

theorem Quiet.setResv (r : ResvState) (s : State) : Quiet s (setResv r s) := by
  have hset : Quiet s (s.onAdm fun a => { a with resv := r }) := .of_blocks rfl rfl rfl rfl rfl rfl rfl rfl rfl rfl
  exact hset.trans (.trans (.raiseStateIf _ _) (.reportResv _))

theorem Quiet.setClaim (c : ClaimState) (m : Mask) (s : State) : Quiet s (setClaim c m s) :=
  .trans (.onZcu _ s) (.trans (.raiseStateIf _ _) (.reportClaim _))

theorem Quiet.testResv (s : State) : Quiet s (testResv s) := by
  unfold Machine.testResv
  split <;> exact .setResv _ s

theorem Quiet.reviewResv (s : State) : Quiet s (reviewResv s) := by
  unfold Machine.reviewResv
  repeat' split
  · exact .refl s
  · exact .testResv s
  · exact .refl s
  · exact .setResv _ s
  · exact .refl s

theorem Quiet.closeGate (s : State) : Quiet s (closeGate s) := by
  refine .trans (.onGate true s) ?_
  unfold Machine.closeGate
  dsimp only
  repeat' split
  · exact .refl _
  · exact .testResv _
  · exact .setResv _ _
  · exact .refl _

theorem Quiet.openGate (s : State) : Quiet s (openGate s) := by
  refine .trans (.onGate false s) ?_
  unfold Machine.openGate
  dsimp only
  repeat' split
  · exact .refl _
  · exact .testResv _
  · exact .refl _

theorem Quiet.enterAdmit (s : State) : Quiet s (enterAdmit s) := .trans (.setStage _ s) (.testResv _)

theorem Quiet.testClaim (s : State) : Quiet s (testClaim s) := by
  unfold Machine.testClaim
  split <;> exact .setClaim _ _ s

theorem Quiet.reviewPending (i : StationIx) (s : State) : Quiet s (reviewPending i s) := by
  unfold Machine.reviewPending
  dsimp only
  repeat' split
  · exact .setClaim _ _ s
  · exact .setClaim _ _ s
  · exact .raiseState s
  · exact .refl s
  · exact .refl s

theorem Quiet.beginYield (s : State) : Quiet s (beginYield s) := by
  have hgate : Quiet s (Machine.closeGate (s.onZcu fun z => { z with yielding := true })) := .trans (.onZcu _ s) (.closeGate _)
  unfold Machine.beginYield
  dsimp only
  split
  · exact hgate.trans (.waitHold _ _)
  · exact hgate

/-! ### The hold and the hold time (R35, R36, R104) -/

/-- The hold in effect and the hold time of the active dip. -/
def State.holds (s : State) : Option Hold × Option Nat := (s.dcc.hold, s.dcc.active.map (·.holdTime))

/-- A hold with a reason: begun, or the one in effect with that reason (R35, R36). -/
def waiting (r : HoldReason) (hold : Option Hold) : Hold :=
  match hold with
  | some h => { h with reason := r }
  | none => { reason := r, elapsed := 0, longRaised := false }

theorem waiting_reason (r : HoldReason) (hold : Option Hold) : (waiting r hold).reason = r := by
  cases hold <;> rfl

theorem holds_congr (h : t.dcc = s.dcc) : t.holds = s.holds := by
  rw [State.holds, h]
  rfl

theorem waitHold_holds (r : HoldReason) (s : State) :
    (waitHold r s).holds = (some (waiting r s.dcc.hold), s.dcc.active.map (·.holdTime)) := by
  unfold waitHold
  split
  · rename_i h hh
    rw [hh]
    rfl
  · rename_i hh
    rw [hh, State.holds]
    simp [waiting]

theorem endHold_holds (s : State) :
    (endHold s).holds = (none, s.dcc.active.map fun d => holdTimeAfter s.dcc.hold d) := by
  rw [State.holds, endHold_dcc, Option.map_map]
  rfl

/-- In ADMIT a WAITING reservation is a hold with its reason (R30, R35). -/
theorem setResv_waiting_holds (r : ResvReason) (h : s.dcc.stage = .admitting) :
    (setResv (.waiting r) s).holds = (some (waiting r.hold s.dcc.hold), s.dcc.active.map (·.holdTime)) := by
  unfold setResv
  generalize hv : raiseStateIf _ (s.onAdm fun a => { a with resv := .waiting r }) = v
  have hdcc : v.dcc = s.dcc := by simp [← hv]
  have hresv : v.adm.resv = .waiting r := by simp [← hv]
  rw [reportResv, if_pos (by rw [hdcc, h]), hresv, ← hdcc]
  exact waitHold_holds _ v

/-- In ADMIT a reservation that no longer waits ends the hold (R30, R36). -/
theorem setResv_pending_holds (w : Option Word) (h : s.dcc.stage = .admitting) :
    (setResv (.pending w) s).holds = (none, s.dcc.active.map fun d => holdTimeAfter s.dcc.hold d) := by
  unfold setResv
  generalize hv : raiseStateIf _ (s.onAdm fun a => { a with resv := .pending w }) = v
  have hdcc : v.dcc = s.dcc := by simp [← hv]
  have hresv : v.adm.resv = .pending w := by simp [← hv]
  rw [reportResv, if_pos (by rw [hdcc, h]), hresv, ← hdcc]
  exact endHold_holds v

theorem setResv_fields (r : ResvState) (s : State) :
    (setResv r s).adm = { s.adm with resv := r } ∧ (setResv r s).dcc.stage = s.dcc.stage ∧ (setResv r s).zcu = s.zcu
      ∧ (setResv r s).sgx = s.sgx := by
  simp

/-- In CLAIM a WAITING claim is a hold with its reason (R28, R35). -/
theorem setClaim_waiting_holds (r : ClaimReason) (m : Mask) (h : s.dcc.stage = .claim) :
    (setClaim (.waiting r) m s).holds = (some (waiting r.hold s.dcc.hold), s.dcc.active.map (·.holdTime)) := by
  unfold setClaim
  generalize hv : raiseStateIf _ (s.onZcu fun z => { z with claim := .waiting r, mask := m }) = v
  have hdcc : v.dcc = s.dcc := by simp [← hv]
  have hclaim : v.zcu.claim = .waiting r := by simp [← hv]
  rw [reportClaim, if_pos (by rw [hdcc, h]), hclaim, ← hdcc]
  exact waitHold_holds _ v

/-- In CLAIM a claim that no longer waits ends the hold (R28, R36). -/
theorem setClaim_pending_holds (w : Option Word) (m : Mask) (h : s.dcc.stage = .claim) :
    (setClaim (.pending w) m s).holds = (none, s.dcc.active.map fun d => holdTimeAfter s.dcc.hold d) := by
  unfold setClaim
  generalize hv : raiseStateIf _ (s.onZcu fun z => { z with claim := .pending w, mask := m }) = v
  have hdcc : v.dcc = s.dcc := by simp [← hv]
  have hclaim : v.zcu.claim = .pending w := by simp [← hv]
  rw [reportClaim, if_pos (by rw [hdcc, h]), hclaim, ← hdcc]
  exact endHold_holds v

/-! ### The admission test and the committed sum (R16, R17, R174) -/

theorem Kept.committedFits (h : Kept s t) : t.committedFits = s.committedFits := by
  have hothers : t.committedByOthers = s.committedByOthers := by
    rw [State.committedByOthers, State.others, h.peers, own_congr h.cfs]
    rfl
  rw [State.committedFits, State.committedSum, h.level, hothers, h.full, State.settings, h.cfs]
  rfl

theorem Kept.online (h : Kept s t) : t.online = s.online := by
  rw [State.online, h.mode]
  rfl

/-- The test but for the gate (R174). -/
def State.testOpen (s : State) : Option ResvReason :=
  if s.lineLost then some .line
  else if isLow s.settings.minLevel s.inv.level then some .lowZinc
  else if s.settings.overflowLimit < s.admissionSum then some .level
  else none

theorem admissionTest_eq (s : State) :
    s.admissionTest = s.testOpen.or (if s.adm.gateClosed then some .conflict else none) := by
  unfold State.admissionTest State.testOpen
  repeat' split
  all_goals rfl

theorem Kept.testOpen (h : Kept s t) : t.testOpen = s.testOpen := by
  have hothers : t.reservedByOthers = s.reservedByOthers := by
    rw [State.reservedByOthers, heardOthers_congr h.cfs h.peers]
    rfl
  rw [State.testOpen, State.lineLost, h.line, State.settings, h.cfs, h.level, State.admissionSum, h.level, hothers, h.full]
  rfl

theorem Kept.admissionTest (h : Kept s t) (hg : t.adm.gateClosed = s.adm.gateClosed) : t.admissionTest = s.admissionTest := by
  rw [admissionTest_eq, admissionTest_eq, h.testOpen, hg]

theorem admissionTest_of_closed (h : s.adm.gateClosed = true) : s.admissionTest ≠ none := by
  rw [admissionTest_eq, h, if_pos rfl]
  cases s.testOpen <;> nofun

/-- A peer that counts against the committed sum is heard, so the committed sum is within the admission sum (R16, R17). -/
theorem committedByOthers_le (s : State) : s.committedByOthers ≤ s.reservedByOthers := by
  unfold State.committedByOthers State.reservedByOthers State.heardOthers
  refine List.Sublist.sum_le_sum ?_ (fun _ _ => Nat.zero_le _)
  refine (List.monotone_filter_right _ fun p hp => ?_).map _
  have hpresence : p.2.presence ≠ .absent := fun ha => by
    rw [committedAgainst, ha] at hp
    cases hp
  exact decide_eq_true hpresence

theorem committedFits_of_test (h : s.admissionTest = none) : s.committedFits = true := by
  have hsum : s.admissionSum ≤ s.settings.overflowLimit := by
    rw [admissionTest_eq, Option.or_eq_none_iff] at h
    by_contra hn
    have hopen := h.1
    unfold State.testOpen at hopen
    split at hopen
    · cases hopen
    · split at hopen
      · cases hopen
      · rw [if_pos (Nat.not_le.mp hn)] at hopen
        cases hopen
  have hle := committedByOthers_le s
  exact decide_eq_true (by unfold State.committedSum; unfold State.admissionSum at hsum; omega)

end Sys2Proof.Machine
end

section
/-! PROOF. A table change at the own claim (O51): the arrivals as their parts, the walk from the end of a yield, and the conflict
check. -/

namespace Sys2Proof.Machine

variable {s t u : State}

/-! ### Beside the claim, the reservation and the dip -/

/-- A quiet part of a table change that leaves the claim, the reservation, the gate, the dip and its segments. -/
structure Aside (s t : State) : Prop extends Quiet s t where
  resv : t.adm.resv = s.adm.resv
  gate : t.adm.gateClosed = s.adm.gateClosed
  dcc  : t.dcc = s.dcc
  zcu  : t.zcu = s.zcu
  sgx  : t.sgx = s.sgx

theorem Aside.refl (s : State) : Aside s s := ⟨.refl s, rfl, rfl, rfl, rfl, rfl⟩

theorem Aside.trans (h : Aside s t) (h' : Aside t u) : Aside s u :=
  ⟨h.toQuiet.trans h'.toQuiet, h'.resv.trans h.resv, h'.gate.trans h.gate, h'.dcc.trans h.dcc, h'.zcu.trans h.zcu,
    h'.sgx.trans h.sgx⟩

theorem Aside.nextFree (s : State) : Aside s s.nextFree := ⟨.nextFree s, rfl, rfl, rfl, rfl, rfl⟩
theorem Aside.refreshSurface (s : State) : Aside s (refreshSurface s) := ⟨.refreshSurface s, rfl, rfl, rfl, rfl, rfl⟩
theorem Aside.drivePins (s : State) : Aside s (drivePins s) := ⟨.drivePins s, rfl, rfl, rfl, rfl, rfl⟩

theorem Aside.respond (code : ResultCode) (data : List Byte) (s : State) : Aside s (respond code data s) :=
  ⟨.respond code data s, rfl, rfl, rfl, rfl, rfl⟩

theorem Aside.raiseEvent {e : Event} (h : e.bit &&& Event.zoneConflict.bit = 0) (s : State) : Aside s (raiseEvent e s) :=
  ⟨.raiseEvent h s, rfl, rfl, rfl, rfl, rfl⟩

theorem Aside.raiseState (s : State) : Aside s (raiseState s) :=
  ⟨.raiseState s, by simp, by simp, by simp, by simp, by simp⟩

theorem Aside.raiseStateIf (c : Bool) (s : State) : Aside s (raiseStateIf c s) :=
  ⟨.raiseStateIf c s, by simp, by simp, by simp, by simp, by simp⟩

theorem Aside.lowTest (s : State) : Aside s (lowTest s) :=
  ⟨.lowTest s, by simp, by simp, by simp, by simp, by simp⟩

theorem Aside.holds (h : Aside s t) : t.holds = s.holds := holds_congr h.dcc

/-! ### The arrivals that change the table, as their parts (R136, R138, R139, R141, R148) -/

/-- The table changed, and with it perhaps the inventory: what an arrival does before any other block acts. -/
structure TableSet (s b : State) : Prop where
  cfs   : b.cfs = s.cfs
  mode  : b.cpt.mode = s.cpt.mode
  kli   : b.kli = s.kli
  adm   : b.adm = s.adm
  dcc   : b.dcc = s.dcc
  zcu   : b.zcu = s.zcu
  sgx   : b.sgx = s.sgx
  acu   : b.acu = s.acu
  event : b.pendingEvent .zoneConflict = s.pendingEvent .zoneConflict

/-- The parts of a table change: the table set, the review of the reservation where the level moved with it, the claim unit, the
review of the reservation, and nothing that matters between and after them (R141, R148; log 23). -/
structure TableParts (stored : Option StationIx) (s b r x w t : State) : Prop where
  set    : TableSet s b
  level  : r = b ∨ r = reviewResv (refreshSurface b)
  before : Aside r x
  claim  : Aside (zcuTableChange stored x) w
  fresh  : Kept x (zcuTableChange stored x) → w.fresh
  after  : Aside (reviewResv w) t

theorem tableChange_parts {b r u : State} (stored : Option StationIx) (hset : TableSet s b)
    (hlevel : r = b ∨ r = reviewResv (refreshSurface b)) (hu : Aside r u) (ht : Aside (tableChange stored u) t) :
    ∃ x w, TableParts stored s b r x w t := by
  unfold tableChange tableChangeWith at ht
  split at ht
  · have hx : Aside r (refreshSurface u.nextFree) := hu.trans (.trans (.nextFree u) (.refreshSurface _))
    exact ⟨_, _, hset, hlevel, hx, .refl _, fun hk => hk.fresh rfl, ht⟩
  · exact ⟨_, _, hset, hlevel, hu.trans (.nextFree u), .refreshSurface _, fun _ => rfl, ht⟩

/-- A valid STATE at the INV: the change of the inventory, the review where the level moved, the low test and the request (R148,
R152, R154, R157). -/
theorem invPeerState_parts (first : Bool) (new last : Announced) (s : State) :
    ∃ b r, TableSet s b ∧ b.peers = s.peers ∧ (r = b ∨ r = reviewResv (refreshSurface b)) ∧ Aside r (invPeerState first new last s) := by
  have harrive : ∀ f : Inv → Inv, ∃ b r, TableSet s b ∧ b.peers = s.peers ∧ (r = b ∨ r = reviewResv (refreshSurface b))
      ∧ Aside r (invArrive f s) := fun f => by
    let b := s.onInv fun v => (f v).relevel s.settings.area
    have hset : TableSet s b := ⟨rfl, rfl, rfl, rfl, rfl, rfl, rfl, rfl, rfl⟩
    unfold invArrive
    dsimp only
    split
    · exact ⟨b, b, hset, rfl, .inl rfl, .trans (.lowTest b) (.raiseStateIf _ _)⟩
    · exact ⟨b, _, hset, rfl, .inr rfl, .trans (.lowTest _) (.raiseStateIf _ _)⟩
  unfold invPeerState
  split
  · obtain ⟨b, r, hset, hpeers, hr, hu⟩ := harrive fun v => (v.shift (netMovement first new last)).adopt new
    exact ⟨b, r, hset, hpeers, hr, hu.trans (.raiseEvent (by decide) _)⟩
  · exact harrive _

/-- A STATE heard, a LEAVE heard, an entry grown old and a FORGET_PEER, as their parts. -/
theorem tableArrival_parts {c : Instr} {stored : Option StationIx} (h : TableArrival s c stored) :
    ∃ t b r x w, exec c s = .next t ∧ TableParts stored s b r x w t := by
  obtain ⟨honline, i, hi, h⟩ := h
  have hset : ∀ e, TableSet s (s.setPeer i e) := fun e => ⟨rfl, rfl, rfl, rfl, rfl, rfl, rfl, rfl, rfl⟩
  have hnotice : ∀ bytes, s.kli.hunting = false → s.kli.attempt = none →
      exec (.noticeEnd bytes false) s = .next (drivePins (receiveNotice bytes false s)) := fun bytes hh ha => by
    show Host.Outcome.next (drivePins (endNotice bytes false s)) = _
    simp only [endNotice, hh, ha]
    rfl
  rcases h with ⟨bytes, a, rfl, hh, ha, hcheck, rfl⟩ | ⟨bytes, rfl, hh, ha, hcheck, hp, rfl⟩ | ⟨rfl, hp, hage, rfl⟩
    | ⟨tail, args, rfl, hopen, hlen, harg, hp, rfl⟩
  · have hreceive : receiveNotice bytes false s = storeState i a s := by
      simp only [receiveNotice, honline, if_true, hcheck, if_neg hi]
    let v := s.setPeer i ((s.peers.get i).store s.settings.zoneCount s.sck a)
    obtain ⟨b, r, hb, hpeers, hr, hu⟩ := invPeerState_parts (decide ((s.peers.get i).presence = .absent)) a (s.peers.get i).heard v
    have hsb : TableSet s b := ⟨hb.cfs, hb.mode, hb.kli, hb.adm, hb.dcc, hb.zcu, hb.sgx, hb.acu, hb.event⟩
    have ht : Aside (tableChange (some i) (invPeerState (decide ((s.peers.get i).presence = .absent)) a (s.peers.get i).heard v))
        (drivePins (storeState i a s)) := by
      unfold storeState
      dsimp only
      split
      · exact .trans (.raiseEvent (by decide) _) (.drivePins _)
      · exact .drivePins _
    obtain ⟨x, w, hparts⟩ := tableChange_parts (some i) hsb hr hu ht
    exact ⟨_, b, r, x, w, by rw [hnotice bytes hh ha, hreceive], hparts⟩
  · have hreceive : receiveNotice bytes false s = dropPeer i s := by
      simp only [receiveNotice, honline, if_true, hcheck, if_neg hi, storeLeave, if_neg hp]
    obtain ⟨x, w, hparts⟩ := tableChange_parts none (hset PeerEntry.empty) (.inl rfl) (.refl _) (.drivePins _)
    exact ⟨_, _, _, x, w, by rw [hnotice bytes hh ha, hreceive]; rfl, hparts⟩
  · obtain ⟨x, w, hparts⟩ := tableChange_parts none (hset { s.peers.get i with presence := .stale }) (.inl rfl)
      (.raiseEvent (e := .peerStale) (by decide) _) (.drivePins _)
    refine ⟨_, _, _, x, w, ?_, hparts⟩
    have haged : s.aged i = true := by
      rw [State.aged, honline, Bool.true_and, decide_eq_true_eq]
      exact ⟨hi, hp, hage⟩
    exact if_pos haged
  · obtain ⟨x, w, hparts⟩ := tableChange_parts none (hset PeerEntry.empty) (.inl rfl) (.refl _)
      (.trans (.respond .ok [] _) (.drivePins _))
    refine ⟨_, _, _, x, w, ?_, hparts⟩
    have hstation : stationArg args = some i := by
      have hix : stationIxOf (i.val + 1) = i := Fin.ext (Nat.mod_eq_of_lt i.isLt)
      rw [stationArg, beField_all args 1 hlen, harg, if_pos (by omega), hix]
    show execForgetPeer tail s = _
    rw [execForgetPeer, takeFrame_of_open s hopen, listenReady_inMode, if_pos honline, withArgs_eq, if_pos hlen, hstation]
    dsimp only
    rw [hp]
    rfl

/-! ### The walk from the end of a yield (R37, R169) -/

theorem noteClamps_holds (depth speed : Bool) (s : State) : (noteClamps depth speed s).holds = s.holds := by
  show (s.dcc.hold, (s.dcc.active.map _).map _) = _
  rw [Option.map_map]
  rfl

/-- The start of a segment is no hold. -/
theorem startSegment_holds (g : Segment) (s : State) : (startSegment g s).holds = s.holds := by
  have hleg : ∀ (r : Running) (v : State), (startMotion (startLeg r v)).holds = v.holds := fun r v => holds_congr (by simp)
  have hdrop : ∀ v : State, (dropSegment v).holds = v.holds := fun _ => rfl
  have hrepeats : ∀ (v : State) (n : Nat), (v.onSgx fun x => { x with repeats := n }).holds = v.holds := fun _ _ => rfl
  unfold startSegment
  generalize hv : (applyMarkers g s).onSgx (fun x => { x with cursor := Cursor.ofNext g.next }) = v
  have hstart : v.holds = s.holds := by rw [← hv]; rfl
  rw [← hstart]
  cases g.work with
  | move r target speed =>
    unfold startWork startMove
    dsimp only
    split <;> simp only [hdrop, hleg, noteClamps_holds]
  | dwell time => exact holds_congr (by simp [startWork])
  | shake r target speed amplitude count =>
    unfold startWork startShake
    dsimp only
    repeat' split
    all_goals simp only [hdrop, hleg, hrepeats, noteClamps_holds]
  | waitInput input edge time => exact holds_congr (by simp [startWork])
  | call target => rfl

/-- The Segment Executor goes on in APPROACH with nothing else moving. -/
structure GoesOn (s u : State) : Prop extends Quiet s u where
  zcu   : u.zcu = s.zcu
  adm   : u.adm = s.adm
  holds : u.holds = s.holds
  stage : u.dcc.stage = .approach
  hand  : ∀ p, u.sgx.stage = some p → p = .approach

theorem GoesOn.onSgx (h : GoesOn s u) (f : Sgx → Sgx) (hf : (f u.sgx).stage = u.sgx.stage) : GoesOn s (u.onSgx f) :=
  ⟨h.toQuiet.trans (.onSgx f u), h.zcu, h.adm, h.holds, h.stage, fun p hp => h.hand p (hf.symm.trans hp)⟩

/-- Without a yield the walk from APPROACH stays in APPROACH, or passes into ADMIT as its last step (R26, R30). -/
theorem sgxRun_goesOn (n : Nat) (h : GoesOn s u) (hy : s.zcu.yielding = false) :
    GoesOn s (sgxRun n u) ∨ ∃ v, GoesOn s v ∧ sgxRun n u = enterAdmit (v.onSgx fun x => { x with stage := none }) := by
  refine sgxRun_walk (P := GoesOn s)
    (Q := fun w => GoesOn s w ∨ ∃ v, GoesOn s v ∧ w = enterAdmit (v.onSgx fun x => { x with stage := none }))
    (fun _ h => .inl h) (fun v f hf h => h.onSgx f hf) (fun v g k h => ?_) (fun v g h => ?_) (fun v p q hp hq h => ?_)
    (fun v p hp _ h => ?_) (fun v _ hyv h => ?_) n h
  · exact ⟨h.toQuiet.trans (.takeCall g k v), h.zcu, h.adm, h.holds, h.stage, h.hand⟩
  · exact ⟨h.toQuiet.trans (.startSegment g v), by simpa using h.zcu, by simpa using h.adm, (startSegment_holds g v).trans h.holds,
      by simpa using h.stage, fun p hp => h.hand p ((startSegment_hand v g).symm.trans hp)⟩
  · cases h.hand p hp
    cases hq
  · cases h.hand p hp
    exact .inr ⟨v, h, rfl⟩
  · rw [h.zcu, hy] at hyv
    cases hyv

/-! ### The conflicting entries (R168, R169) -/

theorem overlaps_iff (a b : Mask) : overlaps a b = true ↔ a &&& b ≠ 0 := decide_eq_true_iff

theorem mem_others (s : State) (p : StationIx × PeerEntry) : p ∈ s.others ↔ p.1 ≠ s.own ∧ p.2 = s.peers.get p.1 := by
  simp only [State.others, List.mem_map, List.mem_filter, List.mem_finRange, true_and, decide_eq_true_eq]
  constructor
  · rintro ⟨i, hi, rfl⟩
    exact ⟨hi, rfl⟩
  · rintro ⟨hi, he⟩
    exact ⟨p.1, hi, Prod.ext rfl he.symm⟩

theorem mem_conflicting (h : s.zcu.claim = .held) (p : StationIx × PeerEntry) :
    p ∈ s.conflicting ↔ ConflictsWith s p.1 ∧ p.2 = s.peers.get p.1 := by
  rw [State.conflicting, if_pos h, List.mem_filter, mem_others]
  simp only [conflictsWith, Bool.and_eq_true, decide_eq_true_eq, overlaps_iff, ConflictsWith]
  constructor
  · rintro ⟨⟨hi, he⟩, ⟨hp, hc⟩, hm⟩
    rw [he] at hp hc hm
    exact ⟨⟨hi, hp, hc, hm⟩, he⟩
  · rintro ⟨⟨hi, hp, hc, hm⟩, he⟩
    rw [he]
    exact ⟨⟨hi, rfl⟩, ⟨hp, hc⟩, hm⟩

theorem conflicting_iff (h : s.zcu.claim = .held) : (!s.conflicting.isEmpty) = true ↔ ∃ i, ConflictsWith s i := by
  rw [Bool.not_eq_true', ← Bool.not_eq_true, List.isEmpty_iff]
  constructor
  · intro hne
    obtain ⟨p, hp⟩ := List.exists_mem_of_ne_nil _ hne
    exact ⟨p.1, ((mem_conflicting h p).mp hp).1⟩
  · rintro ⟨i, hi⟩
    exact List.ne_nil_of_mem ((mem_conflicting h (i, s.peers.get i)).mpr ⟨hi, rfl⟩)

theorem yieldsTo_iff (h : s.zcu.claim = .held) (hs : s.dcc.stage.yields = true) :
    s.yieldsTo s.conflicting = true ↔ ∃ i, ConflictsWith s i ∧ i < s.own := by
  rw [State.yieldsTo, hs, Bool.true_and, List.any_eq_true]
  simp only [decide_eq_true_eq]
  exact ⟨fun ⟨p, hp, hlt⟩ => ⟨p.1, ((mem_conflicting h p).mp hp).1, hlt⟩,
    fun ⟨i, hi, hlt⟩ => ⟨(i, s.peers.get i), (mem_conflicting h _).mpr ⟨hi, rfl⟩, hlt⟩⟩

theorem conflictsWith_congr (hc : t.cfs = s.cfs) (hp : t.peers = s.peers) (hm : t.zcu.mask = s.zcu.mask) (i : StationIx) :
    ConflictsWith t i ↔ ConflictsWith s i := by
  rw [ConflictsWith, ConflictsWith, hp, hm, own_congr hc]

/-! ### The conflict flag (R37, R168) -/

theorem beginConflict_kept (s : State) : Kept s (beginConflict s) := by
  have hdip : Kept s ((s.onZcu fun z => { z with conflict := true }).onFlags fun f => { f with conflictSeen := true }) :=
    { Kept.refl s with
      job := by
        show (s.dcc.active.map _).map _ = _
        rw [Option.map_map]
        rfl }
  have hevent : ∀ v : State, Kept v (raiseEvent .zoneConflict v) := fun _ => ⟨rfl, rfl, rfl, rfl, rfl, rfl, rfl, rfl, rfl, id, id⟩
  exact (hdip.trans (hevent _)).trans (Quiet.raiseState _).toKept

/-- The flag from clear to set raises ZONE_CONFLICT and the STATE request, and CONFLICT_SEEN of the dip (R37, R168). -/
theorem beginConflict_raised (h : s.online = true) :
    (beginConflict s).pendingEvent .zoneConflict = true ∧ (beginConflict s).requested
      ∧ ∀ d, (beginConflict s).dcc.active = some d → d.flags.conflictSeen = true := by
  refine ⟨?_, raiseState_requested h, fun d hd => ?_⟩
  · rw [beginConflict, raiseState_pendingEvent]
    exact raiseEvent_pendingEvent _ _
  · have hactive : (beginConflict s).dcc.active
        = s.dcc.active.map fun d => { d with flags := { d.flags with conflictSeen := true } } := by simp [beginConflict]
    rw [hactive, Option.map_eq_some_iff] at hd
    obtain ⟨e, -, rfl⟩ := hd
    rfl

theorem beginConflict_holds (s : State) : (beginConflict s).holds = s.holds := by
  have hdcc : (beginConflict s).dcc
      = { s.dcc with active := s.dcc.active.map fun d => { d with flags := { d.flags with conflictSeen := true } } } := by
    simp [beginConflict]
  rw [State.holds, hdcc, Option.map_map]
  rfl

theorem checkFlag_cases (l : List (StationIx × PeerEntry)) (s : State) :
    (l.isEmpty = false ∧ s.zcu.conflict = false ∧ checkFlag l s = beginConflict s)
      ∨ ((l.isEmpty = true ∨ s.zcu.conflict = true) ∧ Quiet s (checkFlag l s) ∧ (checkFlag l s).holds = s.holds) := by
  unfold checkFlag
  cases hl : l.isEmpty with
  | true =>
    rw [if_pos rfl]
    exact .inr ⟨.inl rfl, .onZcu _ s, rfl⟩
  | false =>
    rw [if_neg nofun]
    cases hc : s.zcu.conflict with
    | true =>
      rw [if_pos rfl]
      exact .inr ⟨.inr rfl, .refl s, rfl⟩
    | false =>
      rw [if_neg nofun]
      exact .inl ⟨rfl, rfl, rfl⟩

theorem checkFlag_kept (l : List (StationIx × PeerEntry)) (s : State) : Kept s (checkFlag l s) := by
  rcases checkFlag_cases l s with ⟨-, -, h⟩ | ⟨-, h, -⟩
  · rw [h]
    exact beginConflict_kept s
  · exact h.toKept

theorem checkFlag_holds (l : List (StationIx × PeerEntry)) (s : State) : (checkFlag l s).holds = s.holds := by
  rcases checkFlag_cases l s with ⟨-, -, h⟩ | ⟨-, -, h⟩
  · rw [h]
    exact beginConflict_holds s
  · exact h

/-- CONFLICT_SEEN of the dip stands through a quiet part. -/
theorem Quiet.seen (h : Quiet s t) (hs : ∀ d, s.dcc.active = some d → d.flags.conflictSeen = true) (d : Dip)
    (hd : t.dcc.active = some d) : d.flags.conflictSeen = true := by
  obtain ⟨e, he, hed⟩ := active_of_unclamped h.dip.symm hd
  have hflag : e.unclamped.flags.conflictSeen = d.unclamped.flags.conflictSeen := congrArg (·.flags.conflictSeen) hed
  exact hflag.symm.trans (hs e he)

/-! ### The yield (R37, R169, R180) -/

/-- The hold time that the end of the hold in effect would make (R36). -/
theorem timesAfter_congr (h : t.holds = s.holds) :
    (t.dcc.active.map fun d => holdTimeAfter t.dcc.hold d) = s.dcc.active.map fun d => holdTimeAfter s.dcc.hold d := by
  have hafter : ∀ v : State, (v.dcc.active.map fun d => holdTimeAfter v.dcc.hold d)
      = v.holds.2.map fun n => match v.holds.1 with | none => n | some h => min 4294967295 (n + h.elapsed) := fun v => by
    rw [State.holds, Option.map_map]
    rfl
  rw [hafter, hafter, h]

/-- The outcome of an admission test made now: WAITING with its reason, or PENDING, then with the STATE request raised (R174,
R175). -/
def Tested (s : State) : Prop :=
  (∀ r, s.admissionTest = some r → s.adm.resv = .waiting r)
    ∧ (s.admissionTest = none → s.adm.resv = .pending none ∧ s.requested)

theorem testResv_tested (h : s.online = true) (hr : s.adm.resv.status = .none) : Tested (testResv s) := by
  have hkept : (testResv s).admissionTest = s.admissionTest := (Quiet.testResv s).toKept.admissionTest (by
    unfold testResv
    split <;> simp)
  refine ⟨fun r ht => ?_, fun ht => ?_⟩
  · rw [hkept] at ht
    simp [testResv, ht]
  · rw [hkept] at ht
    have heq : testResv s = setResv (.pending none) s := by simp only [testResv, ht]
    rw [heq]
    exact ⟨by simp, setResv_requested _ h (by rw [hr]; nofun)⟩

theorem openGate_of_none (h : s.adm.resv = .none) : openGate s = s.onAdm fun a => { a with gateClosed := false } := by
  simp only [openGate, onAdm_fields, h]

theorem closeGate_of_none (h : s.adm.resv = .none) : closeGate s = s.onAdm fun a => { a with gateClosed := true } := by
  simp only [closeGate, onAdm_fields, h]

theorem openGate_fields (s : State) :
    (openGate s).dcc.stage = s.dcc.stage ∧ (openGate s).zcu = s.zcu ∧ (openGate s).sgx = s.sgx
      ∧ (openGate s).adm.gateClosed = false := by
  refine ⟨by simp, by simp, by simp, ?_⟩
  unfold openGate testResv
  dsimp only
  repeat' split
  all_goals simp

theorem closeGate_fields (s : State) :
    (closeGate s).dcc.stage = s.dcc.stage ∧ (closeGate s).zcu = s.zcu ∧ (closeGate s).sgx = s.sgx
      ∧ (closeGate s).adm.gateClosed = true := by
  refine ⟨by simp, by simp, by simp, ?_⟩
  unfold closeGate testResv
  dsimp only
  repeat' split
  all_goals simp

/-- What the end of a yield makes of the blocks: in APPROACH the conflict hold lifted and the walk gone on (R37, R169, R180). -/
structure YieldEnded (y v : State) : Prop extends Quiet y v where
  zcu    : v.zcu = { y.zcu with yielding := false }
  gate   : v.adm.gateClosed = false
  stage  : v.dcc.stage = y.dcc.stage ∨ (y.dcc.stage = .approach ∧ v.dcc.stage = .admitting)
  lifted : v.dcc.stage = .approach → y.sgx.current = none →
    v.holds = (none, y.dcc.active.map fun d => holdTimeAfter y.dcc.hold d)
  alone  : v.dcc.stage = .approach → v.adm.resv = .none
  asked  : v.dcc.stage ≠ y.dcc.stage → Tested v

theorem endYield_of_approach (hst : s.dcc.stage = .approach) (hr : s.adm.resv = .none)
    (hh : ∀ p, s.sgx.stage = some p → p = .approach) (honline : s.online = true) : YieldEnded s (endYield s) := by
  let z := (s.onZcu fun z => { z with yielding := false }).onAdm fun a => { a with gateClosed := false }
  have hz : Quiet s z := .trans (.onZcu _ s) (.onGate false _)
  have hyield : endYield s = if z.dcc.stage = .approach ∧ z.dcc.hold.isSome ∧ z.sgx.current.isNone then sgxGo (endHold z) else z := by
    unfold endYield
    rw [openGate_of_none (s := s.onZcu fun z => { z with yielding := false }) hr]
  rw [hyield]
  split
  · let g := endHold z
    have hg : Quiet s g := hz.trans (.endHold z)
    have hgz : g.zcu = { s.zcu with yielding := false } := by simp [g, z]
    have hga : g.adm = { s.adm with gateClosed := false } := by simp [g, z]
    have hstart : GoesOn g g := ⟨.refl g, rfl, rfl, rfl, by simpa [g, z] using hst, by simpa [g, z] using hh⟩
    rcases sgxRun_goesOn sgxFuel hstart (by rw [hgz]) with hrun | ⟨v, hv, hrun⟩
    · exact
        { toQuiet := hg.trans hrun.toQuiet
          zcu := hrun.zcu.trans hgz
          gate := by rw [sgxGo, hrun.adm, hga]
          stage := .inl (hrun.stage.trans hst.symm)
          lifted := fun _ _ => hrun.holds.trans (endHold_holds z)
          alone := fun _ => by rw [sgxGo, hrun.adm, hga]; exact hr
          asked := fun hn => absurd (hrun.stage.trans hst.symm) hn }
    · have hq := hg.trans (hv.toQuiet.trans (.onSgx (fun x => { x with stage := none }) v))
      have hadmit : (setStage .admitting (v.onSgx fun x => { x with stage := none })).adm = g.adm := by simp [hv.adm]
      have hq' := hq.trans (.setStage .admitting _)
      have hfields : (enterAdmit (v.onSgx fun x => { x with stage := none })).dcc.stage = .admitting
          ∧ (enterAdmit (v.onSgx fun x => { x with stage := none })).zcu = { s.zcu with yielding := false }
          ∧ (enterAdmit (v.onSgx fun x => { x with stage := none })).adm.gateClosed = false := by
        refine ⟨by simp [enterAdmit], by simp [enterAdmit, hv.zcu, hgz], ?_⟩
        unfold enterAdmit testResv
        split <;> simp [hv.adm, hga]
      obtain ⟨hstage, hzcu, hgate⟩ := hfields
      rw [sgxGo, hrun]
      exact
        { toQuiet := hq.trans (.enterAdmit _)
          zcu := hzcu
          gate := hgate
          stage := .inr ⟨hst, hstage⟩
          lifted := fun ha => by rw [hstage] at ha; cases ha
          alone := fun ha => by rw [hstage] at ha; cases ha
          asked := fun _ => testResv_tested (hq'.toKept.online.trans honline) (by rw [hadmit, hga, hr]; rfl) }
  · rename_i hno
    refine
      { toQuiet := hz, zcu := rfl, gate := rfl, stage := .inl rfl, lifted := fun _ hc => ?_, alone := fun _ => hr
        asked := fun hn => absurd rfl hn }
    have hhold : s.dcc.hold = none := by
      by_contra hn
      exact hno ⟨hst, Option.isSome_iff_ne_none.mpr hn, by show s.sgx.current.isNone = true; rw [hc]; rfl⟩
    show (s.dcc.hold, s.dcc.active.map (·.holdTime)) = _
    rw [hhold]
    rfl

/-- Outside APPROACH the end of a yield opens the gate only (R180). -/
theorem endYield_of_ne (h : s.dcc.stage ≠ .approach) :
    endYield s = openGate (s.onZcu fun z => { z with yielding := false }) := by
  unfold endYield
  refine if_neg fun hn => h ?_
  simpa using hn.1

/-- Outside APPROACH a yield closes the gate only (R180). -/
theorem beginYield_of_ne (h : s.dcc.stage ≠ .approach) :
    beginYield s = closeGate (s.onZcu fun z => { z with yielding := true }) := by
  unfold beginYield
  refine if_neg fun hn => h ?_
  simpa using hn.1

theorem endYield_ended (hr : s.dcc.stage = .approach → s.adm.resv = .none)
    (hh : ∀ p, s.sgx.stage = some p → s.dcc.stage = phaseStage p ∨ s.dcc.stage = .fault) (honline : s.online = true) :
    YieldEnded s (endYield s) := by
  by_cases hst : s.dcc.stage = .approach
  · refine endYield_of_approach hst (hr hst) (fun p hp => ?_) honline
    have hp' := hh p hp
    rw [hst] at hp'
    cases p <;> simp [phaseStage] at hp' ⊢
  · have hq : Quiet s (openGate (s.onZcu fun z => { z with yielding := false })) := .trans (.onZcu _ s) (.openGate _)
    obtain ⟨hstage, hzcu, -, hgate⟩ := openGate_fields (s.onZcu fun z => { z with yielding := false })
    rw [endYield_of_ne hst]
    exact
      { toQuiet := hq, zcu := hzcu, gate := hgate, stage := .inl hstage
        lifted := fun ha => absurd (hstage.symm.trans ha) hst, alone := fun ha => absurd (hstage.symm.trans ha) hst
        asked := fun hn => absurd hstage hn }

/-- A yield in APPROACH with no segment running begins the conflict hold (R37). -/
theorem beginYield_hold (hst : s.dcc.stage = .approach) (hc : s.sgx.current = none) :
    ∃ h, (beginYield s).dcc.hold = some h ∧ h.reason = .conflict := by
  have hcond : (closeGate (s.onZcu fun z => { z with yielding := true })).dcc.stage = .approach
      ∧ (closeGate (s.onZcu fun z => { z with yielding := true })).sgx.current.isNone := by
    simp [hst, hc]
  unfold beginYield
  rw [if_pos hcond]
  refine ⟨_, congrArg Prod.fst (waitHold_holds .conflict _), waiting_reason _ _⟩

theorem beginYield_fields (s : State) :
    (beginYield s).dcc.stage = s.dcc.stage ∧ (beginYield s).adm.gateClosed = true
      ∧ (s.adm.resv = .none → (beginYield s).adm.resv = .none) := by
  have hgate := (closeGate_fields (s.onZcu fun z => { z with yielding := true })).2.2.2
  have hadm : ∀ (r : HoldReason) (v : State), (waitHold r v).adm = v.adm := fun r v => by simp
  refine ⟨by simp, ?_, fun hr => ?_⟩
  · unfold beginYield
    dsimp only
    split
    · rw [hadm]
      exact hgate
    · exact hgate
  · unfold beginYield
    rw [closeGate_of_none (s := s.onZcu fun z => { z with yielding := true }) hr]
    dsimp only
    split
    · rw [hadm]
      exact hr
    · exact hr

/-! ### The conflict check of a HELD claim (R168, R169) -/

/-- What the conflict check makes of a HELD claim (R37, R168, R169). -/
structure ClaimChecked (x v : State) : Prop extends Kept x v where
  held   : v.zcu.claim = .held
  stage  : v.dcc.stage = x.dcc.stage ∨ (x.dcc.stage = .approach ∧ v.dcc.stage = .admitting ∧ x.zcu.yielding = true
    ∧ v.zcu.yielding = false)
  mask   : v.zcu.mask = x.zcu.mask
  flag   : v.zcu.conflict = !x.conflicting.isEmpty
  raised : x.zcu.conflict = false → v.zcu.conflict = true → v.pendingEvent .zoneConflict = true ∧ v.requested
    ∧ ∀ d, v.dcc.active = some d → d.flags.conflictSeen = true
  quiet  : x.zcu.conflict = true ∨ v.zcu.conflict = false → v.pendingEvent .zoneConflict = x.pendingEvent .zoneConflict
  yields : x.dcc.stage.yields = true → v.zcu.yielding = x.yieldsTo x.conflicting
  free   : x.dcc.stage.yields = false → v.zcu.yielding = false
  begins : x.dcc.stage = .approach → x.sgx.current = none → x.zcu.yielding = false → v.zcu.yielding = true →
    ∃ h, v.dcc.hold = some h ∧ h.reason = .conflict
  lifted : v.dcc.stage = .approach → x.sgx.current = none → x.zcu.yielding = true → v.zcu.yielding = false →
    v.holds = (none, x.dcc.active.map fun d => holdTimeAfter x.dcc.hold d)

/-- What follows the flag quietly leaves what the flag raised. -/
theorem checkFlag_raised (l : List (StationIx × PeerEntry)) (honline : s.online = true) (h : Quiet (checkFlag l s) u)
    (hu : u.zcu.conflict = !l.isEmpty) :
    (s.zcu.conflict = false → u.zcu.conflict = true → u.pendingEvent .zoneConflict = true ∧ u.requested
        ∧ ∀ d, u.dcc.active = some d → d.flags.conflictSeen = true)
      ∧ (s.zcu.conflict = true ∨ u.zcu.conflict = false → u.pendingEvent .zoneConflict = s.pendingEvent .zoneConflict) := by
  rcases checkFlag_cases l s with ⟨hl, hc, hflag⟩ | ⟨hquiet, hflag, -⟩
  · rw [hflag] at h
    obtain ⟨hevent, hrequest, hseen⟩ := beginConflict_raised honline
    refine ⟨fun _ _ => ⟨h.event.trans hevent, h.request hrequest, h.seen hseen⟩, fun hn => ?_⟩
    rw [hu, hl, hc] at hn
    rcases hn with hn | hn <;> cases hn
  · refine ⟨fun hc hn => ?_, fun _ => (hflag.trans h).event⟩
    rw [hu] at hn
    rcases hquiet with hq | hq
    · rw [hq] at hn
      cases hn
    · rw [hq] at hc
      cases hc

theorem conflictCheck_checked (hok : s.course.CycleOk) (hheld : s.zcu.claim = .held) (honline : s.online = true) :
    ClaimChecked s (conflictCheck s) := by
  let y := checkFlag s.conflicting s
  have hzcu : y.zcu = { s.zcu with conflict := !s.conflicting.isEmpty } := checkFlag_zcu _ _
  have hkept : Kept s y := checkFlag_kept _ _
  have hframe : y.dcc.stage = s.dcc.stage ∧ y.sgx = s.sgx ∧ y.adm = s.adm := by simp [y]
  obtain ⟨hstage, hsgx, hadm⟩ := hframe
  have hholds : y.holds = s.holds := checkFlag_holds _ _
  have hyielding : s.zcu.yielding = true → s.dcc.stage.yields = true := fun h => (hok.yielding h).2
  have hnone : s.yieldsTo s.conflicting = true → s.dcc.stage.yields = true := fun h => ((Bool.and_eq_true _ _).mp h).1
  unfold conflictCheck
  dsimp only
  split
  · rename_i hto
    split
    · rename_i hy
      obtain ⟨hraised, hquiet⟩ := checkFlag_raised s.conflicting honline (.refl y) (by rw [hzcu])
      exact
        { toKept := hkept, held := by rw [hzcu]; exact hheld, stage := .inl hstage, mask := by rw [hzcu], flag := by rw [hzcu]
          raised := hraised, quiet := hquiet
          yields := fun _ => by rw [hto, hzcu]; exact hy
          free := fun hf => by rw [hnone hto] at hf; cases hf
          begins := fun _ _ hn => by rw [hn] at hy; cases hy
          lifted := fun _ _ _ hn => by rw [hzcu] at hn; rw [hn] at hy; cases hy }
    · rename_i hy
      have hbegin : (beginYield y).zcu = { s.zcu with conflict := !s.conflicting.isEmpty, yielding := true } := by
        rw [beginYield_zcu, hzcu]
      have hq : Quiet y (beginYield y) := .beginYield y
      obtain ⟨hraised, hquiet⟩ := checkFlag_raised s.conflicting honline hq (by rw [hbegin])
      exact
        { toKept := hkept.trans hq.toKept, held := by rw [hbegin]; exact hheld
          stage := .inl ((beginYield_fields y).1.trans hstage), mask := by rw [hbegin], flag := by rw [hbegin]
          raised := hraised, quiet := hquiet
          yields := fun _ => by rw [hto, hbegin]
          free := fun hf => by rw [hnone hto] at hf; cases hf
          begins := fun hst hc _ _ => beginYield_hold (hstage.trans hst) (by rw [hsgx, hc])
          lifted := fun _ _ hn => absurd hn hy }
  · rename_i hto
    split
    · rename_i hy
      have hend := endYield_ended (s := y) (fun hst => by rw [hadm]; exact hok.unreserved (.inr (.inr (.inr (hstage.symm.trans hst)))))
        (fun p hp => by rw [hstage]; exact hok.hand p (by rw [hsgx] at hp; exact hp)) (hkept.online.trans honline)
      have hzend : (endYield y).zcu = { s.zcu with conflict := !s.conflicting.isEmpty, yielding := false } := by
        rw [hend.zcu, hzcu]
      obtain ⟨hraised, hquiet⟩ := checkFlag_raised s.conflicting honline hend.toQuiet (by rw [hzend])
      exact
        { toKept := hkept.trans hend.toKept, held := by rw [hzend]; exact hheld
          stage := hend.stage.imp (·.trans hstage) fun ⟨ha, hv⟩ => ⟨hstage.symm.trans ha, hv, hy.1, by rw [hzend]⟩, mask := by rw [hzend], flag := by rw [hzend]
          raised := hraised, quiet := hquiet
          yields := fun _ => by rw [hzend]; exact (Bool.not_eq_true _ ▸ hto).symm
          free := fun _ => by rw [hzend]
          begins := fun _ _ hn => by rw [hn] at hy; cases hy.1
          lifted := fun hst hc _ _ => by rw [hend.lifted hst (by rw [hsgx, hc]), timesAfter_congr hholds] }
    · rename_i hy
      obtain ⟨hraised, hquiet⟩ := checkFlag_raised s.conflicting honline (.refl y) (by rw [hzcu])
      have hfree : s.zcu.yielding = false := by
        rw [← Bool.not_eq_true]
        exact fun h => hy ⟨h, hyielding h⟩
      exact
        { toKept := hkept, held := by rw [hzcu]; exact hheld, stage := .inl hstage, mask := by rw [hzcu], flag := by rw [hzcu]
          raised := hraised, quiet := hquiet
          yields := fun _ => by rw [hzcu]; exact hfree.trans (Bool.not_eq_true _ ▸ hto).symm
          free := fun _ => by rw [hzcu]; exact hfree
          begins := fun _ _ _ hn => by rw [hzcu] at hn; rw [hfree] at hn; cases hn
          lifted := fun _ _ hn => by rw [hfree] at hn; cases hn }

end Sys2Proof.Machine
end

section
/-! PROOF. A table change at the own claim (O51), from what leads to the claim unit, what it does, and what it leaves to the rest
of the change. -/

namespace Sys2Proof.Machine

variable {s t : State} {b r x w : State} {stored : Option StationIx}

/-! ### What leads to the claim unit, and what follows it -/

theorem reviewResv_fields (s : State) :
    (reviewResv s).zcu = s.zcu ∧ (reviewResv s).sgx = s.sgx ∧ (reviewResv s).dcc.stage = s.dcc.stage
      ∧ (reviewResv s).adm.gateClosed = s.adm.gateClosed := by
  refine ⟨by simp, by simp, by simp, ?_⟩
  unfold reviewResv testResv
  repeat' split
  all_goals simp

/-- Outside ADMIT the review of the reservation leaves the dip (R173). -/
theorem reviewResv_dcc (h : s.dcc.stage ≠ .admitting) : (reviewResv s).dcc = s.dcc := by
  unfold reviewResv testResv
  repeat' split
  all_goals first | rfl | exact setResv_dcc _ h

/-- What leads to the claim unit leaves the claim, the gate, the stage and its segments, and outside ADMIT the holds. -/
structure LeadsToClaim (s x : State) : Prop where
  cfs   : x.cfs = s.cfs
  mode  : x.cpt.mode = s.cpt.mode
  line  : x.kli.lineLost = s.kli.lineLost
  full  : x.adm.full = s.adm.full
  acu   : x.acu = s.acu
  queue : x.dcc.queue = s.dcc.queue
  job   : x.job = s.job
  zcu   : x.zcu = s.zcu
  sgx   : x.sgx = s.sgx
  stage : x.dcc.stage = s.dcc.stage
  gate  : x.adm.gateClosed = s.adm.gateClosed
  event : x.pendingEvent .zoneConflict = s.pendingEvent .zoneConflict
  holds : s.dcc.stage ≠ .admitting → x.holds = s.holds

theorem TableSet.leads (h : TableSet s b) : LeadsToClaim s b where
  cfs := h.cfs
  mode := h.mode
  line := by rw [h.kli]
  full := by rw [h.adm]
  acu := h.acu
  queue := by rw [h.dcc]
  job := by rw [State.job, h.dcc]; rfl
  zcu := h.zcu
  sgx := h.sgx
  stage := by rw [h.dcc]
  gate := by rw [h.adm]
  event := h.event
  holds _ := holds_congr h.dcc

theorem LeadsToClaim.quiet {u v : State} (h : LeadsToClaim s u) (hq : Quiet u v) (hz : v.zcu = u.zcu) (hx : v.sgx = u.sgx)
    (hst : v.dcc.stage = u.dcc.stage) (hg : v.adm.gateClosed = u.adm.gateClosed)
    (hh : u.dcc.stage ≠ .admitting → v.holds = u.holds) : LeadsToClaim s v where
  cfs := hq.cfs.trans h.cfs
  mode := hq.mode.trans h.mode
  line := hq.line.trans h.line
  full := hq.full.trans h.full
  acu := hq.acu.trans h.acu
  queue := hq.queue.trans h.queue
  job := hq.job.trans h.job
  zcu := hz.trans h.zcu
  sgx := hx.trans h.sgx
  stage := hst.trans h.stage
  gate := hg.trans h.gate
  event := hq.event.trans h.event
  holds hne := (hh (by rw [h.stage]; exact hne)).trans (h.holds hne)

theorem LeadsToClaim.aside {u v : State} (h : LeadsToClaim s u) (ha : Aside u v) : LeadsToClaim s v :=
  h.quiet ha.toQuiet ha.zcu ha.sgx (by rw [ha.dcc]) ha.gate fun _ => ha.holds

theorem LeadsToClaim.review {u : State} (h : LeadsToClaim s u) : LeadsToClaim s (reviewResv u) := by
  obtain ⟨hzcu, hsgx, hstage, hgate⟩ := reviewResv_fields u
  exact h.quiet (.reviewResv u) hzcu hsgx hstage hgate fun hne => holds_congr (reviewResv_dcc hne)

theorem TableParts.leads (h : TableParts stored s b r x w t) : LeadsToClaim s x := by
  have hr : LeadsToClaim s r := by
    rcases h.level with hr | hr
    · rw [hr]
      exact h.set.leads
    · rw [hr]
      exact (h.set.leads.aside (.refreshSurface b)).review
  exact hr.aside h.before

theorem Aside.course (h : Aside s t) : t.course = s.course :=
  course_congr (by rw [h.dcc]) h.job h.queue h.acu h.zcu h.resv h.sgx

/-- The blocks of the dip cycle agree where the claim unit acts. -/
theorem TableParts.cycleOk (h : TableParts stored s b r x w t) (hok : CycleWf s) : x.course.CycleOk := by
  have hs := (cycleWf_iff s).mp hok
  have hb : b.course.CycleOk := by
    have hcourse : b.course = s.course :=
      course_congr (by rw [h.set.dcc]) (by rw [State.job, h.set.dcc]; rfl) (by rw [h.set.dcc]) h.set.acu h.set.zcu
        (by rw [h.set.adm]) h.set.sgx
    rw [hcourse]
    exact hs
  rw [h.before.course]
  rcases h.level with hr | hr
  · rw [hr]
    exact hb
  · rw [hr]
    refine (reviewResv_leads (refreshSurface b)).cycle ?_
    rw [refreshSurface_course]
    exact hb

/-- What follows the claim unit leaves the claim and its segments, and outside ADMIT the dip. -/
structure FollowsClaim (v t : State) : Prop extends Quiet v t where
  zcu   : t.zcu = v.zcu
  stage : t.dcc.stage = v.dcc.stage
  gate  : t.adm.gateClosed = v.adm.gateClosed
  dcc   : v.dcc.stage ≠ .admitting → t.dcc = v.dcc

theorem TableParts.follows (h : TableParts stored s b r x w t) : FollowsClaim (zcuTableChange stored x) t := by
  obtain ⟨hzcu, -, hstage, hgate⟩ := reviewResv_fields w
  have hw := h.claim
  have ht := h.after
  have hst : w.dcc.stage = (zcuTableChange stored x).dcc.stage := by rw [hw.dcc]
  exact
    { toQuiet := hw.toQuiet.trans (.trans (.reviewResv w) ht.toQuiet)
      zcu := ht.zcu.trans (hzcu.trans hw.zcu)
      stage := by rw [ht.dcc, hstage, hst]
      gate := ht.gate.trans (hgate.trans hw.gate)
      dcc := fun hne => by rw [ht.dcc, reviewResv_dcc (by rw [hst]; exact hne), hw.dcc] }

theorem LeadsToClaim.online (h : LeadsToClaim s x) : x.online = s.online := by
  rw [State.online, h.mode]
  rfl

theorem LeadsToClaim.footprint (h : LeadsToClaim s x) : x.footprint = s.footprint := by
  rw [State.footprint, h.job]
  rfl

theorem Kept.claimBlocked {v : State} (h : Kept v t) : t.claimBlocked = v.claimBlocked :=
  claimBlocked_congr h.line h.cfs h.peers h.job

/-- The hold time of the dip, read from the holds of two states. -/
theorem holdTime_of_holds {d : Dip} (h : t.holds.2 = s.dcc.active.map fun d => holdTimeAfter s.dcc.hold d)
    (hd : s.dcc.active = some d) : ∃ e, t.dcc.active = some e ∧ e.holdTime = holdTimeAfter s.dcc.hold d := by
  rw [hd] at h
  exact Option.map_eq_some_iff.mp h

theorem FollowsClaim.holds {v : State} (h : FollowsClaim v t) (hne : v.dcc.stage ≠ .admitting) : t.holds = v.holds :=
  holds_congr (h.dcc hne)

/-! ### A WAITING claim (R164) -/

theorem testClaim_blocked {q : ClaimReason} (h : s.claimBlocked = some q) : testClaim s = setClaim (.waiting q) 0 s := by
  simp only [testClaim, h]

theorem testClaim_open (h : s.claimBlocked = none) : testClaim s = setClaim (.pending none) s.footprint s := by
  simp only [testClaim, h]

theorem setClaim_fields (c : ClaimState) (m : Mask) (s : State) :
    (setClaim c m s).zcu = { s.zcu with claim := c, mask := m } ∧ (setClaim c m s).dcc.stage = s.dcc.stage := by
  simp

theorem waitingClaim_tests {q : ClaimReason} (hx : LeadsToClaim s x) (hc : s.zcu.claim = .waiting q) (honline : s.online = true)
    (ht : FollowsClaim (testClaim x) t) :
    (∀ r', t.claimBlocked = some r' → t.zcu.claim = .waiting r' ∧ t.zcu.mask = 0
        ∧ (s.dcc.stage = .claim → ∃ h, t.dcc.hold = some h ∧ h.reason = r'.hold))
      ∧ (t.claimBlocked = none → t.zcu.claim = .pending none ∧ t.zcu.mask = s.footprint
        ∧ t.kli.stateRequest.isSome = true ∧ (s.dcc.stage = .claim → t.dcc.hold = none
          ∧ ∀ d, s.dcc.active = some d → ∃ e, t.dcc.active = some e ∧ e.holdTime = holdTimeAfter s.dcc.hold d)) := by
  have hblocked : t.claimBlocked = x.claimBlocked := ((Quiet.testClaim x).toKept.trans ht.toKept).claimBlocked
  rw [hblocked]
  refine ⟨fun r' hr => ?_, fun hn => ?_⟩
  · rw [testClaim_blocked hr] at ht
    obtain ⟨hzcu, hstage⟩ := setClaim_fields (.waiting r') 0 x
    refine ⟨by rw [ht.zcu, hzcu], by rw [ht.zcu, hzcu], fun hst => ?_⟩
    have hxst : x.dcc.stage = .claim := hx.stage.trans hst
    have hholds := (ht.holds (by rw [hstage, hxst]; nofun)).trans (setClaim_waiting_holds r' 0 hxst)
    exact ⟨_, congrArg Prod.fst hholds, waiting_reason _ _⟩
  · rw [testClaim_open hn] at ht
    obtain ⟨hzcu, hstage⟩ := setClaim_fields (.pending none) x.footprint x
    have hrequested : (setClaim (.pending none) x.footprint x).requested :=
      setClaim_requested _ _ (hx.online.trans honline) (by rw [hx.zcu, hc]; nofun)
    refine ⟨by rw [ht.zcu, hzcu], by rw [ht.zcu, hzcu]; exact hx.footprint, ht.request hrequested, fun hst => ?_⟩
    have hxst : x.dcc.stage = .claim := hx.stage.trans hst
    have hholds := (ht.holds (by rw [hstage, hxst]; nofun)).trans (setClaim_pending_holds none x.footprint hxst)
    have htimes := timesAfter_congr (hx.holds (by rw [hst]; nofun))
    exact ⟨congrArg Prod.fst hholds, fun d hd => holdTime_of_holds ((congrArg Prod.snd hholds).trans htimes) hd⟩

/-! ### A PENDING claim (R165) -/

theorem reviewPending_withdraws {i : StationIx} (hm : (s.peers.get i).heard.mask &&& s.zcu.mask ≠ 0)
    (hc : (s.peers.get i).heard.claim = .held ∨ ((s.peers.get i).heard.claim = .pending ∧ i < s.own)) :
    reviewPending i s = setClaim (.waiting .zone) 0 s := by
  unfold reviewPending
  dsimp only
  rw [if_pos ((overlaps_iff _ _).mpr hm)]
  rcases hc with hc | ⟨hc, hlt⟩
  · rw [hc]
  · rw [hc]
    exact if_pos hlt

theorem reviewPending_answers {i : StationIx} (hm : (s.peers.get i).heard.mask &&& s.zcu.mask ≠ 0)
    (hc : (s.peers.get i).heard.claim = .pending) (hlt : s.own < i) : reviewPending i s = raiseState s := by
  unfold reviewPending
  dsimp only
  rw [if_pos ((overlaps_iff _ _).mpr hm), hc]
  exact if_neg (Fin.lt_asymm hlt)

theorem reviewPending_passes {i : StationIx}
    (h : (s.peers.get i).heard.mask &&& s.zcu.mask = 0 ∨ (s.peers.get i).heard.claim = .none) : reviewPending i s = s := by
  unfold reviewPending
  dsimp only
  rcases h with h | h
  · rw [if_neg fun hn => (overlaps_iff _ _).mp hn h]
  · rw [h]
    split <;> rfl

theorem zcuTableChange_pending {q : Option Word} {i : StationIx} (hc : s.zcu.claim = .pending q) :
    zcuTableChange (some i) s = reviewPending i s := by
  simp only [zcuTableChange, hc]

theorem zcuTableChange_pending_none {q : Option Word} (hc : s.zcu.claim = .pending q) : zcuTableChange none s = s := by
  simp only [zcuTableChange, hc]

theorem pendingClaim_reviewed {q : Option Word} (hx : LeadsToClaim s x) (hc : s.zcu.claim = .pending q)
    (honline : s.online = true) (ht : FollowsClaim (zcuTableChange stored x) t) :
    (∀ i, stored = some i → (t.peers.get i).heard.mask &&& s.zcu.mask ≠ 0 →
        (t.peers.get i).heard.claim = .held ∨ ((t.peers.get i).heard.claim = .pending ∧ i < s.own) →
        t.zcu.claim = .waiting .zone ∧ t.zcu.mask = 0 ∧ t.kli.stateRequest.isSome = true
          ∧ (s.dcc.stage = .claim → ∃ h, t.dcc.hold = some h ∧ h.reason = .zone))
      ∧ (∀ i, stored = some i → (t.peers.get i).heard.mask &&& s.zcu.mask ≠ 0 →
        (t.peers.get i).heard.claim = .pending → s.own < i → t.zcu = s.zcu ∧ t.kli.stateRequest.isSome = true)
      ∧ (stored = none ∨ (∃ i, stored = some i ∧ ((t.peers.get i).heard.mask &&& s.zcu.mask = 0
          ∨ (t.peers.get i).heard.claim = .none)) → t.zcu = s.zcu) := by
  have hxc : x.zcu.claim = .pending q := by rw [hx.zcu, hc]
  have hpeers : ∀ i, stored = some i → t.peers = x.peers := fun i hi => by
    rw [hi, zcuTableChange_pending hxc] at ht
    exact ((Quiet.reviewPending i x).toKept.trans ht.toKept).peers
  have hown : x.own = s.own := own_congr hx.cfs
  refine ⟨fun i hi hm hclaim => ?_, fun i hi hm hclaim hlt => ?_, fun hpass => ?_⟩
  · rw [hpeers i hi] at hm hclaim
    rw [← hx.zcu] at hm
    rw [hi, zcuTableChange_pending hxc, reviewPending_withdraws hm (by rw [hown]; exact hclaim)] at ht
    obtain ⟨hzcu, hstage⟩ := setClaim_fields (.waiting .zone) 0 x
    have hrequested : (setClaim (.waiting .zone) 0 x).requested :=
      setClaim_requested _ _ (hx.online.trans honline) (by rw [hxc]; nofun)
    refine ⟨by rw [ht.zcu, hzcu], by rw [ht.zcu, hzcu], ht.request hrequested, fun hst => ?_⟩
    have hxst : x.dcc.stage = .claim := hx.stage.trans hst
    have hholds := (ht.holds (by rw [hstage, hxst]; nofun)).trans (setClaim_waiting_holds .zone 0 hxst)
    exact ⟨_, congrArg Prod.fst hholds, waiting_reason _ _⟩
  · rw [hpeers i hi] at hm hclaim
    rw [← hx.zcu] at hm
    rw [hi, zcuTableChange_pending hxc, reviewPending_answers hm hclaim (by rw [hown]; exact hlt)] at ht
    exact ⟨ht.zcu.trans ((Aside.raiseState x).zcu.trans hx.zcu),
      ht.request (raiseState_requested (hx.online.trans honline))⟩
  · rcases hpass with hn | ⟨i, hi, hpass⟩
    · rw [hn, zcuTableChange_pending_none hxc] at ht
      exact ht.zcu.trans hx.zcu
    · rw [hpeers i hi, ← hx.zcu] at hpass
      rw [hi, zcuTableChange_pending hxc, reviewPending_passes hpass] at ht
      exact ht.zcu.trans hx.zcu

/-! ### A HELD claim (R167 to R169) -/

/-- A HELD claim answers an overlapping PENDING stored, then checks for conflicts (R167, R168). -/
theorem zcuTableChange_held (hc : s.zcu.claim = .held) (honline : s.online = true) :
    ∃ y, Aside s y ∧ zcuTableChange stored s = conflictCheck y
      ∧ ∀ i, stored = some i → (s.peers.get i).heard.mask &&& s.zcu.mask ≠ 0 → (s.peers.get i).heard.claim = .pending →
        y.requested := by
  cases stored with
  | none => exact ⟨s, .refl s, by simp only [zcuTableChange, hc], nofun⟩
  | some i =>
    refine ⟨reviewHeld i s, .raiseStateIf _ s, by simp only [zcuTableChange, hc], fun j hj hm hclaim => ?_⟩
    cases hj
    unfold reviewHeld
    dsimp only
    rw [(overlaps_iff _ _).mpr hm, hclaim, raiseStateIf, if_pos (by rfl)]
    exact raiseState_requested honline

theorem heldClaim_checked (hx : LeadsToClaim s x) (hok : x.course.CycleOk) (hc : s.zcu.claim = .held)
    (honline : s.online = true) (ht : FollowsClaim (zcuTableChange stored x) t) :
    t.zcu.claim = .held ∧ t.zcu.mask = s.zcu.mask
      ∧ (∀ i, stored = some i → (t.peers.get i).heard.mask &&& s.zcu.mask ≠ 0 →
        (t.peers.get i).heard.claim = .pending → t.kli.stateRequest.isSome = true)
      ∧ (t.zcu.conflict = true ↔ ∃ i, ConflictsWith t i)
      ∧ (s.zcu.conflict = false → t.zcu.conflict = true → t.pendingEvent .zoneConflict = true
        ∧ t.kli.stateRequest.isSome = true ∧ ∀ d, t.dcc.active = some d → d.flags.conflictSeen = true)
      ∧ (s.zcu.conflict = true ∨ t.zcu.conflict = false →
        t.pendingEvent .zoneConflict = s.pendingEvent .zoneConflict)
      ∧ (s.dcc.stage = .approach ∨ s.dcc.stage = .admitting →
        (t.zcu.yielding = true ↔ ∃ i, ConflictsWith t i ∧ i < s.own))
      ∧ (s.dcc.stage ≠ .approach → s.dcc.stage ≠ .admitting → t.zcu.yielding = false)
      ∧ (s.dcc.stage = .approach → s.sgx.current = none → s.zcu.yielding = false → t.zcu.yielding = true →
        ∃ h, t.dcc.hold = some h ∧ h.reason = .conflict)
      ∧ (t.dcc.stage = .approach → s.sgx.current = none → s.zcu.yielding = true → t.zcu.yielding = false →
        t.dcc.hold = none
          ∧ ∀ d, s.dcc.active = some d → ∃ e, t.dcc.active = some e ∧ e.holdTime = holdTimeAfter s.dcc.hold d) := by
  have hxc : x.zcu.claim = .held := by rw [hx.zcu, hc]
  obtain ⟨y, hy, hchange, hanswer⟩ := zcuTableChange_held (stored := stored) hxc (hx.online.trans honline)
  have hyc : y.zcu.claim = .held := by rw [hy.zcu, hxc]
  have hyok : y.course.CycleOk := by
    rw [hy.course]
    exact hok
  have hly := hx.aside hy
  have hchecked := conflictCheck_checked hyok hyc (hly.online.trans honline)
  rw [hchange] at ht
  generalize conflictCheck y = v at ht hchecked
  have hkept : Kept y t := hchecked.toKept.trans ht.toKept
  have hown : y.own = s.own := own_congr hly.cfs
  have hmask : t.zcu.mask = y.zcu.mask := by rw [ht.zcu, hchecked.mask]
  have hconflicts : ∀ i, ConflictsWith t i ↔ ConflictsWith y i := fun i => conflictsWith_congr hkept.cfs hkept.peers hmask i
  refine ⟨by rw [ht.zcu, hchecked.held], by rw [hmask, hly.zcu], fun i hi hm hclaim => ?_, ?_, fun hsc htc => ?_, fun hq => ?_,
    fun hst => ?_, fun hna hnd => ?_, fun hst hcur hsy hty => ?_, fun hst hcur hsy hty => ?_⟩
  · rw [hkept.peers, hy.peers] at hm hclaim
    rw [← hx.zcu] at hm
    exact hkept.request (hanswer i hi hm hclaim)
  · rw [ht.zcu, hchecked.flag, conflicting_iff hyc]
    exact exists_congr fun i => (hconflicts i).symm
  · obtain ⟨hevent, hrequest, hseen⟩ := hchecked.raised (by rw [hly.zcu, hsc]) (by rw [← ht.zcu, htc])
    exact ⟨ht.event.trans hevent, ht.request hrequest, ht.toQuiet.seen hseen⟩
  · rw [ht.zcu] at hq
    exact ht.event.trans ((hchecked.quiet (by rw [hly.zcu]; exact hq)).trans hly.event)
  · have hyields : y.dcc.stage.yields = true := by
      rw [hly.stage]
      rcases hst with hst | hst <;> rw [hst] <;> rfl
    rw [ht.zcu, hchecked.yields hyields, yieldsTo_iff hyc hyields, hown]
    exact exists_congr fun i => and_congr_left fun _ => (hconflicts i).symm
  · have hfree : y.dcc.stage.yields = false := by
      rw [hly.stage]
      cases hs : s.dcc.stage with
      | approach => exact absurd hs hna
      | admitting => exact absurd hs hnd
      | _ => rfl
    rw [ht.zcu, hchecked.free hfree]
  · rw [ht.zcu] at hty
    have hyst : y.dcc.stage = .approach := hly.stage.trans hst
    obtain ⟨h, hh, hreason⟩ := hchecked.begins hyst (by rw [hly.sgx, hcur]) (by rw [hly.zcu, hsy]) hty
    have hvst : v.dcc.stage ≠ .admitting := by
      rcases hchecked.stage with hv | ⟨-, -, hyy, -⟩
      · rw [hv, hyst]
        nofun
      · rw [hly.zcu, hsy] at hyy
        cases hyy
    exact ⟨h, by rw [ht.dcc hvst, hh], hreason⟩
  · rw [ht.zcu] at hty
    have hvst : v.dcc.stage = .approach := ht.stage.symm.trans hst
    have hsst : s.dcc.stage ≠ .admitting := by
      rw [← hly.stage]
      rcases hchecked.stage with hv | ⟨ha, -⟩
      · rw [← hv, hvst]
        nofun
      · rw [ha]
        nofun
    have hholds := (ht.holds (by rw [hvst]; nofun)).trans (hchecked.lifted hvst (by rw [hly.sgx, hcur]) (by rw [hly.zcu, hsy]) hty)
    exact ⟨congrArg Prod.fst hholds,
      fun d hd => holdTime_of_holds ((congrArg Prod.snd hholds).trans (timesAfter_congr (hly.holds hsst))) hd⟩

/-- Settles O51: by the claim state in which the change finds the claim unit. -/
theorem tableChangesMoveTheClaim : Obligations.TableChangesMoveTheClaim := by
  intro s c stored hwf harrival
  obtain ⟨t, b, r, x, w, hexec, hparts⟩ := tableArrival_parts harrival
  have honline : s.online = true := harrival.1
  have hx := hparts.leads
  have ht := hparts.follows
  refine ⟨t, hexec, fun hc => ?_, fun q hc => ?_, fun q hc => pendingClaim_reviewed hx hc honline ht,
    fun hc => heldClaim_checked hx (hparts.cycleOk hwf) hc honline ht⟩
  · have hnone : zcuTableChange stored x = x := by
      simp only [zcuTableChange, hx.zcu, hc]
    rw [hnone] at ht
    exact ht.zcu.trans hx.zcu
  · have htest : zcuTableChange stored x = testClaim x := by
      simp only [zcuTableChange, hx.zcu, hc]
    rw [htest] at ht
    exact waitingClaim_tests hx hc honline ht

end Sys2Proof.Machine
end

section
/-! PROOF. A table change at the own reservation and at the gate (O52): a rule that follows the reservation through the parts of the
change, and what it gives for each state of the reservation. -/

namespace Sys2Proof.Machine

variable {s t u v : State} {b r x w : State} {stored : Option StationIx}

/-! ### The claim unit's part, as the reservation sees it -/

/-- A part of the change that leaves the reservation, the gate, the stage and the yield, and in ADMIT the holds. -/
structure ResvAside (s t : State) : Prop extends Kept s t where
  resv     : t.adm.resv = s.adm.resv
  gate     : t.adm.gateClosed = s.adm.gateClosed
  stage    : t.dcc.stage = s.dcc.stage
  yielding : t.zcu.yielding = s.zcu.yielding
  holds    : s.dcc.stage = .admitting → t.holds = s.holds

theorem Aside.resvAside (h : Aside s t) : ResvAside s t :=
  { toKept := h.toKept, resv := h.resv, gate := h.gate, stage := by rw [h.dcc], yielding := by rw [h.zcu]
    holds := fun _ => h.holds }

theorem checkFlag_resvAside (l : List (StationIx × PeerEntry)) (s : State) : ResvAside s (checkFlag l s) :=
  { toKept := checkFlag_kept l s, resv := by simp, gate := by simp, stage := by simp
    yielding := by rw [checkFlag_zcu], holds := fun _ => checkFlag_holds l s }

theorem ResvAside.trans (h : ResvAside s t) (h' : ResvAside t u) : ResvAside s u :=
  { toKept := h.toKept.trans h'.toKept, resv := h'.resv.trans h.resv, gate := h'.gate.trans h.gate
    stage := h'.stage.trans h.stage, yielding := h'.yielding.trans h.yielding
    holds := fun hst => (h'.holds (h.stage.trans hst)).trans (h.holds hst) }

/-- How the claim unit's part meets the reservation: not at all, by a yield begun, or by a yield ended (R169, R180). -/
inductive YieldStep (x v : State) : Prop where
  | none (h : ResvAside x v)
  | began (y : State) (h : ResvAside x y) (hs : x.dcc.stage.yields = true) (hx : x.zcu.yielding = false) (hv : v = beginYield y)
  | ended (y : State) (h : ResvAside x y) (hs : x.dcc.stage.yields = true) (hx : x.zcu.yielding = true) (hv : v = endYield y)
    (he : YieldEnded y v)

/-- Before the claim is HELD no dip is in ADMIT, and the claim's part leaves the reservation (R161, R163). -/
theorem resvAside_of_asked (hq : Quiet x v) (hne : x.dcc.stage ≠ .admitting) (hr : v.adm = x.adm)
    (hst : v.dcc.stage = x.dcc.stage) (hy : v.zcu.yielding = x.zcu.yielding) : ResvAside x v :=
  { toKept := hq.toKept, resv := by rw [hr], gate := by rw [hr], stage := hst, yielding := hy
    holds := fun h => absurd h hne }

theorem conflictCheck_yieldStep (hok : s.course.CycleOk) (honline : s.online = true) : YieldStep s (conflictCheck s) := by
  have hflag := checkFlag_resvAside s.conflicting s
  have hsgx : (checkFlag s.conflicting s).sgx = s.sgx := by simp
  unfold conflictCheck
  dsimp only
  split
  · rename_i hto
    split
    · exact .none hflag
    · rename_i hy
      exact .began _ hflag ((Bool.and_eq_true _ _).mp hto).1 ((Bool.not_eq_true _).mp hy) rfl
  · split
    · rename_i hy
      refine .ended _ hflag hy.2 hy.1 rfl (endYield_ended (fun hst => ?_) (fun p hp => ?_) (hflag.toKept.online.trans honline))
      · rw [hflag.resv]
        exact hok.unreserved (.inr (.inr (.inr (hflag.stage.symm.trans hst))))
      · rw [hflag.stage]
        exact hok.hand p (by rw [hsgx] at hp; exact hp)
    · exact .none hflag

theorem zcuTableChange_yieldStep (hok : x.course.CycleOk) (honline : x.online = true) :
    YieldStep x (zcuTableChange stored x) := by
  have hne : x.zcu.claim ≠ .held → x.dcc.stage ≠ .admitting := fun hc hst => hc (hok.kettle (by
    show inKettle x.dcc.stage = true
    rw [hst]
    rfl))
  cases hc : x.zcu.claim with
  | none =>
    have heq : zcuTableChange stored x = x := by simp only [zcuTableChange, hc]
    rw [heq]
    exact .none (Aside.refl x).resvAside
  | waiting q =>
    have heq : zcuTableChange stored x = testClaim x := by simp only [zcuTableChange, hc]
    rw [heq]
    refine .none (resvAside_of_asked (.testClaim x) (hne (by rw [hc]; nofun)) (by simp) (by simp) ?_)
    unfold testClaim
    split <;> simp
  | pending q =>
    cases stored with
    | none =>
      rw [zcuTableChange_pending_none hc]
      exact .none (Aside.refl x).resvAside
    | some i =>
      rw [zcuTableChange_pending hc]
      refine .none (resvAside_of_asked (.reviewPending i x) (hne (by rw [hc]; nofun)) (by simp) (by simp) ?_)
      unfold reviewPending
      dsimp only
      repeat' split
      all_goals simp
  | held =>
    obtain ⟨y, hy, hchange, -⟩ := zcuTableChange_held (stored := stored) hc honline
    have hyx := hy.resvAside
    rw [hchange]
    rcases conflictCheck_yieldStep (s := y) (by rw [hy.course]; exact hok) (hyx.toKept.online.trans honline) with
      h | ⟨z, hz, hs, hyy, hv⟩ | ⟨z, hz, hs, hyy, hv, he⟩
    · exact .none (hyx.trans h)
    · exact .began z (hyx.trans hz) (by rw [← hyx.stage]; exact hs) (by rw [← hyx.yielding]; exact hyy) hv
    · exact .ended z (hyx.trans hz) (by rw [← hyx.stage]; exact hs) (by rw [← hyx.yielding]; exact hyy) hv he

/-! ### A rule that follows the reservation outside APPROACH -/

theorem yields_iff (st : Stage) : st.yields = true ↔ st = .approach ∨ st = .admitting := by
  cases st <;> simp [Stage.yields]

/-- What holds of the reservation when the table is set, and stands through each part of the change, holds when the last review is
made; what that review makes of it stands to the end. Outside APPROACH the yield moves the gate only (log 23). -/
theorem TableParts.resv {P Q : State → Prop} (h : TableParts stored s b r x w t) (hok : CycleWf s) (honline : s.online = true)
    (hne : s.dcc.stage ≠ .approach) (haside : ∀ u v, ResvAside u v → P u → P v) (haside' : ∀ u v, ResvAside u v → Q u → Q v)
    (hreview : ∀ u, u.dcc.stage = s.dcc.stage → u.online = true → P u → P (reviewResv u))
    (hclose : ∀ u, s.dcc.stage = .admitting → u.dcc.stage = .admitting → u.online = true → s.zcu.yielding = false → P u →
      P (closeGate (u.onZcu fun z => { z with yielding := true })))
    (hopen : ∀ u, s.dcc.stage = .admitting → u.dcc.stage = .admitting → u.online = true → s.zcu.yielding = true → P u →
      P (openGate (u.onZcu fun z => { z with yielding := false })))
    (hlast : ∀ u, u.dcc.stage = s.dcc.stage → u.online = true → P u → Q (reviewResv u)) (hb : P b) : Q t := by
  have hset := h.set.leads
  have hr : P r := by
    rcases h.level with hr | hr
    · rw [hr]
      exact hb
    · rw [hr]
      exact hreview (refreshSurface b) hset.stage (hset.online.trans honline)
        (haside b _ (Aside.refreshSurface b).resvAside hb)
  have hx : P x := haside r x h.before.resvAside hr
  have hlead := h.leads
  have hxonline := hlead.online.trans honline
  have hadmitting : x.dcc.stage.yields = true → x.dcc.stage = .admitting := fun hy =>
    ((yields_iff _).mp hy).resolve_left (by rw [hlead.stage]; exact hne)
  have hv : P (zcuTableChange stored x) ∧ (zcuTableChange stored x).dcc.stage = x.dcc.stage
      ∧ (zcuTableChange stored x).online = true := by
    rcases zcuTableChange_yieldStep (stored := stored) (h.cycleOk hok) hxonline with
      hn | ⟨y, hy, hs, hxy, hv⟩ | ⟨y, hy, hs, hxy, hv, he⟩
    · exact ⟨haside x _ hn hx, hn.stage, hn.toKept.online.trans hxonline⟩
    · have hyst := hy.stage.trans (hadmitting hs)
      have hyonline := hy.toKept.online.trans hxonline
      have hyield : beginYield y = closeGate (y.onZcu fun z => { z with yielding := true }) :=
        beginYield_of_ne (by rw [hyst]; nofun)
      rw [hv]
      refine ⟨?_, (beginYield_fields y).1.trans hy.stage, (Quiet.beginYield y).toKept.online.trans hyonline⟩
      rw [hyield]
      exact hclose y (hlead.stage.symm.trans (hadmitting hs)) hyst hyonline (by rw [← hlead.zcu]; exact hxy) (haside x y hy hx)
    · have hyst := hy.stage.trans (hadmitting hs)
      have hyonline := hy.toKept.online.trans hxonline
      have hstage : (zcuTableChange stored x).dcc.stage = x.dcc.stage :=
        (he.stage.resolve_right fun ⟨ha, _⟩ => by rw [hyst] at ha; cases ha).trans hy.stage
      refine ⟨?_, hstage, he.toKept.online.trans hyonline⟩
      rw [hv, endYield_of_ne (by rw [hyst]; nofun)]
      exact hopen y (hlead.stage.symm.trans (hadmitting hs)) hyst hyonline (by rw [← hlead.zcu]; exact hxy) (haside x y hy hx)
  obtain ⟨hPv, hstage, hvonline⟩ := hv
  have hw := h.claim.resvAside
  exact haside' _ t h.after.resvAside (hlast w (hw.stage.trans (hstage.trans hlead.stage)) (hw.toKept.online.trans hvonline)
    (haside _ w hw hPv))

/-! ### What a review makes of each state of the reservation (R176, R178) -/

theorem reviewResv_none (h : s.adm.resv = .none) : reviewResv s = s := by simp only [reviewResv, h]
theorem reviewResv_admitted (h : s.adm.resv = .admitted) : reviewResv s = s := by simp only [reviewResv, h]

theorem reviewResv_waiting {q : ResvReason} (h : s.adm.resv = .waiting q) (hf : s.dcc.stage ≠ .fault) :
    reviewResv s = testResv s := by
  simp only [reviewResv, h, if_neg hf]

theorem reviewResv_fault {q : ResvReason} (h : s.adm.resv = .waiting q) (hf : s.dcc.stage = .fault) : reviewResv s = s := by
  simp only [reviewResv, h, if_pos hf]

theorem reviewResv_fits {q : Option Word} (h : s.adm.resv = .pending q) (hf : s.committedFits = true) : reviewResv s = s := by
  simp only [reviewResv, h, if_pos hf]

theorem reviewResv_withdraws {q : Option Word} (h : s.adm.resv = .pending q) (hf : s.committedFits = false) :
    reviewResv s = setResv (.waiting s.withdrawReason) s := by
  simp only [reviewResv, h, hf]
  rfl

theorem testResv_some {q : ResvReason} (h : s.admissionTest = some q) : testResv s = setResv (.waiting q) s := by
  simp only [testResv, h]

theorem testResv_none (h : s.admissionTest = none) : testResv s = setResv (.pending none) s := by
  simp only [testResv, h]

theorem setResv_admissionTest (q : ResvState) (s : State) : (setResv q s).admissionTest = s.admissionTest :=
  (Quiet.setResv q s).toKept.admissionTest (by simp)

theorem closeGate_waiting {q : ResvReason} (h : s.adm.resv = .waiting q) (hf : s.dcc.stage ≠ .fault) :
    closeGate s = testResv (s.onAdm fun a => { a with gateClosed := true }) := by
  simp only [closeGate, onAdm_fields, h, if_neg hf]

theorem closeGate_pending {q : Option Word} (h : s.adm.resv = .pending q) :
    closeGate s = setResv (.waiting .conflict) (s.onAdm fun a => { a with gateClosed := true }) := by
  simp only [closeGate, onAdm_fields, h]

theorem closeGate_admitted (h : s.adm.resv = .admitted) :
    closeGate s = s.onAdm fun a => { a with gateClosed := true } := by
  simp only [closeGate, onAdm_fields, h]

theorem openGate_waiting {q : ResvReason} (h : s.adm.resv = .waiting q) (hf : s.dcc.stage ≠ .fault) :
    openGate s = testResv (s.onAdm fun a => { a with gateClosed := false }) := by
  simp only [openGate, onAdm_fields, h, if_neg hf]

theorem openGate_pending {q : Option Word} (h : s.adm.resv = .pending q) :
    openGate s = s.onAdm fun a => { a with gateClosed := false } := by
  simp only [openGate, onAdm_fields, h]

theorem openGate_admitted (h : s.adm.resv = .admitted) :
    openGate s = s.onAdm fun a => { a with gateClosed := false } := by
  simp only [openGate, onAdm_fields, h]

theorem test_ne_none_of_not_fits (h : s.committedFits = false) : s.admissionTest ≠ none := fun hn => by
  rw [committedFits_of_test hn] at h
  cases h

theorem withdrawReason_of_test (h : s.admissionTest ≠ none) : s.admissionTest = some s.withdrawReason := by
  unfold State.withdrawReason
  cases ht : s.admissionTest with
  | none => exact absurd ht h
  | some q => rfl

theorem ResvAside.admissionTest (h : ResvAside u v) : v.admissionTest = u.admissionTest := h.toKept.admissionTest h.gate

/-! ### A reservation that waits, outside FAULT (R176, R180) -/

/-- In ADMIT the hold of `s` stands, and so does the hold time (R36). -/
def HoldStands (s u : State) : Prop :=
  u.dcc.stage = .admitting → u.holds.2 = s.holds.2 ∧ ∀ h, s.dcc.hold = some h → ∃ h', u.holds.1 = some h' ∧ h'.elapsed = h.elapsed

/-- In ADMIT the hold of `s` has ended, its length added to the hold time (R36, R104). -/
def HoldOver (s u : State) : Prop :=
  u.dcc.stage = .admitting → u.holds.1 = none
    ∧ ∀ h, s.dcc.hold = some h → u.holds.2 = s.dcc.active.map fun d => holdTimeAfter s.dcc.hold d

/-- The test has passed: PENDING with its request, the hold over (R175). -/
def AskedOpen (s u : State) : Prop :=
  u.adm.resv = .pending none ∧ u.admissionTest = none ∧ u.requested ∧ HoldOver s u

/-- A WAITING reservation of `s` in the midst of the change: it waits, in the hold of `s` or under a gate that this change closed;
or its test has passed. -/
def Asks (s u : State) : Prop :=
  ((∃ q, u.adm.resv = .waiting q) ∧ (HoldStands s u ∨ (u.adm.gateClosed = true ∧ s.zcu.yielding = false))) ∨ AskedOpen s u

/-- A WAITING reservation of `s` after its last test. -/
def Answered (s u : State) : Prop := (∃ q, u.admissionTest = some q ∧ u.adm.resv = .waiting q) ∨ AskedOpen s u

theorem HoldStands.aside (h : HoldStands s u) (ha : ResvAside u v) : HoldStands s v := fun hst => by
  have hu := ha.stage.symm.trans hst
  rw [ha.holds hu]
  exact h hu

theorem AskedOpen.aside (h : AskedOpen s u) (ha : ResvAside u v) : AskedOpen s v := by
  obtain ⟨hresv, htest, hrequest, hhold⟩ := h
  refine ⟨ha.resv.trans hresv, ha.admissionTest.trans htest, ha.request hrequest, fun hst => ?_⟩
  have hu := ha.stage.symm.trans hst
  rw [ha.holds hu]
  exact hhold hu

theorem Asks.aside (h : Asks s u) (ha : ResvAside u v) : Asks s v := by
  rcases h with ⟨⟨q, hq⟩, hhold⟩ | h
  · refine .inl ⟨⟨q, ha.resv.trans hq⟩, hhold.imp (·.aside ha) fun ⟨hg, hy⟩ => ⟨ha.gate.trans hg, hy⟩⟩
  · exact .inr (h.aside ha)

theorem Answered.aside (h : Answered s u) (ha : ResvAside u v) : Answered s v := by
  rcases h with ⟨q, ht, hq⟩ | h
  · exact .inl ⟨q, ha.admissionTest.trans ht, ha.resv.trans hq⟩
  · exact .inr (h.aside ha)

theorem holdStands_setResv {q : ResvReason} (h : HoldStands s u) : HoldStands s (setResv (.waiting q) u) := fun hst => by
  have hu : u.dcc.stage = .admitting := (setResv_fields (.waiting q) u).2.1.symm.trans hst
  obtain ⟨htimes, hhold⟩ := h hu
  rw [setResv_waiting_holds q hu]
  refine ⟨htimes, fun h hh => ?_⟩
  obtain ⟨h', hh', helapsed⟩ := hhold h hh
  have hhold' : u.dcc.hold = some h' := hh'
  refine ⟨_, rfl, ?_⟩
  rw [hhold']
  exact helapsed

/-- The hold times of two states whose holds are alike in length (R36). -/
theorem timesAfter_of_stands {h h' : Hold} (hs : s.dcc.hold = some h) (hu : u.dcc.hold = some h') (he : h'.elapsed = h.elapsed)
    (htimes : u.holds.2 = s.holds.2) :
    (u.dcc.active.map fun d => holdTimeAfter u.dcc.hold d) = s.dcc.active.map fun d => holdTimeAfter s.dcc.hold d := by
  have hmap : ∀ (z : State) (k : Hold), z.dcc.hold = some k → (z.dcc.active.map fun d => holdTimeAfter z.dcc.hold d)
      = z.holds.2.map fun n => min 4294967295 (n + k.elapsed) := fun z k hk => by
    rw [State.holds, Option.map_map, hk]
    rfl
  rw [hmap u h' hu, hmap s h hs, htimes, he]

theorem holdOver_setResv {q : Option Word} (h : HoldStands s u) : HoldOver s (setResv (.pending q) u) := fun hst => by
  have hu : u.dcc.stage = .admitting := (setResv_fields (.pending q) u).2.1.symm.trans hst
  obtain ⟨htimes, hhold⟩ := h hu
  rw [setResv_pending_holds q hu]
  refine ⟨rfl, fun h hh => ?_⟩
  obtain ⟨h', hh', helapsed⟩ := hhold h hh
  exact timesAfter_of_stands hh hh' helapsed htimes

/-- A test made while the reservation waits (R176). -/
theorem testResv_answers {q : ResvReason} (honline : u.online = true) (hq : u.adm.resv = .waiting q)
    (hhold : HoldStands s u ∨ (u.adm.gateClosed = true ∧ s.zcu.yielding = false)) :
    Asks s (testResv u) ∧ Answered s (testResv u) := by
  cases ht : u.admissionTest with
  | some q' =>
    rw [testResv_some ht]
    obtain ⟨hadm, -, -, -⟩ := setResv_fields (.waiting q') u
    have hwaiting : (setResv (.waiting q') u).adm.resv = .waiting q' := by rw [hadm]
    refine ⟨.inl ⟨⟨q', hwaiting⟩, hhold.imp holdStands_setResv fun ⟨hg, hy⟩ => ⟨by rw [hadm]; exact hg, hy⟩⟩,
      .inl ⟨q', (setResv_admissionTest _ u).trans ht, hwaiting⟩⟩
  | none =>
    have hstands : HoldStands s u := hhold.resolve_right fun ⟨hg, _⟩ => admissionTest_of_closed hg ht
    rw [testResv_none ht]
    have hopen : AskedOpen s (setResv (.pending none) u) :=
      ⟨by rw [(setResv_fields _ u).1], (setResv_admissionTest _ u).trans ht,
        setResv_requested _ honline (by rw [hq]; nofun), holdOver_setResv hstands⟩
    exact ⟨.inr hopen, .inr hopen⟩

theorem reviewResv_answers (honline : u.online = true) (hf : u.dcc.stage ≠ .fault) (h : Asks s u) :
    Asks s (reviewResv u) ∧ Answered s (reviewResv u) := by
  rcases h with ⟨⟨q, hq⟩, hhold⟩ | h
  · rw [reviewResv_waiting hq hf]
    exact testResv_answers honline hq hhold
  · have hsame : reviewResv u = u := reviewResv_fits h.1 (committedFits_of_test h.2.1)
    rw [hsame]
    exact ⟨.inr h, .inr h⟩

/-- The gate closed (R180): a reservation that had passed the test waits again. -/
theorem closeGate_asks (honline : u.online = true) (hst : u.dcc.stage = .admitting) (hy : s.zcu.yielding = false)
    (h : Asks s u) : Asks s (closeGate (u.onZcu fun z => { z with yielding := true })) := by
  have hf : u.dcc.stage ≠ .fault := by rw [hst]; nofun
  rcases h with ⟨⟨q, hq⟩, -⟩ | ⟨hpending, -⟩
  · rw [closeGate_waiting (s := u.onZcu fun z => { z with yielding := true }) hq hf]
    exact (testResv_answers (u := (u.onZcu fun z => { z with yielding := true }).onAdm fun a => { a with gateClosed := true })
      honline hq (.inr ⟨rfl, hy⟩)).1
  · rw [closeGate_pending (s := u.onZcu fun z => { z with yielding := true }) hpending]
    refine .inl ⟨⟨.conflict, by rw [(setResv_fields _ _).1]⟩, .inr ⟨by rw [(setResv_fields _ _).1]; rfl, hy⟩⟩

/-- The gate opened (R180): a reservation that waits tests again, one that had passed stands. -/
theorem openGate_asks (honline : u.online = true) (hst : u.dcc.stage = .admitting) (hy : s.zcu.yielding = true)
    (h : Asks s u) : Asks s (openGate (u.onZcu fun z => { z with yielding := false })) := by
  have hf : u.dcc.stage ≠ .fault := by rw [hst]; nofun
  rcases h with ⟨⟨q, hq⟩, hhold⟩ | ⟨hpending, htest, hrequest, hover⟩
  · rw [openGate_waiting (s := u.onZcu fun z => { z with yielding := false }) hq hf]
    refine (testResv_answers (u := (u.onZcu fun z => { z with yielding := false }).onAdm fun a => { a with gateClosed := false })
      honline hq (.inl ?_)).1
    exact hhold.resolve_right fun ⟨_, hn⟩ => by rw [hy] at hn; cases hn
  · rw [openGate_pending (s := u.onZcu fun z => { z with yielding := false }) hpending]
    refine .inr ⟨hpending, ?_, hrequest, hover⟩
    rw [admissionTest_eq, Option.or_eq_none_iff] at htest ⊢
    exact ⟨htest.1, rfl⟩

theorem TableParts.answered (h : TableParts stored s b r x w t) (hok : CycleWf s) (honline : s.online = true)
    (hne : s.dcc.stage ≠ .approach) (hf : s.dcc.stage ≠ .fault) {q : ResvReason} (hq : s.adm.resv = .waiting q) :
    Answered s t := by
  refine h.resv (P := Asks s) (Q := Answered s) hok honline hne (fun u v ha hu => hu.aside ha) (fun u v ha hu => hu.aside ha)
    (fun u hst ho hu => (reviewResv_answers ho (by rw [hst]; exact hf) hu).1) (fun u _ hst ho hy hu => closeGate_asks ho hst hy hu)
    (fun u _ hst ho hy hu => openGate_asks ho hst hy hu)
    (fun u hst ho hu => (reviewResv_answers ho (by rw [hst]; exact hf) hu).2) ?_
  refine .inl ⟨⟨q, by rw [h.set.adm, hq]⟩, .inl fun _ => ?_⟩
  rw [holds_congr h.set.dcc]
  exact ⟨rfl, fun k hk => ⟨k, hk, rfl⟩⟩

/-! ### A reservation that is PENDING (R178, R180) -/

/-- A yield has come into effect since `s`. -/
def Began (s u : State) : Prop := s.zcu.yielding = false ∧ u.zcu.yielding = true

theorem ResvAside.began (h : ResvAside u v) : Began s v ↔ Began s u := by rw [Began, Began, h.yielding]

/-- A PENDING reservation of `s` in the midst of the change: it stands, no yield having begun; or it waits, for a sum that does not
fit or a gate that closed. -/
def Stands (q : Option Word) (s u : State) : Prop :=
  (u.adm.resv = .pending q ∧ ¬ Began s u)
    ∨ (∃ p, u.adm.resv = .waiting p ∧ u.requested ∧ u.admissionTest ≠ none ∧ (u.dcc.stage = .fault → u.admissionTest = some p)
      ∧ (u.committedFits = false ∨ Began s u))

/-- A PENDING reservation of `s` after its last review. -/
def Reviewed (q : Option Word) (s u : State) : Prop :=
  (u.adm.resv = .pending q ∧ ¬ Began s u ∧ u.committedFits = true)
    ∨ (∃ p, u.admissionTest = some p ∧ u.adm.resv = .waiting p ∧ u.requested ∧ (u.committedFits = false ∨ Began s u))

theorem Stands.aside {q : Option Word} (h : Stands q s u) (ha : ResvAside u v) : Stands q s v := by
  rcases h with ⟨hq, hb⟩ | ⟨p, hp, hrequest, htest, hfault, hwhy⟩
  · exact .inl ⟨ha.resv.trans hq, mt ha.began.mp hb⟩
  · refine .inr ⟨p, ha.resv.trans hp, ha.request hrequest, by rw [ha.admissionTest]; exact htest, fun hf => ?_, ?_⟩
    · rw [ha.admissionTest]
      exact hfault (ha.stage.symm.trans hf)
    · rw [ha.toKept.committedFits, ha.began]
      exact hwhy

theorem Reviewed.aside {q : Option Word} (h : Reviewed q s u) (ha : ResvAside u v) : Reviewed q s v := by
  rcases h with ⟨hq, hb, hfits⟩ | ⟨p, htest, hp, hrequest, hwhy⟩
  · exact .inl ⟨ha.resv.trans hq, mt ha.began.mp hb, ha.toKept.committedFits.trans hfits⟩
  · refine .inr ⟨p, ha.admissionTest.trans htest, ha.resv.trans hp, ha.request hrequest, ?_⟩
    rw [ha.toKept.committedFits, ha.began]
    exact hwhy

theorem Reviewed.stands {q : Option Word} (h : Reviewed q s u) : Stands q s u := by
  rcases h with ⟨hq, hb, -⟩ | ⟨p, htest, hp, hrequest, hwhy⟩
  · exact .inl ⟨hq, hb⟩
  · exact .inr ⟨p, hp, hrequest, by rw [htest]; nofun, fun _ => htest, hwhy⟩

/-- A reservation set WAITING with the reason of the test, for a cause that stands (R178). -/
theorem setResv_reviewed {q : Option Word} {p : ResvReason} (htest : u.admissionTest = some p)
    (hrequest : (setResv (.waiting p) u).requested) (hwhy : u.committedFits = false ∨ Began s u) :
    Reviewed q s (setResv (.waiting p) u) := by
  obtain ⟨hadm, -, hzcu, -⟩ := setResv_fields (.waiting p) u
  refine .inr ⟨p, (setResv_admissionTest _ u).trans htest, by rw [hadm], hrequest, ?_⟩
  rw [(Quiet.setResv _ u).toKept.committedFits, Began, hzcu]
  exact hwhy

theorem reviewResv_reviewed {q : Option Word} (honline : u.online = true) (h : Stands q s u) : Reviewed q s (reviewResv u) := by
  rcases h with ⟨hq, hb⟩ | ⟨p, hp, hrequest, htest, hfault, hwhy⟩
  · cases hfits : u.committedFits with
    | true =>
      rw [reviewResv_fits hq hfits]
      exact .inl ⟨hq, hb, hfits⟩
    | false =>
      rw [reviewResv_withdraws hq hfits]
      exact setResv_reviewed (withdrawReason_of_test (test_ne_none_of_not_fits hfits))
        (setResv_requested _ honline (by rw [hq]; nofun)) (.inl hfits)
  · by_cases hf : u.dcc.stage = .fault
    · rw [reviewResv_fault hp hf]
      exact .inr ⟨p, hfault hf, hp, hrequest, hwhy⟩
    · have hreason := withdrawReason_of_test htest
      rw [reviewResv_waiting hp hf, testResv_some hreason]
      exact setResv_reviewed hreason ((Quiet.setResv _ u).request hrequest) hwhy

theorem closeGate_stands {q : Option Word} (honline : u.online = true) (hst : u.dcc.stage = .admitting)
    (hy : s.zcu.yielding = false) (h : Stands q s u) : Stands q s (closeGate (u.onZcu fun z => { z with yielding := true })) := by
  have hf : u.dcc.stage ≠ .fault := by rw [hst]; nofun
  let g := (u.onZcu fun z => { z with yielding := true }).onAdm fun a => { a with gateClosed := true }
  have hgate : g.admissionTest ≠ none := admissionTest_of_closed rfl
  have hbegan : Began s g := ⟨hy, rfl⟩
  rcases h with ⟨hq, -⟩ | ⟨p, hp, hrequest, -⟩
  · rw [closeGate_pending (s := u.onZcu fun z => { z with yielding := true }) hq]
    obtain ⟨hadm, hstage, hzcu, -⟩ := setResv_fields (.waiting .conflict) g
    refine .inr ⟨.conflict, by rw [hadm], setResv_requested _ honline (by show _ ≠ u.adm.resv.status; rw [hq]; nofun),
      by rw [setResv_admissionTest]; exact hgate, fun hn => ?_, .inr ?_⟩
    · exact absurd (hstage.symm.trans hn) hf
    · rw [Began, hzcu]
      exact hbegan
  · have hreason := withdrawReason_of_test hgate
    rw [closeGate_waiting (s := u.onZcu fun z => { z with yielding := true }) hp hf, testResv_some hreason]
    exact (setResv_reviewed hreason ((Quiet.setResv _ g).request hrequest) (.inr hbegan)).stands

theorem openGate_stands {q : Option Word} (hst : u.dcc.stage = .admitting)
    (hy : s.zcu.yielding = true) (h : Stands q s u) : Stands q s (openGate (u.onZcu fun z => { z with yielding := false })) := by
  have hf : u.dcc.stage ≠ .fault := by rw [hst]; nofun
  have hnot : ∀ z, ¬ Began s z := fun z hn => by
    rw [Began, hy] at hn
    cases hn.1
  let g := (u.onZcu fun z => { z with yielding := false }).onAdm fun a => { a with gateClosed := false }
  rcases h with ⟨hq, -⟩ | ⟨p, hp, hrequest, -, -, hwhy⟩
  · rw [openGate_pending (s := u.onZcu fun z => { z with yielding := false }) hq]
    exact .inl ⟨hq, hnot _⟩
  · have hfits : g.committedFits = false := hwhy.resolve_right (hnot u)
    have hreason := withdrawReason_of_test (test_ne_none_of_not_fits hfits)
    rw [openGate_waiting (s := u.onZcu fun z => { z with yielding := false }) hp hf, testResv_some hreason]
    exact (setResv_reviewed hreason ((Quiet.setResv _ g).request hrequest) (.inl hfits)).stands

theorem TableParts.reviewed (h : TableParts stored s b r x w t) (hok : CycleWf s) (honline : s.online = true)
    (hne : s.dcc.stage ≠ .approach) {q : Option Word} (hq : s.adm.resv = .pending q) : Reviewed q s t := by
  refine h.resv (P := Stands q s) (Q := Reviewed q s) hok honline hne (fun u v ha hu => hu.aside ha) (fun u v ha hu => hu.aside ha)
    (fun u _ ho hu => (reviewResv_reviewed ho hu).stands) (fun u _ hst ho hy hu => closeGate_stands ho hst hy hu)
    (fun u _ hst _ hy hu => openGate_stands hst hy hu) (fun u _ ho hu => reviewResv_reviewed ho hu) ?_
  refine .inl ⟨by rw [h.set.adm, hq], ?_⟩
  rw [Began, h.set.zcu]
  exact fun ⟨hn, hy⟩ => by rw [hn] at hy; cases hy

/-! ### A reservation that the change leaves (R176, R180) -/

/-- NONE, ADMITTED, and in FAULT WAITING stay as they are (R176, R178). -/
theorem TableParts.stays (h : TableParts stored s b r x w t) (hok : CycleWf s) (honline : s.online = true)
    (hne : s.dcc.stage ≠ .approach)
    (hstay : s.adm.resv = .none ∨ s.adm.resv = .admitted ∨ ((∃ q, s.adm.resv = .waiting q) ∧ s.dcc.stage = .fault)) :
    t.adm.resv = s.adm.resv := by
  have hreview : ∀ u, u.dcc.stage = s.dcc.stage → u.online = true → u.adm.resv = s.adm.resv →
      (reviewResv u).adm.resv = s.adm.resv := fun u hst _ hu => by
    rcases hstay with hs | hs | ⟨⟨q, hs⟩, hf⟩
    · rw [reviewResv_none (hu.trans hs), hu]
    · rw [reviewResv_admitted (hu.trans hs), hu]
    · rw [reviewResv_fault (hu.trans hs) (hst.trans hf), hu]
  have hleft : s.dcc.stage = .admitting → s.adm.resv = .none ∨ s.adm.resv = .admitted := fun hst => by
    rcases hstay with hs | hs | ⟨-, hf⟩
    · exact .inl hs
    · exact .inr hs
    · rw [hst] at hf
      cases hf
  refine h.resv (P := fun u => u.adm.resv = s.adm.resv) (Q := fun u => u.adm.resv = s.adm.resv) hok honline hne
    (fun u v ha hu => ha.resv.trans hu) (fun u v ha hu => ha.resv.trans hu) hreview (fun u hst _ _ _ hu => ?_)
    (fun u hst _ _ _ hu => ?_) hreview (by rw [h.set.adm])
  · rcases hleft hst with hs | hs
    · rw [closeGate_of_none (s := u.onZcu fun z => { z with yielding := true }) (hu.trans hs)]
      exact hu
    · rw [closeGate_admitted (s := u.onZcu fun z => { z with yielding := true }) (hu.trans hs)]
      exact hu
  · rcases hleft hst with hs | hs
    · rw [openGate_of_none (s := u.onZcu fun z => { z with yielding := false }) (hu.trans hs)]
      exact hu
    · rw [openGate_admitted (s := u.onZcu fun z => { z with yielding := false }) (hu.trans hs)]
      exact hu

/-! ### In APPROACH (R37, R175) -/

theorem Aside.tested (h : Aside s t) (hs : Tested s) : Tested t := by
  have htest := h.resvAside.admissionTest
  refine ⟨fun q hq => ?_, fun hn => ?_⟩
  · rw [htest] at hq
    exact h.resv.trans (hs.1 q hq)
  · rw [htest] at hn
    exact ⟨h.resv.trans (hs.2 hn).1, h.request (hs.2 hn).2⟩

theorem reviewResv_tested (honline : s.online = true) (hf : s.dcc.stage ≠ .fault) (hs : Tested s) : Tested (reviewResv s) := by
  cases ht : s.admissionTest with
  | some q =>
    rw [reviewResv_waiting (hs.1 q ht) hf]
    exact testResv_tested honline (by rw [hs.1 q ht]; rfl)
  | none =>
    rw [reviewResv_fits (hs.2 ht).1 (committedFits_of_test ht)]
    exact hs

/-- A dip in APPROACH has no reservation to test; where the change lets it into ADMIT it asks (R30, R37, R175). -/
theorem TableParts.approach (h : TableParts stored s b r x w t) (hok : CycleWf s) (honline : s.online = true)
    (hst : s.dcc.stage = .approach) :
    (t.dcc.stage = .approach → t.adm.resv = .none) ∧ (t.dcc.stage ≠ .approach → Tested t) := by
  have hcycle := h.cycleOk hok
  have hlead := h.leads
  have hxst : x.dcc.stage = .approach := hlead.stage.trans hst
  have hxr : x.adm.resv = .none := hcycle.unreserved (.inr (.inr (.inr hxst)))
  have hxonline := hlead.online.trans honline
  have htst : t.dcc.stage = (zcuTableChange stored x).dcc.stage := h.follows.stage
  have hnone : (zcuTableChange stored x).adm.resv = .none → t.adm.resv = .none := fun hr => by
    have hw : w.adm.resv = .none := h.claim.resv.trans hr
    have ht := h.after.resv
    rw [reviewResv_none hw] at ht
    exact ht.trans hw
  rw [htst]
  rcases zcuTableChange_yieldStep (stored := stored) hcycle hxonline with hn | ⟨y, hy, -, -, hv⟩ | ⟨y, hy, -, -, hv, he⟩
  · exact ⟨fun _ => hnone (hn.resv.trans hxr), fun hne => absurd (hn.stage.trans hxst) hne⟩
  · obtain ⟨hstage, -, hresv⟩ := beginYield_fields y
    rw [← hv] at hstage hresv
    exact ⟨fun _ => hnone (hresv (hy.resv.trans hxr)), fun hne => absurd (hstage.trans (hy.stage.trans hxst)) hne⟩
  · refine ⟨fun ha => hnone (he.alone ha), fun hne => ?_⟩
    have hyst := hy.stage.trans hxst
    have htested : Tested (zcuTableChange stored x) := he.asked (by rw [hyst]; exact hne)
    have hvst : (zcuTableChange stored x).dcc.stage = .admitting := (he.stage.resolve_left (by rw [hyst]; exact hne)).2
    have hwst : w.dcc.stage ≠ .fault := by
      rw [h.claim.resvAside.stage, hvst]
      nofun
    have hwonline := h.claim.toKept.online.trans (he.toKept.online.trans (hy.toKept.online.trans hxonline))
    exact h.after.tested (reviewResv_tested hwonline hwst (h.claim.tested htested))

/-! ### The stage, the gate and the hold (R30, R35, R180) -/

/-- What every table change keeps, and how it moves the stage and the gate (R169, R180). -/
structure ChangeBounds (s x t : State) : Prop where
  kept  : Kept x t
  stage : t.dcc.stage = s.dcc.stage ∨ (s.dcc.stage = .approach ∧ t.dcc.stage = .admitting ∧ s.zcu.yielding = true
    ∧ t.zcu.yielding = false)
  moved : s.zcu.yielding ≠ t.zcu.yielding → t.adm.gateClosed = t.zcu.yielding
  still : s.zcu.yielding = t.zcu.yielding → t.adm.gateClosed = s.adm.gateClosed

theorem TableParts.bounds (h : TableParts stored s b r x w t) (hok : CycleWf s) (honline : s.online = true) :
    ChangeBounds s x t := by
  have hlead := h.leads
  have hfollow := h.follows
  have hsx : x.zcu.yielding = s.zcu.yielding := by rw [hlead.zcu]
  have htv : t.zcu.yielding = (zcuTableChange stored x).zcu.yielding := by rw [hfollow.zcu]
  rcases zcuTableChange_yieldStep (stored := stored) (h.cycleOk hok) (hlead.online.trans honline) with
    hn | ⟨y, hy, -, hxy, hv⟩ | ⟨y, hy, -, hxy, hv, he⟩
  · have hsame : t.zcu.yielding = s.zcu.yielding := htv.trans (hn.yielding.trans hsx)
    exact ⟨hn.toKept.trans hfollow.toKept, .inl (hfollow.stage.trans (hn.stage.trans hlead.stage)),
      fun hd => absurd hsame.symm hd, fun _ => hfollow.gate.trans (hn.gate.trans hlead.gate)⟩
  · obtain ⟨hstage, hgate, -⟩ := beginYield_fields y
    have hyield : t.zcu.yielding = true := by
      rw [htv, hv, beginYield_zcu]
    have hq := Quiet.beginYield y
    rw [← hv] at hstage hgate hq
    refine ⟨hy.toKept.trans (hq.toKept.trans hfollow.toKept),
      .inl (hfollow.stage.trans (hstage.trans (hy.stage.trans hlead.stage))), fun _ => ?_, fun hd => ?_⟩
    · rw [hfollow.gate, hgate, hyield]
    · rw [hyield, ← hsx, hxy] at hd
      cases hd
  · have hyield : t.zcu.yielding = false := by
      rw [htv, he.zcu]
    refine ⟨hy.toKept.trans (he.toKept.trans hfollow.toKept), ?_, fun _ => ?_, fun hd => ?_⟩
    · rcases he.stage with hst | ⟨ha, hst⟩
      · exact .inl (hfollow.stage.trans (hst.trans (hy.stage.trans hlead.stage)))
      · exact .inr ⟨hlead.stage.symm.trans (hy.stage.symm.trans ha), hfollow.stage.trans hst, hsx.symm.trans hxy, hyield⟩
    · rw [hfollow.gate, he.gate, hyield]
    · rw [hyield, ← hsx, hxy] at hd
      cases hd

/-- In ADMIT a reservation that the last review leaves WAITING is a hold with its reason (R30, R35). -/
theorem reviewResv_hold {q : ResvReason} (hst : s.dcc.stage = .admitting) (hq : (reviewResv s).adm.resv = .waiting q) :
    ∃ h, (reviewResv s).dcc.hold = some h ∧ h.reason = q.hold := by
  have hset : ∀ p, (setResv (.waiting p) s).adm.resv = .waiting q →
      ∃ h, (setResv (.waiting p) s).dcc.hold = some h ∧ h.reason = q.hold := fun p hp => by
    rw [(setResv_fields _ s).1] at hp
    cases hp
    exact ⟨_, congrArg Prod.fst (setResv_waiting_holds q hst), waiting_reason _ _⟩
  cases hr : s.adm.resv with
  | none =>
    rw [reviewResv_none hr, hr] at hq
    cases hq
  | admitted =>
    rw [reviewResv_admitted hr, hr] at hq
    cases hq
  | waiting p =>
    rw [reviewResv_waiting hr (by rw [hst]; nofun)] at hq ⊢
    cases ht : s.admissionTest with
    | some p' =>
      rw [testResv_some ht] at hq ⊢
      exact hset p' hq
    | none =>
      rw [testResv_none ht, (setResv_fields _ s).1] at hq
      cases hq
  | pending p =>
    cases hfits : s.committedFits with
    | true =>
      rw [reviewResv_fits hr hfits, hr] at hq
      cases hq
    | false =>
      rw [reviewResv_withdraws hr hfits] at hq ⊢
      exact hset _ hq

/-- Settles O52: by the stage and the reservation in which the change finds the dip. -/
theorem tableChangesMoveTheReservation : Obligations.TableChangesMoveTheReservation := by
  intro s c stored hwf harrival
  obtain ⟨t, b, r, x, w, hexec, hparts⟩ := tableArrival_parts harrival
  have honline : s.online = true := harrival.1
  have hlead := hparts.leads
  have hbounds := hparts.bounds hwf honline
  have hcycle := (cycleWf_iff s).mp hwf
  have hunreserved : s.dcc.stage = .approach → s.adm.resv = .none := fun hst => hcycle.unreserved (.inr (.inr (.inr hst)))
  have hstays : s.dcc.stage ≠ .approach → t.dcc.stage = s.dcc.stage := fun hne =>
    hbounds.stage.resolve_right fun ⟨ha, _⟩ => hne ha
  have hfresh : t.fresh := by
    have hkept : Kept x (zcuTableChange stored x) := by
      rcases zcuTableChange_yieldStep (stored := stored) (hparts.cycleOk hwf) (hlead.online.trans honline) with
        hn | ⟨y, hy, -, -, hv⟩ | ⟨y, hy, -, -, -, he⟩
      · exact hn.toKept
      · rw [hv]
        exact hy.toKept.trans (Quiet.beginYield y).toKept
      · exact hy.toKept.trans he.toKept
    exact hparts.after.fresh ((Quiet.reviewResv w).fresh (hparts.fresh hkept))
  refine ⟨t, hexec, fun hr hst => ?_, fun hd => hbounds.stage.resolve_left hd, fun hask => ?_, fun q hq hf => ?_, fun q hq => ?_,
    fun hr => ?_, fun q hst hq => ?_, fun q p hst hq hp => ?_, hbounds.moved, hbounds.still, hbounds.kept.full.trans hlead.full,
    hfresh, hbounds.kept.queue.trans hlead.queue, hbounds.kept.acu.trans hlead.acu⟩
  · by_cases ha : s.dcc.stage = .approach
    · exact (hparts.approach hwf honline ha).1 (hst.trans ha)
    · rw [hparts.stays hwf honline ha (.inl hr), hr]
  · by_cases ha : s.dcc.stage = .approach
    · have hmoved : t.dcc.stage ≠ .approach := by
        rcases hask with ⟨⟨q, hq⟩, -⟩ | hd
        · rw [hunreserved ha] at hq
          cases hq
        · rw [← ha]
          exact hd
      exact (hparts.approach hwf honline ha).2 hmoved
    · obtain ⟨⟨q, hq⟩, hf⟩ := hask.resolve_right fun hd => hd (hstays ha)
      rcases hparts.answered hwf honline ha hf hq with ⟨p, htest, hp⟩ | ⟨hp, htest, hrequest, -⟩
      · refine ⟨fun p' hp' => ?_, fun hn => ?_⟩
        · rw [htest] at hp'
          cases hp'
          exact hp
        · rw [htest] at hn
          cases hn
      · exact ⟨fun p' hp' => (by rw [htest] at hp'; cases hp'), fun _ => ⟨hp, hrequest⟩⟩
  · rw [hparts.stays hwf honline (by rw [hf]; nofun) (.inr (.inr ⟨⟨q, hq⟩, hf⟩)), hq]
  · have ha : s.dcc.stage ≠ .approach := fun ha => by
      rw [hunreserved ha] at hq
      cases hq
    rcases hparts.reviewed hwf honline ha hq with ⟨hp, hbegan, hfits⟩ | ⟨p, htest, hp, hrequest, hwhy⟩
    · refine ⟨fun hn => ?_, fun _ _ => hp.trans hq.symm⟩
      rcases hn with hn | hn
      · rw [hfits] at hn
        cases hn
      · exact absurd hn hbegan
    · refine ⟨fun _ => ⟨p, htest, hp, hrequest⟩, fun hfits hbegan => ?_⟩
      rcases hwhy with hn | hn
      · rw [hfits] at hn
        cases hn
      · exact absurd hn hbegan
  · have ha : s.dcc.stage ≠ .approach := fun ha => by
      rw [hunreserved ha] at hr
      cases hr
    rw [hparts.stays hwf honline ha (.inr (.inl hr)), hr]
  · have hreview := hparts.after
    have hwst : w.dcc.stage = .admitting := by
      rw [← (reviewResv_fields w).2.2.1, ← hreview.resvAside.stage]
      exact hst
    obtain ⟨h, hh, hreason⟩ := reviewResv_hold hwst (hreview.resv.symm.trans hq)
    exact ⟨h, by rw [hreview.dcc, hh], hreason⟩
  · have ha : s.dcc.stage ≠ .approach := fun ha => by
      rw [hunreserved ha] at hq
      cases hq
    have hsst : s.dcc.stage = .admitting := (hstays ha).symm.trans hst
    rcases hparts.answered hwf honline ha (by rw [hsst]; nofun) hq with ⟨p', -, hp'⟩ | ⟨-, -, -, hover⟩
    · rw [hp] at hp'
      cases hp'
    · obtain ⟨hnone, htimes⟩ := hover hst
      refine ⟨hnone, fun h d hh hd => ?_⟩
      obtain ⟨e, he, htime⟩ := holdTime_of_holds (htimes h hh) hd
      exact ⟨e, he, by rw [htime, hh]; rfl⟩

end Sys2Proof.Machine
end

section
/-! PROOF. The start of a segment (O36): what the clamps, a leg and the work of each kind make of the state, an equation for each
branch, and from these what the start of each kind leaves running. -/

namespace Sys2Proof.Machine

variable {s : State}

/-! ### The hook target and the frozen target (R56) -/

theorem clampHook_of_below {c : Settings} {bottom : Int} {hang : Nat} (h : bottom + hang < c.travelLow) :
    clampHook c bottom hang = (c.travelLow, true) := if_pos h

theorem clampHook_of_within {c : Settings} {bottom : Int} {hang : Nat} (hl : (c.travelLow : Int) ≤ bottom + hang)
    (hh : bottom + hang ≤ c.travelHigh) : clampHook c bottom hang = ((bottom + hang).toNat, false) := by
  rw [clampHook, if_neg (Int.not_lt.mpr hl), if_neg (Int.not_lt.mpr hh)]

theorem clampHook_of_above {c : Settings} {bottom : Int} {hang : Nat} (hl : (c.travelLow : Int) ≤ bottom + hang)
    (hh : (c.travelHigh : Int) < bottom + hang) : clampHook c bottom hang = (c.travelHigh, true) := by
  rw [clampHook, if_neg (Int.not_lt.mpr hl), if_pos hh]

/-- The hook target of a load-bottom height for the active job, and whether a clamp acted (R56). -/
def State.hookTarget (s : State) (bottom : Int) : Nat × Bool := clampHook s.settings bottom s.hang

theorem hookTarget_of_active {d : Dip} (hd : s.dcc.active = some d) (bottom : Int) :
    s.hookTarget bottom = clampHook s.settings bottom d.job.hang := by
  rw [State.hookTarget, State.hang, State.job, hd]
  rfl

/-! ### The parts of a start (R56 to R58, R79, R82) -/

/-- The dip with a clamp of the hook target or of the speed noted in its flags (R56, R57). -/
def Dip.clamped (d : Dip) (depth speed : Bool) : Dip :=
  { d with flags := { d.flags with
      depthClamped := d.flags.depthClamped || depth, speedClamped := d.flags.speedClamped || speed } }

theorem noteClamps_active {d : Dip} (hd : s.dcc.active = some d) (depth speed : Bool) :
    (noteClamps depth speed s).dcc.active = some (d.clamped depth speed) := congrArg (Option.map _) hd

/-- A leg that starts a motion segment in `s` runs in `t`: its motion limit counts from 0, and the DRIVE_LOST timer where
drive-ready is negated (R79, R82). -/
structure LegRuns (s t : State) (r : Running) (target speed : Nat) : Prop where
  current : t.sgx.current = some r
  motion  : t.hif.motion = some { count := 0, limit := (2000 * hookDistance s.hif.hook target + speed - 1) / speed + 5000 }
  lost    : t.hif.driveLost = if s.driveReady = true then none else some 0
  hook    : t.hif.hook = s.hif.hook

/-- Nothing runs in `t`, and the hoist's timers of a segment are stopped (R58, R80, R82). -/
structure NothingRuns (s t : State) : Prop where
  current : t.sgx.current = none
  repeats : t.sgx.repeats = 0
  motion  : t.hif.motion = none
  lost    : t.hif.driveLost = none
  hook    : t.hif.hook = s.hif.hook

theorem startMotion_startLeg_of_leg {r : Running} {target speed : Nat} (h : r.leg = some (target, speed)) (u : State) :
    startMotion (startLeg r u) = (u.onSgx fun x => { x with current := some r }).onHif fun x =>
      { x with
        motion := some { count := 0, limit := motionLimit (hookDistance u.hif.hook target) speed }
        driveLost := if u.driveReady then none else some 0 } := by
  rw [startLeg, h]
  rfl

theorem legRuns_startMotion {r : Running} {target speed : Nat} {u : State} (h : r.leg = some (target, speed))
    (hu : u.hif = s.hif) : LegRuns s (startMotion (startLeg r u)) r target speed := by
  rw [startMotion_startLeg_of_leg h, State.driveReady, hu]
  exact ⟨rfl, rfl, rfl, (congrArg Hif.hook hu :)⟩

theorem nothingRuns_dropSegment {u : State} (hu : u.hif = s.hif) : NothingRuns s (dropSegment u) :=
  ⟨rfl, rfl, rfl, rfl, (congrArg Hif.hook hu :)⟩

/-! ### The start of a MOVE (R56 to R58) -/

section Move

variable (r : Reference) (target : Int) (speed : Nat) (s : State)

/-- The arrival test of a MOVE reads the hook and the arrival band, which the clamps leave (R58). -/
theorem startMove_eq :
    startMove r target speed s =
      let hook := s.hookTarget (s.freeze r target)
      let noted := noteClamps hook.2 (decide (s.settings.maxSpeed < speed)) s
      if s.inBand hook.1 then dropSegment noted
      else startMotion (startLeg (.move (s.freeze r target) hook.1 (min speed s.settings.maxSpeed)) noted) := rfl

theorem startMove_dcc :
    (startMove r target speed s).dcc
      = (noteClamps (s.hookTarget (s.freeze r target)).2 (decide (s.settings.maxSpeed < speed)) s).dcc := by
  rw [startMove_eq]
  dsimp only
  split
  · rfl
  · simp

theorem startMove_of_inBand (h : s.inBand (s.hookTarget (s.freeze r target)).1 = true) :
    NothingRuns s (startMove r target speed s) := by
  rw [startMove_eq, if_pos h]
  exact nothingRuns_dropSegment rfl

theorem startMove_of_not_inBand (h : ¬ s.inBand (s.hookTarget (s.freeze r target)).1 = true) :
    LegRuns s (startMove r target speed s)
      (.move (s.freeze r target) (s.hookTarget (s.freeze r target)).1 (min speed s.settings.maxSpeed))
      (s.hookTarget (s.freeze r target)).1 (min speed s.settings.maxSpeed) := by
  rw [startMove_eq, if_neg h]
  exact legRuns_startMotion rfl rfl

end Move

/-! ### The start of a SHAKE (R60) -/

/-- The SHAKE as it runs from its start in `s`, on one of its legs: frozen, clamped, with its speed (R56, R57, R60). -/
def State.shakeOn (s : State) (r : Reference) (target : Int) (speed amplitude count : Nat) (leg : ShakeLeg) : Running :=
  .shake (s.freeze r target) (s.hookTarget (s.freeze r target)).1 (s.hookTarget (s.freeze r target + amplitude)).1
    (min speed s.settings.maxSpeed) count leg

section Shake

variable (r : Reference) (target : Int) (speed amplitude count : Nat) (s : State)

/-- The arrival tests of a SHAKE read the hook and the arrival band, which the clamps leave (R60). -/
theorem startShake_eq :
    startShake r target speed amplitude count s =
      let lower := s.hookTarget (s.freeze r target)
      let upper := s.hookTarget (s.freeze r target + amplitude)
      let noted := noteClamps (lower.2 || upper.2) (decide (s.settings.maxSpeed < speed)) s
      if s.inBand lower.1 then
        if s.inBand upper.1 then dropSegment noted
        else startMotion (startLeg (s.shakeOn r target speed amplitude count .up)
          (noted.onSgx fun x => { x with repeats := count }))
      else startMotion (startLeg (s.shakeOn r target speed amplitude count .first) noted) := rfl

theorem startShake_dcc :
    (startShake r target speed amplitude count s).dcc
      = (noteClamps ((s.hookTarget (s.freeze r target)).2 || (s.hookTarget (s.freeze r target + amplitude)).2)
        (decide (s.settings.maxSpeed < speed)) s).dcc := by
  rw [startShake_eq]
  dsimp only
  split
  · split
    · rfl
    · simp
  · simp

theorem startShake_of_lower_away (hl : ¬ s.inBand (s.hookTarget (s.freeze r target)).1 = true) :
    LegRuns s (startShake r target speed amplitude count s) (s.shakeOn r target speed amplitude count .first)
        (s.hookTarget (s.freeze r target)).1 (min speed s.settings.maxSpeed)
      ∧ (startShake r target speed amplitude count s).sgx.repeats = s.sgx.repeats := by
  rw [startShake_eq, if_neg hl]
  exact ⟨legRuns_startMotion rfl rfl, rfl⟩

theorem startShake_of_upper_away (hl : s.inBand (s.hookTarget (s.freeze r target)).1 = true)
    (hu : ¬ s.inBand (s.hookTarget (s.freeze r target + amplitude)).1 = true) :
    LegRuns s (startShake r target speed amplitude count s) (s.shakeOn r target speed amplitude count .up)
        (s.hookTarget (s.freeze r target + amplitude)).1 (min speed s.settings.maxSpeed)
      ∧ (startShake r target speed amplitude count s).sgx.repeats = count := by
  rw [startShake_eq, if_pos hl, if_neg hu]
  exact ⟨legRuns_startMotion rfl rfl, rfl⟩

theorem startShake_of_bothInBand (hl : s.inBand (s.hookTarget (s.freeze r target)).1 = true)
    (hu : s.inBand (s.hookTarget (s.freeze r target + amplitude)).1 = true) :
    NothingRuns s (startShake r target speed amplitude count s) := by
  rw [startShake_eq, if_pos hl, if_pos hu]
  exact nothingRuns_dropSegment rfl

end Shake

/-! ### The start of a DWELL (R59) -/

theorem startDwell_of_zero {time : Nat} (h : time = 0) (s : State) : startDwell time s = dropSegment s := if_pos h

theorem startDwell_of_pos {time : Nat} (h : 0 < time) (s : State) :
    startDwell time s = s.onSgx fun x => { x with current := some .dwell, dwell := some time } := if_neg h.ne'

/-! ### What every start leaves: the hook height (R53) -/

theorem startWork_hook (w : Work) (u : State) : (startWork w u).hif.hook = u.hif.hook := by
  cases w with
  | move r target speed =>
    by_cases h : u.inBand (u.hookTarget (u.freeze r target)).1 = true
    · exact (startMove_of_inBand r target speed u h).hook
    · exact (startMove_of_not_inBand r target speed u h).hook
  | dwell time =>
    rw [startWork, startDwell]
    split <;> rfl
  | shake r target speed amplitude count =>
    by_cases hl : u.inBand (u.hookTarget (u.freeze r target)).1 = true
    · by_cases hu : u.inBand (u.hookTarget (u.freeze r target + amplitude)).1 = true
      · exact (startShake_of_bothInBand r target speed amplitude count u hl hu).hook
      · exact (startShake_of_upper_away r target speed amplitude count u hl hu).1.hook
    · exact (startShake_of_lower_away r target speed amplitude count u hl).1.hook
  | waitInput input edge time => cases input <;> rfl
  | call target => rfl

theorem startSegment_hook (g : Segment) (s : State) : (startSegment g s).hif.hook = s.hif.hook := startWork_hook _ _

/-! ### The start by the kind of the segment (R53, R56 to R62, R79, R82) -/

/-- The segment is taken up, before its work: its markers are applied and the cursor is on its next index (R53). -/
def takeUp (g : Segment) (s : State) : State :=
  (applyMarkers g s).onSgx fun x => { x with cursor := Cursor.ofNext g.next }

theorem startSegment_of_work {g : Segment} {w : Work} (h : g.work = w) (s : State) :
    startSegment g s = startWork w (takeUp g s) := by
  rw [← h]
  rfl

/-- Settles O36: each kind by the equations of its branches, from the segment taken up. -/
theorem segmentsStartByTheirKind : Obligations.SegmentsStartByTheirKind := by
  refine ⟨fun c bottom hang => ⟨clampHook_of_below, clampHook_of_within, clampHook_of_above⟩,
    fun s target => ⟨rfl, rfl⟩, fun s t d seg _ hmotion _ hd ht _ => ?_⟩
  subst ht
  simp only [← hookTarget_of_active hd]
  refine ⟨?_, fun ref target speed F h v hw hF hh hv => ?_, fun ref target speed amplitude count F lo up v hw hF hlo hup hv => ?_,
    fun time hw => ?_, fun input edge time hw => ?_⟩
  · refine ⟨startSegment_m0 seg s, startSegment_m1 seg s, startSegment_cursor seg s, startSegment_returnIndex seg s,
      startSegment_hand s seg, startSegment_hook seg s, ?_⟩
    have hhold : (startSegment seg s).dcc.hold = s.dcc.hold := congrArg Prod.fst (startSegment_holds seg s)
    simp [hhold]
  · subst hF hh hv
    rw [startSegment_of_work hw]
    refine ⟨(congrArg Dcc.active (startMove_dcc ref target speed (takeUp seg s))).trans (noteClamps_active hd _ _),
      fun haway => ?_, fun hin => ?_⟩
    · have hruns := startMove_of_not_inBand ref target speed (takeUp seg s) ((not_inBand_iff _ _).mpr haway)
      exact ⟨hruns.current, hruns.motion, hruns.lost⟩
    · have hends := startMove_of_inBand ref target speed (takeUp seg s) ((inBand_iff _ _).mpr hin)
      exact ⟨hends.current, hends.motion, hends.lost⟩
  · subst hF hlo hup hv
    rw [startSegment_of_work hw]
    refine ⟨(congrArg Dcc.active (startShake_dcc ref target speed amplitude count (takeUp seg s))).trans
        (noteClamps_active hd _ _), fun hlower => ?_, fun hlower hupper => ?_, fun hlower hupper => ?_⟩
    · obtain ⟨hruns, hrepeats⟩ := startShake_of_lower_away ref target speed amplitude count (takeUp seg s)
        ((not_inBand_iff _ _).mpr hlower)
      exact ⟨hruns.current, hrepeats, hruns.motion, hruns.lost⟩
    · obtain ⟨hruns, hrepeats⟩ := startShake_of_upper_away ref target speed amplitude count (takeUp seg s)
        ((inBand_iff _ _).mpr hlower) ((not_inBand_iff _ _).mpr hupper)
      exact ⟨hruns.current, hrepeats, hruns.motion, hruns.lost⟩
    · have hends := startShake_of_bothInBand ref target speed amplitude count (takeUp seg s)
        ((inBand_iff _ _).mpr hlower) ((inBand_iff _ _).mpr hupper)
      exact ⟨hends.current, hends.repeats, hends.motion⟩
  · rw [startSegment_of_work hw, startWork]
    rcases Nat.eq_zero_or_pos time with hzero | hpos
    · rw [startDwell_of_zero hzero]
      exact ⟨rfl, rfl, fun hn => absurd hzero hn.ne', fun _ => ⟨rfl, rfl⟩⟩
    · rw [startDwell_of_pos hpos]
      exact ⟨rfl, hmotion, fun _ => ⟨rfl, rfl⟩, fun hn => absurd hn hpos.ne'⟩
  · rw [startSegment_of_work hw]
    cases input <;> exact ⟨rfl, rfl, rfl, rfl⟩

end Sys2Proof.Machine
end

section
/-! SUPPORT. The arrivals at the hoist signals, each as one equation: what register it looks in, what it does with what it finds
there, and that otherwise it finds nothing to act on (R71, R80 to R85; log 2, log 10). -/

namespace Sys2Proof.Machine

variable {s : State} {level : Bool}

/-! ### Samples (R71) -/

section Samples

variable {filtered : Option Bool} {a b : Bool}

theorem edgeOfSamples_eq_none (h : a ≠ b ∨ filtered = some b ∨ filtered = none) : edgeOfSamples filtered a b = none := by
  refine if_neg fun ⟨hagree, hedge⟩ => ?_
  rcases h with hdiffer | hsame | hunset
  · exact hdiffer hagree
  · cases b <;> cases hsame.symm.trans hedge
  · cases hunset.symm.trans hedge

theorem edgeOfSamples_edge (h : filtered = some (!level)) : edgeOfSamples filtered level level = some level :=
  if_pos ⟨rfl, h⟩

theorem firstLevel_eq_none (h : a ≠ b ∨ filtered ≠ none) : firstLevel filtered a b = none :=
  if_neg fun ⟨hagree, hunset⟩ => h.elim (· hagree) (· hunset)

theorem firstLevel_unset (h : filtered = none) : firstLevel filtered level level = some level := if_pos ⟨rfl, h⟩

end Samples

/-! ### The discrete inputs (R71, R80 to R85) -/

section Inputs

variable (s) (a b : Bool)

theorem exec_driveReadyEdge : exec (.driveReadyEdge a b) s
    = (edgeOfSamples s.hif.driveReady a b).elim (unchanged s) fun level => settle (setDriveReady level s) := by
  show execDriveReadyEdge a b s = _
  unfold execDriveReadyEdge
  cases edgeOfSamples s.hif.driveReady a b <;> rfl

theorem exec_driveFaultEdge : exec (.driveFaultEdge a b) s
    = (edgeOfSamples s.hif.driveFault a b).elim (unchanged s) fun level => settle (setDriveFault level s) := by
  show execDriveFaultEdge a b s = _
  unfold execDriveFaultEdge
  cases edgeOfSamples s.hif.driveFault a b <;> rfl

theorem exec_haltEdge : exec (.haltEdge a b) s
    = (edgeOfSamples s.hif.halt a b).elim (unchanged s) fun level => settle (setHalt level s) := by
  show execHaltEdge a b s = _
  unfold execHaltEdge
  cases edgeOfSamples s.hif.halt a b <;> rfl

theorem exec_triggerEdge (input : Trigger) : exec (.triggerEdge input a b) s
    = (edgeOfSamples (s.triggerLevel input) a b).elim (unchanged s) fun rising => settle (takeEdge input rising s) := by
  show execTriggerEdge input a b s = _
  unfold execTriggerEdge
  cases edgeOfSamples (s.triggerLevel input) a b <;> rfl

theorem exec_firstFilteredLevel (input : DiscreteInput) : exec (.firstFilteredLevel input a b) s
    = (firstLevel (s.inputLevel input) a b).elim (unchanged s) fun level => settle (setInput input level s) := by
  show execFirstFilteredLevel input a b s = _
  unfold execFirstFilteredLevel
  cases firstLevel (s.inputLevel input) a b <;> rfl

end Inputs

/-! ### The expiries (R80, R82) -/

theorem exec_motionLimitExpiry (s : State) : exec .motionLimitExpiry s
    = s.hif.motion.elim (unchanged s) fun m =>
        if m.limit < m.count ∧ (!s.haltAsserted) = true ∧ s.driveReady = true then settle (faultCause .motionTimeout s)
        else unchanged s := by
  show execMotionLimitExpiry s = _
  unfold execMotionLimitExpiry
  cases s.hif.motion <;> rfl

theorem exec_driveLostExpiry (s : State) : exec .driveLostExpiry s
    = s.hif.driveLost.elim (unchanged s) fun n =>
        if driveLostLimit < n then settle (faultCause .driveLost s) else unchanged s := by
  show execDriveLostExpiry s = _
  unfold execDriveLostExpiry
  cases s.hif.driveLost <;> rfl

/-- The motion limit expires only with its count past it and where the hoist may move (R80). -/
theorem exec_motionLimitExpiry_of_not_due
    (h : ∀ m, s.hif.motion = some m → m.count ≤ m.limit ∨ s.haltAsserted = true ∨ s.driveReady = false) :
    exec .motionLimitExpiry s = .next s := by
  rw [exec_motionLimitExpiry]
  cases hm : s.hif.motion with
  | none => rfl
  | some m =>
    refine if_neg fun ⟨hcount, hhalt, hready⟩ => ?_
    rcases h m hm with hwithin | hhalted | hnot
    · exact absurd hcount hwithin.not_gt
    · rw [hhalted] at hhalt
      cases hhalt
    · cases hnot.symm.trans hready

/-! ### The edges taken (R80 to R82) -/

theorem exec_driveReadyEdge_edge (h : s.hif.driveReady = some (!level)) :
    exec (.driveReadyEdge level level) s = .next (drivePins (setDriveReady level s)) := by
  rw [exec_driveReadyEdge, edgeOfSamples_edge h]
  rfl

theorem exec_haltEdge_edge (h : s.hif.halt = some (!level)) :
    exec (.haltEdge level level) s = .next (drivePins (setHalt level s)) := by
  rw [exec_haltEdge, edgeOfSamples_edge h]
  rfl

theorem exec_triggerEdge_edge {input : Trigger} (h : s.triggerLevel input = some (!level)) :
    exec (.triggerEdge input level level) s = .next (drivePins (takeEdge input level s)) := by
  rw [exec_triggerEdge, edgeOfSamples_edge h]
  rfl

theorem exec_firstFilteredLevel_unset {input : DiscreteInput} (h : s.inputLevel input = none) :
    exec (.firstFilteredLevel input level level) s = .next (drivePins (setInput input level s)) := by
  rw [exec_firstFilteredLevel, firstLevel_unset h]
  rfl

end Sys2Proof.Machine
end

section
/-! PROOF. The pins (O55): how a command answers, as far as the pins go, and that every answer leaves them at what the blocks make
them. -/

namespace Sys2Proof.Machine

variable {s t : State}

/-- How a command answers from a state, as far as the pins go: it settles with the pins following (log 8); it replaces the response
or its capture at most, which no pin reads (R185, R186); it is HARDWARE_RESET; or it has no meaning. -/
inductive Replies (s : State) : Host.Outcome State Fault Refusal → Prop
  | settles (u : State) : Replies s (settle u)
  | responds (response captured : Response) :
      Replies s (.next (s.onCpt fun c => { c with response := response, captured := captured }))
  | resets : Replies s (.next { State.reset with pending := s.pending, freeCount := s.freeCount })
  | refused (r : Refusal) : Replies s (.refused r)

/-! ### The pins after an answer (R76, R86, R195) -/

/-- What the pins are derived from is none of the pins. -/
theorem drivePins_pinsFollow (u : State) : PinsFollow (drivePins u) := ⟨rfl, rfl, rfl, rfl⟩

theorem Replies.pinsFollow {o : Host.Outcome State Fault Refusal} (h : Replies s o) (hs : PinsFollow s) (ho : o = .next t) :
    PinsFollow t := by
  cases h with
  | settles u => cases ho; exact drivePins_pinsFollow u
  | responds response captured => cases ho; exact hs
  | resets => cases ho; exact resetMeetsTheInvariants.1
  | refused r => cases ho

/-! ### The shapes of an answer -/

theorem unchanged_replies (s : State) : Replies s (unchanged s) := .responds s.cpt.response s.cpt.captured

theorem refuse_replies (code : ResultCode) (s : State) : Replies s (refuse code s) := .responds ⟨code, []⟩ s.cpt.captured

theorem accept_replies (data : List Byte) (u : State) : Replies s (accept data u) := .settles _

section Shapes

variable {o o' : Host.Outcome State Fault Refusal} {body : List Byte → Host.Outcome State Fault Refusal}

theorem Replies.ite {p : Prop} [Decidable p] (h : Replies s o) (h' : Replies s o') : Replies s (if p then o else o') := by
  split
  · exact h
  · exact h'

/-- An arrival that acts under a condition, and otherwise finds nothing (log 2). -/
theorem settleIf_replies {p : Prop} [Decidable p] (u : State) : Replies s (if p then settle u else unchanged s) :=
  .ite (.settles u) (unchanged_replies s)

/-- An arrival that acts on what a register holds, and finds nothing where it holds nothing. -/
theorem elim_replies {α : Type} (x : Option α) {f : α → Host.Outcome State Fault Refusal} (h : ∀ a, Replies s (f a)) :
    Replies s (x.elim (unchanged s) f) := by
  cases x with
  | none => exact unchanged_replies s
  | some a => exact h a

theorem withArgs_replies (n : Nat) (args : List Byte) (h : Replies s o) : Replies s (withArgs n args s o) :=
  .ite h (refuse_replies .badArg s)

theorem answerFrame_replies (taken : Taken) (tail : List Byte) (h : ∀ args, Replies s (body args)) :
    Replies s (answerFrame taken tail s body) := by
  unfold answerFrame
  split
  · exact refuse_replies .badFrame s
  · exact .ite (h _) (refuse_replies .mode s)

theorem takeFrame_replies {taken : Taken} {tail : List Byte} (h : ∀ args, Replies s (body args)) :
    Replies s (takeFrame taken tail s body) :=
  .ite (refuse_replies .busy s) (answerFrame_replies taken tail h)

theorem takeArgs_replies {taken : Taken} {tail : List Byte} {n : Nat} (h : ∀ args, Replies s (body args)) :
    Replies s (takeFrame taken tail s fun args => withArgs n args s (body args)) :=
  takeFrame_replies fun args => withArgs_replies n args (h args)

end Shapes

/-! ### Every command -/

/-- Every command answers in one of these ways: a frame refused or accepted, an arrival that settles or finds nothing. -/
theorem exec_replies (c : Instr) (s : State) : Replies s (exec c s) := by
  have refuses := fun code => refuse_replies code s
  cases c with
  | hardwareReset => exact .resets
  | loadBegin => exact takeArgs_replies fun _ => .ite (accept_replies _ _) (refuses _)
  | loadData => exact takeFrame_replies fun _ => .ite (accept_replies _ _) (refuses _)
  | loadEnd => exact takeArgs_replies fun _ => .settles _
  | validationEnd =>
    show Replies s (execValidationEnd s)
    unfold execValidationEnd
    repeat' split
    exacts [.settles _, .settles _, unchanged_replies s]
  | loadTimerExpiry => exact settleIf_replies _
  | listenTimerExpiry => exact settleIf_replies _
  | getStatus => exact answerFrame_replies _ _ fun args => withArgs_replies _ args (.responds _ _)
  | dip =>
    refine takeFrame_replies fun args => .ite (refuses _) ?_
    split
    exacts [refuses _, accept_replies _ _]
  | cancelJob => exact takeArgs_replies fun _ => .ite (accept_replies _ _) (.ite (refuses _) (refuses _))
  | abortDip =>
    refine takeArgs_replies fun args => ?_
    split
    · exact refuses _
    · exact .ite (refuses _) (.ite (refuses _) (.ite (refuses _) (accept_replies _ _)))
  | recover => exact takeArgs_replies fun _ => .ite (refuses _) (.ite (refuses _) (.ite (refuses _) (accept_replies _ _)))
  | setLevel => exact takeArgs_replies fun _ => .ite (refuses _) (accept_replies _ _)
  | addZinc => exact takeArgs_replies fun _ => .ite (accept_replies _ _) (refuses _)
  | removeDross => exact takeArgs_replies fun _ => .ite (accept_replies _ _) (refuses _)
  | readRecord =>
    refine takeArgs_replies fun args => ?_
    split
    exacts [refuses _, accept_replies _ _]
  | peekRecord =>
    refine takeArgs_replies fun args => ?_
    split
    exacts [refuses _, accept_replies _ _]
  | readPeer =>
    refine takeArgs_replies fun args => ?_
    split
    exacts [refuses _, accept_replies _ _]
  | forgetPeer =>
    refine takeArgs_replies fun args => ?_
    repeat' split
    exacts [refuses _, refuses _, refuses _, accept_replies _ _]
  | setEventEnable => exact takeArgs_replies fun _ => accept_replies _ _
  | clearEvents => exact takeArgs_replies fun _ => accept_replies _ _
  | restart => exact takeArgs_replies fun _ => .ite (refuses _) (.ite (accept_replies _ _) (refuses _))
  | idleFrame => exact unchanged_replies s
  | unknownCommand code tail =>
    refine .ite (.ite (refuses _) ?_) (.refused _)
    split
    exacts [refuses _, refuses _]
  | restartTimerExpiry => exact settleIf_replies _
  | jobStart =>
    show Replies s (execJobStart s)
    unfold execJobStart
    split
    exacts [unchanged_replies s, settleIf_replies _]
  | rawSample => exact settleIf_replies _
  | settleTimeout =>
    show Replies s (execSettleTimeout s)
    unfold execSettleTimeout
    repeat' split
    exacts [unchanged_replies s, unchanged_replies s, .settles _, unchanged_replies s]
  | encoderRead => exact .ite (.settles _) (.settles _)
  | driveReadyEdge => rw [exec_driveReadyEdge]; exact elim_replies _ fun _ => .settles _
  | driveFaultEdge => rw [exec_driveFaultEdge]; exact elim_replies _ fun _ => .settles _
  | haltEdge => rw [exec_haltEdge]; exact elim_replies _ fun _ => .settles _
  | triggerEdge => rw [exec_triggerEdge]; exact elim_replies _ fun _ => .settles _
  | motionLimitExpiry => rw [exec_motionLimitExpiry]; exact elim_replies _ fun _ => settleIf_replies _
  | driveLostExpiry => rw [exec_driveLostExpiry]; exact elim_replies _ fun _ => settleIf_replies _
  | dwellExpiry => exact settleIf_replies _
  | waitTimeout => exact settleIf_replies _
  | pulseExpiry => exact settleIf_replies _
  | holdLimitExpiry =>
    show Replies s (execHoldLimitExpiry s)
    unfold execHoldLimitExpiry
    split
    exacts [unchanged_replies s, settleIf_replies _]
  | transmitAttemptStart => exact settleIf_replies _
  | noticeEnd => exact .settles _
  | heartbeatTimerExpiry =>
    show Replies s (execHeartbeatTimerExpiry s)
    unfold execHeartbeatTimerExpiry
    split
    exacts [unchanged_replies s, settleIf_replies _]
  | unsentExpiry =>
    show Replies s (execUnsentExpiry s)
    unfold execUnsentExpiry
    split
    exacts [unchanged_replies s, settleIf_replies _]
  | peerAgeing => exact settleIf_replies _
  | claimWindowExpiry =>
    show Replies s (execClaimWindowExpiry s)
    unfold execClaimWindowExpiry
    split
    exacts [settleIf_replies _, unchanged_replies s]
  | admissionWindowExpiry =>
    show Replies s (execAdmissionWindowExpiry s)
    unfold execAdmissionWindowExpiry
    split
    exacts [settleIf_replies _, unchanged_replies s]
  | stationClockTick => exact .settles _
  | firstFilteredLevel => rw [exec_firstFilteredLevel]; exact elim_replies _ fun _ => .settles _
  | bitReadBackMismatch bitTime dominant =>
    show Replies s (execBitReadBackMismatch bitTime dominant s)
    unfold execBitReadBackMismatch
    split
    exacts [unchanged_replies s, settleIf_replies _]
  | csnFallingEdge => exact .responds _ _

/-- Settles O55: the pins follow in every answer of the command at the front of the queue, which they do not read. -/
theorem stepKeepsThePins : Obligations.StepKeepsThePins := by
  intro s t hs h
  unfold step at h
  split at h
  · cases h
    exact hs
  · rename_i c rest _
    exact (exec_replies c { s with pending := rest }).pinsFollow hs h

end Sys2Proof.Machine
end

section
/-! PROOF. The speed command (O30), the edges and expiries at the hoist (O28), and the trigger inputs (O29). -/

namespace Sys2Proof.Machine

variable {s : State}

/-! ### The speed command (R76, R77) -/

/-- Without READY, under halt, or with drive-ready negated the hoist stands (R76). -/
theorem speedCommand_of_blocked (h : s.cpt.mode ≠ .ready ∨ s.haltAsserted = true ∨ s.driveReady = false) :
    s.speedCommand = 0 := by
  refine if_neg fun ⟨hmode, _, hhalt, hready⟩ => ?_
  rcases h with hnot | hhalted | hnot
  · exact hnot hmode
  · rw [hhalted] at hhalt
    cases hhalt
  · cases hnot.symm.trans hready

theorem speedCommand_of_leg {target speed : Nat} (hmode : s.cpt.mode = .ready) (hstage : s.dcc.stage.moves = true)
    (hhalt : s.haltAsserted = false) (hready : s.driveReady = true) (hleg : s.leg = some (target, speed)) :
    s.speedCommand = speedToward s.settings s.hif.hook target speed := by
  rw [State.speedCommand, if_pos ⟨hmode, hstage, by rw [hhalt]; rfl, hready⟩, hleg]

/-- The magnitude of the speed command at a distance from the hook target (R77). -/
def legMagnitude (c : Settings) (distance legSpeed : Nat) : Nat :=
  if c.slowBand < distance then legSpeed else min c.creepSpeed legSpeed

section Magnitude

variable {c : Settings} {hook target distance : Nat} (legSpeed : Nat)

theorem legMagnitude_of_far (h : c.slowBand < distance) : legMagnitude c distance legSpeed = legSpeed := if_pos h

theorem legMagnitude_of_near (h : distance ≤ c.slowBand) : legMagnitude c distance legSpeed = min c.creepSpeed legSpeed :=
  if_neg h.not_gt

theorem legMagnitude_le (c : Settings) (distance : Nat) : legMagnitude c distance legSpeed ≤ legSpeed := by
  unfold legMagnitude
  split
  · exact le_rfl
  · exact min_le_right _ _

theorem speedToward_of_below (h : hook < target) :
    speedToward c hook target legSpeed = legMagnitude c (target - hook) legSpeed := by
  have hdistance : hookDistance hook target = target - hook := by unfold hookDistance; omega
  rw [speedToward, hdistance]
  exact if_pos h

theorem speedToward_of_above (h : target < hook) :
    speedToward c hook target legSpeed = -(legMagnitude c (hook - target) legSpeed : Int) := by
  have hdistance : hookDistance hook target = hook - target := by unfold hookDistance; omega
  rw [speedToward, hdistance]
  exact (if_neg h.not_gt).trans (if_pos h)

theorem speedToward_at (c : Settings) (hook : Nat) : speedToward c hook hook legSpeed = 0 :=
  (if_neg (lt_irrefl _)).trans (if_neg (lt_irrefl _))

theorem natAbs_speedToward_le (c : Settings) (hook target : Nat) : (speedToward c hook target legSpeed).natAbs ≤ legSpeed := by
  rcases lt_trichotomy hook target with h | rfl | h
  · rw [speedToward_of_below legSpeed h]
    exact legMagnitude_le legSpeed c _
  · rw [speedToward_at]
    exact Nat.zero_le _
  · rw [speedToward_of_above legSpeed h, Int.natAbs_neg]
    exact legMagnitude_le legSpeed c _

end Magnitude

/-- Settles O30: 0 where one of the conditions of R76 fails, otherwise the leg's magnitude at its distance, on the side of its
target. -/
theorem speedCommandOfALeg : Obligations.SpeedCommandOfALeg := by
  refine ⟨fun s h => ?_, fun s target speed hmode hstage hhalt hready hleg => ?_⟩
  · rcases h with hmode | hstage | hhalt | hready | hleg
    · exact speedCommand_of_blocked (.inl hmode)
    · exact speedCommand_of_stage hstage
    · exact speedCommand_of_blocked (.inr (.inl hhalt))
    · exact speedCommand_of_blocked (.inr (.inr hready))
    · exact speedCommand_of_no_leg hleg
  · rw [speedCommand_of_leg hmode hstage hhalt hready hleg]
    refine ⟨fun hfar => ?_, fun hfar => ?_, fun hbelow hnear => ?_, fun habove hnear => ?_, natAbs_speedToward_le speed _ _ _⟩
    · rw [speedToward_of_below speed (by omega), legMagnitude_of_far speed (by omega)]
    · rw [speedToward_of_above speed (by omega), legMagnitude_of_far speed (by omega)]
    · rw [speedToward_of_below speed hbelow, legMagnitude_of_near speed (by omega)]
    · rw [speedToward_of_above speed habove, legMagnitude_of_near speed (by omega)]

/-! ### Edges and expiries (R71, R80 to R82) -/

/-- Settles O28: no edge by `edgeOfSamples_eq_none`, an expiry that is not due by its guard, and an edge by the level taken. -/
theorem edgesAndExpiriesActWhenDue : Obligations.EdgesAndExpiriesActWhenDue := by
  refine ⟨fun s a b => ⟨fun h => ?_, fun h => ?_, fun h => ?_, fun i h => ?_, fun i h => ?_⟩,
    fun s => ⟨fun h => ?_, fun m hm hwithin => ?_, fun h => ?_, fun n hn hwithin => ?_⟩,
    fun s => ⟨fun h => exec_haltEdge_edge h, fun h => ⟨exec_haltEdge_edge h, fun x hx => ?_⟩,
      fun h => ⟨exec_driveReadyEdge_edge h, fun x hx => ?_⟩, fun h => exec_driveReadyEdge_edge h⟩⟩
  · rw [exec_driveReadyEdge, edgeOfSamples_eq_none h]
    rfl
  · rw [exec_driveFaultEdge, edgeOfSamples_eq_none h]
    rfl
  · rw [exec_haltEdge, edgeOfSamples_eq_none h]
    rfl
  · rw [exec_triggerEdge, edgeOfSamples_eq_none h]
    rfl
  · rw [exec_firstFilteredLevel, firstLevel_eq_none h]
    rfl
  · refine exec_motionLimitExpiry_of_not_due fun m hm => ?_
    rcases h with hnone | hstands
    · cases hnone.symm.trans hm
    · exact .inr hstands
  · refine exec_motionLimitExpiry_of_not_due fun m' hm' => .inl ?_
    cases hm.symm.trans hm'
    exact hwithin
  · rw [exec_driveLostExpiry, h]
    rfl
  · rw [exec_driveLostExpiry, hn]
    exact if_neg hwithin.not_gt
  · refine speedCommand_of_blocked (.inr (.inl ?_))
    rw [State.haltAsserted, hx]
    rfl
  · refine speedCommand_of_blocked (.inr (.inr ?_))
    rw [State.driveReady, hx]
    rfl

/-! ### The trigger inputs (R71, R84, R85) -/

/-- An edge sets the mark of its kind and leaves the other (R84). -/
theorem edgeLatch_mark_eq (rising : Bool) (l : EdgeLatch) :
    l.mark rising = { rising := l.rising || rising, falling := l.falling || !rising } := by
  cases rising <;> simp [EdgeLatch.mark]

theorem waitEnds_of_wait {input : Trigger} {edge : EdgeChoice} (h : s.sgx.current = some (.wait input edge)) (rising : Bool) :
    s.waitEnds input rising = edgeTakes edge rising := by
  rw [State.waitEnds, h]
  simp

theorem waitEnds_eq_false {input : Trigger} {rising : Bool}
    (h : ∀ edge, s.sgx.current = some (.wait input edge) → edgeTakes edge rising = false) : s.waitEnds input rising = false := by
  by_contra hends
  have htrue : s.waitEnds input rising = true := by simpa using hends
  unfold State.waitEnds at htrue
  split at htrue
  · rename_i i edge hwait
    simp only [Bool.and_eq_true, decide_eq_true_eq] at htrue
    obtain ⟨rfl, htakes⟩ := htrue
    cases (h edge hwait).symm.trans htakes
  · cases htrue

theorem takeEdge_of_wait_ends {input : Trigger} {rising : Bool} (h : s.waitEnds input rising = true) :
    takeEdge input rising s = endSegment (raiseTrigger input rising (latchEdge input rising s)) := if_pos h

theorem takeEdge_of_no_wait_ends {input : Trigger} {rising : Bool} (h : s.waitEnds input rising = false) :
    takeEdge input rising s = raiseTrigger input rising (latchEdge input rising s) := if_neg (by rw [h]; nofun)

/-- The bit of a trigger event is its own. -/
theorem triggerEvent_bit_and (input : Trigger) (e : Event) :
    (triggerEvent input).bit &&& e.bit = if e = triggerEvent input then e.bit else 0 := by
  cases input <;> cases e <;> rfl

/-- The event of the input is raised where the configured edge takes the edge in LISTEN and READY, and no other (R85). -/
theorem raiseTrigger_pendingEvent (s : State) (input : Trigger) (rising : Bool) (e : Event) :
    (raiseTrigger input rising s).pendingEvent e
      = (s.pendingEvent e || (decide (e = triggerEvent input) && s.online && eventTakes (s.eventEdge input) rising)) := by
  rw [Bool.and_assoc, raiseTrigger]
  cases hraise : s.online && eventTakes (s.eventEdge input) rising with
  | false => simp
  | true =>
    by_cases he : e = triggerEvent input
    · subst he
      simp [raiseEvent_pendingEvent]
    · simp [he, raiseEvent_pendingEvent_of_apart s ((triggerEvent_bit_and input e).trans (if_neg he))]

/-- A first level is the level of its input and of no other (R71). -/
theorem setInput_inputLevel (s : State) (input other : DiscreteInput) (level : Bool) :
    (setInput input level s).inputLevel other = if other = input then some level else s.inputLevel other := by
  cases input <;> cases other <;> rfl

/-- Settles O29: an edge by whether the running WAIT_INPUT takes it, a first level by the input set. -/
theorem triggerEdgesAreLatched : Obligations.TriggerEdgesAreLatched := by
  refine ⟨fun s input level hlevel hwait => ?_, fun s input level edge hlevel hwait htakes => ?_, fun s level => ?_,
    raiseTrigger_pendingEvent, fun s input level hunset => ?_⟩
  · rw [exec_triggerEdge_edge hlevel, takeEdge_of_no_wait_ends (waitEnds_eq_false hwait)]
  · rw [exec_triggerEdge_edge hlevel, takeEdge_of_wait_ends ((waitEnds_of_wait hwait level).trans htakes)]
  · simp [latchEdge, edgeLatch_mark_eq]
  · refine ⟨_, exec_firstFilteredLevel_unset hunset, (setInput_inputLevel s input input level).trans (if_pos rfl),
      fun other hother => (setInput_inputLevel s input other level).trans (if_neg hother), ?_, ?_, rfl, rfl,
      ⟨rfl, rfl, rfl, rfl, rfl, rfl, rfl, rfl, rfl, rfl, rfl, rfl, rfl, rfl⟩⟩
    · cases input <;> rfl
    · cases input <;> rfl

end Sys2Proof.Machine
end

section
/-! PROOF. The stillness test and the averaged weight (O37). -/

namespace Sys2Proof.Machine

/-! ### The stillness test (R91) -/

theorem foldl_max_le (l : List Nat) (a n : Nat) : l.foldl max a ≤ n ↔ a ≤ n ∧ ∀ x ∈ l, x ≤ n := by
  induction l generalizing a with
  | nil => simp
  | cons y l ih => rw [List.foldl_cons, ih, List.forall_mem_cons, max_le_iff, and_assoc]

theorem le_foldl_min (l : List Nat) (a n : Nat) : n ≤ l.foldl min a ↔ n ≤ a ∧ ∀ x ∈ l, n ≤ x := by
  induction l generalizing a with
  | nil => simp
  | cons y l ih => rw [List.foldl_cons, ih, List.forall_mem_cons, le_min_iff, and_assoc]

/-- The largest of weights in range less the smallest is within the band where that holds of any two of them (R91). -/
theorem spread_le_iff {l : List Sample} (h : ∀ x ∈ l, x.gross ≤ maxWeight) (band : Nat) :
    (l.map (·.gross)).foldl max 0 ≤ (l.map (·.gross)).foldl min maxWeight + band
      ↔ ∀ x ∈ l, ∀ y ∈ l, x.gross ≤ y.gross + band := by
  have hleast (x : Sample) (hx : x ∈ l) :
      x.gross ≤ (l.map (·.gross)).foldl min maxWeight + band ↔ ∀ y ∈ l, x.gross ≤ y.gross + band := by
    have hmax := h x hx
    rw [← Nat.sub_le_iff_le_add, le_foldl_min, List.forall_mem_map]
    simp only [Nat.sub_le_iff_le_add]
    exact and_iff_right (by omega)
  rw [foldl_max_le, List.forall_mem_map]
  exact (and_iff_right (Nat.zero_le _)).trans (forall₂_congr hleast)

/-! ### The averaged weight (R5, R96) -/

theorem averageWeight_of_overrange {n : Nat} {list : List Sample} (h : ∃ x ∈ list, x.overrange = true) :
    averageWeight n list = maxWeight := if_pos (List.any_eq_true.mpr h)

theorem averageWeight_of_inRange {n : Nat} {list : List Sample} (hne : list ≠ []) (h : ∀ x ∈ list, x.overrange = false) :
    averageWeight n list = ((list.map (·.gross)).sum + list.length / 2) / list.length := by
  have hany : ¬ list.any (·.overrange) = true := by simpa using h
  rw [averageWeight, if_neg hany, if_neg (by simpa using hne)]

/-- The rounded mean of weights does not exceed a bound that they keep. -/
theorem roundedMean_le {list : List Sample} {top : Nat} (hne : list ≠ []) (h : ∀ x ∈ list, x.gross ≤ top) :
    ((list.map (·.gross)).sum + list.length / 2) / list.length ≤ top := by
  have hpos : 0 < list.length := List.length_pos_of_ne_nil hne
  have hsum : (list.map (·.gross)).sum ≤ list.length * top := by
    simpa using List.sum_le_card_nsmul (list.map (·.gross)) top (List.forall_mem_map.mpr h)
  rw [← Nat.lt_succ_iff, Nat.div_lt_iff_lt_mul hpos, Nat.succ_mul, Nat.mul_comm top]
  omega

theorem averageWeight_le {n : Nat} {list : List Sample} (hne : list ≠ []) (h : ∀ x ∈ list, x.gross ≤ maxWeight) :
    averageWeight n list ≤ maxWeight := by
  by_cases hover : ∃ x ∈ list, x.overrange = true
  · exact (averageWeight_of_overrange hover).le
  · rw [averageWeight_of_inRange hne (by simpa using hover)]
    exact roundedMean_le hne h

/-- Settles O37: the spread by `spread_le_iff`, the weight by whether a sample is marked. -/
theorem stillnessAndAverage : Obligations.StillnessAndAverage := by
  refine ⟨fun s hrange => ?_, fun n list hne => ⟨averageWeight_of_inRange hne, averageWeight_of_overrange, averageWeight_le hne⟩⟩
  rw [State.still, decide_eq_true_iff, spread_le_iff hrange]
  rfl

end Sys2Proof.Machine
end

section
/-! PROOF. The raw samples below the 32nd averaged one (O38). -/

namespace Sys2Proof.Machine

variable {s : State}

/-- RAW_SAMPLE while samples are counted, at the divider and below it (R88). -/
theorem exec_rawSample_online (raw : BitVec 24) (h : s.online = true) :
    exec (.rawSample raw) s = .next (drivePins (takeRaw raw s)) := if_pos h

theorem takeRaw_below {raw : BitVec 24} (h : s.wgu.divider + 1 < s.settings.divider) :
    takeRaw raw s = s.onWgu fun w => { w with divider := w.divider + 1 } := if_neg (Nat.not_le.mpr h)

/-- At the divider the sample enters the window first, and then the weigh operation (R89). -/
theorem takeRaw_retained {raw : BitVec 24} {x : Sample} (h : s.settings.divider ≤ s.wgu.divider + 1)
    (hx : weighSample s.settings.weighZero s.settings.weighGain raw = x) :
    takeRaw raw s = takeSample x (s.onWgu fun w => { w with divider := 0 }) := by
  rw [takeRaw, if_pos h, hx]

section Sample

variable {x : Sample} {op : WeighOp}

theorem takeSample_of_none (h : s.wgu.op = none) : takeSample x s = pushWindow x s := by
  have hop : (pushWindow x s).wgu.op = none := h
  simp only [takeSample, hop]

theorem takeSample_of_settling (h : s.wgu.op = some op) (hp : op.phase = .settling) :
    takeSample x s = settleSample op x (pushWindow x s) := by
  have hop : (pushWindow x s).wgu.op = some op := h
  simp only [takeSample, hop, hp]

theorem takeSample_of_averaging (h : s.wgu.op = some op) (hp : op.phase = .averaging) :
    takeSample x s = averageSample op x (pushWindow x s) := by
  have hop : (pushWindow x s).wgu.op = some op := h
  simp only [takeSample, hop, hp]

theorem averageSample_below (h : op.samples.length < 31) :
    averageSample op x s = s.onWgu fun w => { w with op := some { op with samples := op.samples ++ [x] } } :=
  if_neg (by rw [averageSize]; omega)

end Sample

/-- Settles O38: by the mode, the divider and the phase of the operation in progress. -/
theorem rawSamplesAreRetained : Obligations.RawSamplesAreRetained := by
  intro s raw
  refine ⟨fun hoff => if_neg (by simp [hoff]), fun hon hdiv => ?_, fun x w hon hdiv hx hw => ?_⟩
  · rw [exec_rawSample_online raw hon, takeRaw_below hdiv]
    rfl
  rw [exec_rawSample_online raw hon, takeRaw_retained hdiv hx]
  let u := s.onWgu fun g => { g with divider := 0 }
  have hwindow : pushWindow x u = { s with wgu := { divider := 0, window := w, op := s.wgu.op } } := by rw [← hw]; rfl
  refine ⟨fun hop => ?_, fun timer list hop hstill => ?_, fun timer list hop hstill => ?_, fun timer list hop hlength => ?_⟩
  · rw [takeSample_of_none (s := u) hop, hwindow, hop]
  · have hpushed : (pushWindow x u).still = true := by rw [hwindow]; exact hstill
    rw [takeSample_of_settling (s := u) hop rfl, settleSample, hpushed, hwindow]
    rfl
  · have hpushed : (pushWindow x u).still = false := by rw [hwindow]; exact hstill
    rw [takeSample_of_settling (s := u) hop rfl, settleSample, hpushed, hwindow]
    rfl
  · rw [takeSample_of_averaging (s := u) hop rfl, averageSample_below hlength, hwindow]
    rfl

end Sys2Proof.Machine
end
section
/-! SUPPORT. The samples that the weigh operation has collected: only RAW_SAMPLE puts one into the list. Every other command
leaves the list, or the operation is over or begins anew (R92, R97, R98). -/

namespace Sys2Proof.Machine

variable {s t u : State}

/-! ### The list of the weigh operation -/

/-- The list of the weigh operation in progress; empty without one (R92). -/
def State.collected (s : State) : List Sample := s.wgu.op.elim [] WeighOp.samples

/-- No sample has joined the list: it is as it was, or the operation is over or has begun anew. -/
def NoSample (s t : State) : Prop := t.collected = s.collected ∨ t.collected = []

theorem NoSample.refl (s : State) : NoSample s s := .inl rfl

theorem NoSample.trans (h : NoSample s t) (h' : NoSample t u) : NoSample s u := by
  rcases h' with h' | h'
  · rwa [NoSample, h']
  · exact .inr h'

theorem NoSample.of_wgu (h : t.wgu = s.wgu) : NoSample s t := .inl (by rw [State.collected, h]; rfl)

/-- What comes before leaves the Weighing Unit. -/
theorem NoSample.after (h : NoSample t u) (hst : t.wgu = s.wgu) : NoSample s u := (NoSample.of_wgu hst).trans h

/-- What comes after leaves the Weighing Unit. -/
theorem NoSample.before (h : NoSample s t) (htu : u.wgu = t.wgu) : NoSample s u := h.trans (.of_wgu htu)

/-! ### The walk of the Segment Executor (R26, R52 to R55) -/

/-- Of the stages that follow a phase, WEIGH_EXIT and WEIGH_DRAINED request a weighing (R32). -/
theorem leavePhase_noSample (p : Phase) (s : State) : NoSample s (leavePhase p s) := by
  cases p with
  | approach => exact .of_wgu (by simp [leavePhase])
  | immerse => exact .of_wgu rfl
  | soak => exact .of_wgu rfl
  | withdraw => exact .inr rfl
  | drain => exact .inr rfl
  | depart => exact .of_wgu (by simp [leavePhase])

theorem sgxRun_noSample (n : Nat) (s : State) : NoSample s (sgxRun n s) :=
  sgxRun_keeps (P := NoSample s) s (fun _ _ h => h.before rfl) (fun u p h => h.before (by simp))
    (fun u g k h => h.before (by simp)) (fun u g h => h.before (by simp)) (fun _ _ h => h.trans (leavePhase_noSample _ _))
    (fun u r h => h.before (by simp)) n (.refl s)

theorem sgxGo_noSample (s : State) : NoSample s (sgxGo s) := sgxRun_noSample sgxFuel s

theorem enterMotion_noSample (p : Phase) (s : State) : NoSample s (enterMotion p s) := (sgxGo_noSample _).after (by simp)

theorem endSegment_noSample (s : State) : NoSample s (endSegment s) := (sgxGo_noSample _).after rfl

theorem sgxHookUpdate_noSample (s : State) : NoSample s (sgxHookUpdate s) := by
  unfold sgxHookUpdate
  repeat' split
  -- a MOVE; a SHAKE within both bands; its first, up and down legs; nothing that has a leg
  exacts [endSegment_noSample s, .refl s, endSegment_noSample s, .of_wgu (by simp), .refl s, .of_wgu (by simp), .refl s,
    endSegment_noSample s, .of_wgu (by simp), .refl s, .refl s]

/-! ### Weights delivered, and faults (R43, R97, R98) -/

/-- A delivery ends the operation before the dip goes on (R97). -/
theorem deliverSamples_noSample (samples : List Sample) (unsettled : Bool) (s : State) :
    NoSample s (deliverSamples samples unsettled s) := by
  refine NoSample.trans (t := dropWeigh s.nextFree) (.inr rfl) ?_
  unfold deliverSamples deliverWeight
  dsimp only
  split
  · exact .of_wgu (by simp [deliverDry])
  · unfold deliverExit
    dsimp only
    split
    · exact .inr rfl
    · exact (enterMotion_noSample _ _).after rfl
  · exact (enterMotion_noSample _ _).after rfl
  · exact .refl _

theorem enterFault_noSample (code : FaultCode) (s : State) : NoSample s (enterFault code s) :=
  .inr (by rw [State.collected, enterFault_wgu]; rfl)

theorem faultCause_noSample (code : FaultCode) (s : State) : NoSample s (faultCause code s) := by
  unfold faultCause
  split
  · exact enterFault_noSample code s
  split
  · exact .of_wgu rfl
  · exact .refl s

/-! ### Table changes (R141, R168, R169) -/

theorem endYield_noSample (s : State) : NoSample s (endYield s) := by
  unfold endYield
  dsimp only
  split
  · exact (sgxGo_noSample _).after (by simp)
  · exact .of_wgu (by simp)

theorem conflictCheck_noSample (s : State) : NoSample s (conflictCheck s) := by
  unfold conflictCheck
  dsimp only
  repeat' split
  · exact .of_wgu (by simp)
  · exact .of_wgu (by simp)
  · exact (endYield_noSample _).after (by simp)
  · exact .of_wgu (by simp)

theorem zcuTableChange_noSample (i : Option StationIx) (s : State) : NoSample s (zcuTableChange i s) := by
  unfold zcuTableChange
  repeat' split
  · exact .refl s
  · exact .of_wgu (by simp)
  · exact .of_wgu (by simp)
  · exact .refl s
  · exact (conflictCheck_noSample _).after (by simp)
  · exact conflictCheck_noSample s

theorem tableChange_noSample (i : Option StationIx) (s : State) : NoSample s (tableChange i s) := by
  unfold tableChange tableChangeWith
  split
  · exact ((zcuTableChange_noSample i (refreshSurface s.nextFree)).after (by simp)).before (by simp)
  · exact ((zcuTableChange_noSample i s.nextFree).after rfl).before (by simp)

theorem storeState_noSample (i : StationIx) (a : Announced) (s : State) : NoSample s (storeState i a s) := by
  have hchange (u : State) (hu : u.wgu = s.wgu) : NoSample s (tableChange (some i) u) := (tableChange_noSample _ u).after hu
  unfold storeState
  dsimp only
  split
  · exact (hchange _ (by simp)).before rfl
  · exact hchange _ (by simp)

theorem restartClear_noSample (s : State) : NoSample s (restartClear s) :=
  NoSample.before (t := tableChange none _) ((tableChange_noSample _ _).after (by simp)) rfl

/-! ### The end of a notice (R115 to R131) -/

theorem receiveNotice_noSample (bytes : List Byte) (spoiled : Bool) (s : State) :
    NoSample s (receiveNotice bytes spoiled s) := by
  unfold receiveNotice storeLeave
  repeat' split
  · exact .of_wgu rfl
  · exact .of_wgu (by simp)
  · exact .refl s
  · exact (tableChange_noSample _ _).after rfl
  · exact storeState_noSample _ _ s
  · exact .refl s

theorem attemptSucceeded_noSample (a : Attempt) (s : State) : NoSample s (attemptSucceeded a s) := by
  unfold attemptSucceeded leaveSent stateSent
  dsimp only
  repeat' split
  · exact (restartClear_noSample _).after rfl
  · exact .of_wgu rfl
  · exact .of_wgu rfl
  · exact .of_wgu (by simp)
  · exact .of_wgu (by simp)

theorem endNotice_noSample (bytes : List Byte) (spoiled : Bool) (s : State) : NoSample s (endNotice bytes spoiled s) := by
  unfold endNotice
  repeat' split
  · exact .of_wgu rfl
  · exact receiveNotice_noSample _ _ s
  · exact attemptSucceeded_noSample _ s
  · exact (receiveNotice_noSample _ _ _).after (by simp)
  · exact (receiveNotice_noSample _ _ _).after (by simp)
  · exact (receiveNotice_noSample _ _ _).after (by simp)

/-! ### What the commands of the dip and of the hoist settle -/

theorem routeAbort_noSample (s : State) : NoSample s (routeAbort s) := by
  unfold routeAbort
  split
  · exact NoSample.trans (t := dropWeigh s) (.inr rfl) (.of_wgu (by simp))
  · exact .of_wgu (by simp)
  · exact (enterMotion_noSample _ _).after (by simp)
  · exact (enterMotion_noSample _ _).after (by simp)
  · exact (enterMotion_noSample _ _).after rfl
  · exact (enterMotion_noSample _ _).after rfl
  · exact .inr rfl
  · exact .refl s

theorem recoverDip_noSample (s : State) : NoSample s (recoverDip s) := .of_wgu (by simp [recoverDip])

/-- A job begins with the request for its dry weight (R27). -/
theorem startJob_noSample (j : Job) (rest : List Job) (s : State) : NoSample s (startJob j rest s) := .inr rfl

theorem faultAtStart_noSample (s : State) : NoSample s (faultAtStart s) := by
  unfold faultAtStart
  repeat' split
  · exact enterFault_noSample _ s
  · exact .refl s
  · exact enterFault_noSample _ s

theorem holdClaim_noSample (s : State) : NoSample s (holdClaim s) := by
  refine NoSample.trans ?_ (conflictCheck_noSample _)
  split
  · exact (enterMotion_noSample _ _).after (by simp)
  · exact .of_wgu (by simp)

theorem admitResv_noSample (s : State) : NoSample s (admitResv s) := by
  unfold admitResv
  dsimp only
  repeat' split
  · exact (enterMotion_noSample _ _).after (by simp)
  · exact .of_wgu (by simp)
  · exact .of_wgu (by simp)

theorem testImmersion_wgu (s : State) : (testImmersion s).wgu = s.wgu := by
  unfold testImmersion
  split <;> rfl

theorem mendExitWet_wgu (u v : State) : (mendExitWet u v).wgu = v.wgu := by
  obtain ⟨-, -, -, hwgu, -⟩ := mendExitWet_frame u v
  exact hwgu

/-- The receivers of a hook-height update, in either order (R74). -/
theorem hookUpdate_noSample (s : State) : NoSample s (hookUpdate s) := by
  unfold hookUpdate hookUpdateWith
  dsimp only
  split
  · exact (sgxHookUpdate_noSample _).after (by simp [testImmersion_wgu])
  · exact ((sgxHookUpdate_noSample (testImmersion s.nextFree)).after (testImmersion_wgu _)).before (by simp [mendExitWet_wgu])

theorem failedRead_noSample (s : State) : NoSample s (failedRead s) := by
  unfold failedRead
  split
  · exact (faultCause_noSample _ _).after rfl
  · exact .of_wgu rfl

theorem setDriveFault_noSample (level : Bool) (s : State) : NoSample s (setDriveFault level s) := by
  unfold setDriveFault
  dsimp only
  split
  · exact (faultCause_noSample _ _).after rfl
  · exact .of_wgu rfl

theorem takeEdge_noSample (input : Trigger) (rising : Bool) (s : State) : NoSample s (takeEdge input rising s) := by
  have hraise : (raiseTrigger input rising (latchEdge input rising s)).wgu = s.wgu := by
    unfold raiseTrigger
    split <;> rfl
  unfold takeEdge
  dsimp only
  split
  · exact (endSegment_noSample _).after hraise
  · exact .of_wgu hraise

theorem stopAttempt_noSample (a : Attempt) (n : Nat) (dominant : Bool) (s : State) :
    NoSample s (stopAttempt a n dominant s) := by
  unfold stopAttempt
  dsimp only
  split
  · exact .of_wgu (by simp)
  · exact .of_wgu rfl

theorem tickAll_noSample (s : State) : NoSample s (tickAll s) := by
  refine .inl ?_
  have htick (n : Nat) (op : WeighOp) : (op.tick n).samples = op.samples := by
    cases hp : op.phase with
    | settling => rw [tick_settling n op hp]
    | averaging => rw [tick_averaging n op hp]
  show (s.wgu.op.map _).elim [] WeighOp.samples = s.wgu.op.elim [] WeighOp.samples
  cases s.wgu.op with
  | none => rfl
  | some op => exact htick _ op

end Sys2Proof.Machine
end

section
/-! SUPPORT. Every command but RAW_SAMPLE leaves the list of the weigh operation, or empties it. -/

namespace Sys2Proof.Machine

variable {s u : State} {o o' : Host.Outcome State Fault Refusal} {body : List Byte → Host.Outcome State Fault Refusal}

/-- The outcome of a command with which no sample joins the list. -/
def TakesNoSample (s : State) (o : Host.Outcome State Fault Refusal) : Prop := ∀ t, o = .next t → NoSample s t

/-! ### The shapes of an answer -/

theorem unchanged_takesNoSample (s : State) : TakesNoSample s (unchanged s) := by
  rintro t ⟨⟩
  exact .refl s

theorem settle_takesNoSample (h : NoSample s u) : TakesNoSample s (settle u) := by
  rintro t ⟨⟩
  exact h.before rfl

theorem refuse_takesNoSample (code : ResultCode) (s : State) : TakesNoSample s (refuse code s) := by
  rintro t ⟨⟩
  exact .of_wgu rfl

theorem refused_takesNoSample (r : Refusal) (s : State) : TakesNoSample s (.refused r) := by
  rintro t ⟨⟩

theorem accept_takesNoSample {data : List Byte} (h : NoSample s u) : TakesNoSample s (accept data u) :=
  settle_takesNoSample (h.before rfl)

theorem TakesNoSample.ite {p : Prop} [Decidable p] (h : TakesNoSample s o) (h' : TakesNoSample s o') :
    TakesNoSample s (if p then o else o') := by
  split
  · exact h
  · exact h'

/-- An arrival that acts under a condition, and otherwise finds nothing (log 2). -/
theorem settleIf_takesNoSample {p : Prop} [Decidable p] (h : NoSample s u) :
    TakesNoSample s (if p then settle u else unchanged s) := .ite (settle_takesNoSample h) (unchanged_takesNoSample s)

/-- An arrival that acts on what a register holds, and finds nothing where it holds nothing. -/
theorem elim_takesNoSample {α : Type} (x : Option α) {f : α → Host.Outcome State Fault Refusal}
    (h : ∀ a, TakesNoSample s (f a)) : TakesNoSample s (x.elim (unchanged s) f) := by
  cases x with
  | none => exact unchanged_takesNoSample s
  | some a => exact h a

/-- A frame is refused without effect, or its body answers (R186). -/
theorem takeFrame_takesNoSample {taken : Taken} {tail : List Byte} (h : ∀ args, TakesNoSample s (body args)) :
    TakesNoSample s (takeFrame taken tail s body) := by
  rcases takeFrame_cases s taken tail body with ⟨-, hf⟩ | ⟨-, hf⟩ | ⟨-, hf⟩ | ⟨args, -, -, hf⟩
  · exact hf ▸ refuse_takesNoSample .busy s
  · exact hf ▸ refuse_takesNoSample .badFrame s
  · exact hf ▸ refuse_takesNoSample .mode s
  · exact hf ▸ h args

/-- A frame whose argument length is checked first (R187). -/
theorem takeArgs_takesNoSample {taken : Taken} {tail : List Byte} {n : Nat} (h : ∀ args, TakesNoSample s (body args)) :
    TakesNoSample s (takeFrame taken tail s fun args => withArgs n args s (body args)) :=
  takeFrame_takesNoSample fun args => .ite (h args) (refuse_takesNoSample .badArg s)

/-! ### Every command -/

/-- Only RAW_SAMPLE puts a sample into the list; SETTLE_TIMEOUT delivers it, a fault or an abort drops it, and WEIGH_DRY, WEIGH_EXIT
and WEIGH_DRAINED begin a new one (R27, R32, R95, R98). -/
theorem exec_takesNoSample {c : Instr} (hc : ∀ raw, c ≠ .rawSample raw) (s : State) : TakesNoSample s (exec c s) := by
  have refuses := fun code => refuse_takesNoSample code s
  have idles := unchanged_takesNoSample s
  cases c with
  | rawSample raw => exact absurd rfl (hc raw)
  | hardwareReset =>
    rintro t ⟨⟩
    exact .inr rfl
  | loadBegin => exact takeArgs_takesNoSample fun _ => .ite (accept_takesNoSample (.of_wgu rfl)) (refuses _)
  | loadData => exact takeFrame_takesNoSample fun _ => .ite (accept_takesNoSample (.of_wgu rfl)) (refuses _)
  | loadEnd => exact takeArgs_takesNoSample fun _ => settle_takesNoSample (.of_wgu rfl)
  | validationEnd =>
    show TakesNoSample s (execValidationEnd s)
    unfold execValidationEnd
    repeat' split
    · exact settle_takesNoSample (.of_wgu rfl)
    · refine settle_takesNoSample (.inl ?_)
      simp [loadPasses, State.collected]
    · exact idles
  | loadTimerExpiry => exact settleIf_takesNoSample (.of_wgu rfl)
  | listenTimerExpiry => exact settleIf_takesNoSample (.of_wgu rfl)
  | getStatus =>
    show TakesNoSample s (execGetStatus _ s)
    unfold execGetStatus answerFrame
    split
    · exact refuses _
    · refine .ite (.ite ?_ (refuses _)) (refuses _)
      rintro t ⟨⟩
      exact .of_wgu rfl
  | dip =>
    refine takeFrame_takesNoSample fun args => .ite (refuses _) ?_
    split
    · exact refuses _
    · exact accept_takesNoSample (.of_wgu rfl)
  | cancelJob =>
    exact takeArgs_takesNoSample fun _ => .ite (accept_takesNoSample (.of_wgu rfl)) (.ite (refuses _) (refuses _))
  | abortDip =>
    refine takeArgs_takesNoSample fun args => ?_
    split
    · exact refuses _
    · exact .ite (refuses _) (.ite (refuses _) (.ite (refuses _) (accept_takesNoSample ((routeAbort_noSample _).after rfl))))
  | recover =>
    exact takeArgs_takesNoSample fun _ =>
      .ite (refuses _) (.ite (refuses _) (.ite (refuses _) (accept_takesNoSample (recoverDip_noSample s))))
  | setLevel => exact takeArgs_takesNoSample fun _ => .ite (refuses _) (accept_takesNoSample (.of_wgu (by simp)))
  | addZinc => exact takeArgs_takesNoSample fun _ => .ite (accept_takesNoSample (.of_wgu (by simp))) (refuses _)
  | removeDross => exact takeArgs_takesNoSample fun _ => .ite (accept_takesNoSample (.of_wgu (by simp))) (refuses _)
  | readRecord =>
    refine takeArgs_takesNoSample fun args => ?_
    split
    · exact refuses _
    · exact accept_takesNoSample (.of_wgu rfl)
  | peekRecord =>
    refine takeArgs_takesNoSample fun args => ?_
    split
    · exact refuses _
    · exact accept_takesNoSample (.refl s)
  | readPeer =>
    refine takeArgs_takesNoSample fun args => ?_
    split
    · exact refuses _
    · exact accept_takesNoSample (.refl s)
  | forgetPeer =>
    refine takeArgs_takesNoSample fun args => ?_
    repeat' split
    · exact refuses _
    · exact refuses _
    · exact refuses _
    · exact accept_takesNoSample ((tableChange_noSample _ _).after rfl)
  | setEventEnable => exact takeArgs_takesNoSample fun _ => accept_takesNoSample (.of_wgu rfl)
  | clearEvents => exact takeArgs_takesNoSample fun _ => accept_takesNoSample (.of_wgu rfl)
  | restart =>
    exact takeArgs_takesNoSample fun _ => .ite (refuses _) (.ite (accept_takesNoSample (.of_wgu rfl)) (refuses _))
  | idleFrame => exact idles
  | unknownCommand code tail =>
    refine .ite (.ite (refuses _) ?_) (refused_takesNoSample _ s)
    split
    · exact refuses _
    · exact refuses _
  | restartTimerExpiry => exact settleIf_takesNoSample (restartClear_noSample s)
  | jobStart =>
    show TakesNoSample s (execJobStart s)
    unfold execJobStart
    split
    · exact idles
    · exact settleIf_takesNoSample ((startJob_noSample _ _ s).trans (faultAtStart_noSample _))
  | settleTimeout =>
    show TakesNoSample s (execSettleTimeout s)
    unfold execSettleTimeout
    repeat' split
    · exact idles
    · exact idles
    · exact settle_takesNoSample (deliverSamples_noSample _ _ s)
    · exact idles
  | encoderRead =>
    exact .ite (settle_takesNoSample ((hookUpdate_noSample _).after rfl)) (settle_takesNoSample (failedRead_noSample s))
  | driveReadyEdge =>
    rw [exec_driveReadyEdge]
    exact elim_takesNoSample _ fun _ => settle_takesNoSample (.of_wgu rfl)
  | driveFaultEdge =>
    rw [exec_driveFaultEdge]
    exact elim_takesNoSample _ fun level => settle_takesNoSample (setDriveFault_noSample level s)
  | haltEdge =>
    rw [exec_haltEdge]
    exact elim_takesNoSample _ fun _ => settle_takesNoSample (.of_wgu rfl)
  | triggerEdge =>
    rw [exec_triggerEdge]
    exact elim_takesNoSample _ fun rising => settle_takesNoSample (takeEdge_noSample _ rising s)
  | firstFilteredLevel =>
    rw [exec_firstFilteredLevel]
    exact elim_takesNoSample _ fun _ => settle_takesNoSample (.of_wgu rfl)
  | motionLimitExpiry =>
    rw [exec_motionLimitExpiry]
    exact elim_takesNoSample _ fun _ => settleIf_takesNoSample (faultCause_noSample _ s)
  | driveLostExpiry =>
    rw [exec_driveLostExpiry]
    exact elim_takesNoSample _ fun _ => settleIf_takesNoSample (faultCause_noSample _ s)
  | dwellExpiry => exact settleIf_takesNoSample (endSegment_noSample s)
  | waitTimeout => exact settleIf_takesNoSample ((endSegment_noSample _).after rfl)
  | pulseExpiry => exact settleIf_takesNoSample (.of_wgu rfl)
  | holdLimitExpiry =>
    show TakesNoSample s (execHoldLimitExpiry s)
    unfold execHoldLimitExpiry
    split
    · exact idles
    · exact settleIf_takesNoSample (.of_wgu rfl)
  | transmitAttemptStart => exact settleIf_takesNoSample (.of_wgu rfl)
  | noticeEnd => exact settle_takesNoSample (endNotice_noSample _ _ s)
  | heartbeatTimerExpiry =>
    show TakesNoSample s (execHeartbeatTimerExpiry s)
    unfold execHeartbeatTimerExpiry
    split
    · exact idles
    · exact settleIf_takesNoSample (.of_wgu (by simp))
  | unsentExpiry =>
    show TakesNoSample s (execUnsentExpiry s)
    unfold execUnsentExpiry
    split
    · exact idles
    · exact settleIf_takesNoSample (.of_wgu (by simp))
  | peerAgeing => exact settleIf_takesNoSample ((tableChange_noSample _ _).after (by simp))
  | claimWindowExpiry =>
    show TakesNoSample s (execClaimWindowExpiry s)
    unfold execClaimWindowExpiry
    split
    · exact settleIf_takesNoSample (holdClaim_noSample s)
    · exact idles
  | admissionWindowExpiry =>
    show TakesNoSample s (execAdmissionWindowExpiry s)
    unfold execAdmissionWindowExpiry
    split
    · exact settleIf_takesNoSample (admitResv_noSample s)
    · exact idles
  | stationClockTick => exact settle_takesNoSample (tickAll_noSample s)
  | bitReadBackMismatch bitTime dominant =>
    show TakesNoSample s (execBitReadBackMismatch bitTime dominant s)
    unfold execBitReadBackMismatch
    split
    · exact idles
    · exact settleIf_takesNoSample (stopAttempt_noSample _ _ _ s)
  | csnFallingEdge =>
    rintro t ⟨⟩
    exact .of_wgu rfl

end Sys2Proof.Machine
end

section
/-! PROOF. The weigh samples in range, and the configuration validated (O60): RAW_SAMPLE puts samples in range into the window and
into the list, and VALIDATION_END puts a configuration that has passed its header ranges into force; no other command does either. -/

namespace Sys2Proof.Machine

variable {s t : State} {c : Instr}

/-! ### Samples in range (R4, R89, R90, R92) -/

/-- A list of at most so many samples, none above the largest weight (R89). -/
def SamplesOk (top : Nat) (l : List Sample) : Prop := l.length ≤ top ∧ ∀ x ∈ l, x.gross ≤ maxWeight

theorem SamplesOk.nil (top : Nat) : SamplesOk top [] := ⟨Nat.zero_le _, nofun⟩

/-- The latest of the samples, a new one with them (R90, R93). -/
theorem SamplesOk.latest {top : Nat} {l : List Sample} {x : Sample} (h : SamplesOk top l) (hx : x.gross ≤ maxWeight) :
    SamplesOk top ((l ++ [x]).drop (l.length + 1 - top)) := by
  obtain ⟨-, hrange⟩ := h
  constructor
  · rw [List.length_drop, List.length_append, List.length_singleton]
    omega
  · intro y hy
    rcases List.mem_append.mp (List.mem_of_mem_drop hy) with hl | hnew
    · exact hrange y hl
    · rwa [List.mem_singleton.mp hnew]

/-- One more sample, where there is room (R94). -/
theorem SamplesOk.append {top : Nat} {l : List Sample} {x : Sample} (h : SamplesOk top l) (hx : x.gross ≤ maxWeight)
    (hroom : l.length + 1 ≤ top) : SamplesOk top (l ++ [x]) := by
  have hlatest := h.latest hx
  rwa [Nat.sub_eq_zero_of_le hroom] at hlatest

theorem weighWf_iff (s : State) : WeighWf s ↔ SamplesOk windowSize s.wgu.window ∧ SamplesOk averageSize s.collected := by
  have hop : (∀ op, s.wgu.op = some op → SamplesOk averageSize op.samples) ↔ SamplesOk averageSize s.collected := by
    cases hs : s.wgu.op with
    | none => simp [State.collected, hs, SamplesOk.nil]
    | some op => simp [State.collected, hs]
  rw [← hop]
  exact and_assoc.symm

theorem weighSample_gross_le (zero : Int) (gain : Nat) (raw : BitVec 24) : (weighSample zero gain raw).gross ≤ maxWeight :=
  clampNat_le _ _

/-! ### The Weighing Unit's own commands -/

theorem NoSample.collected_ok (h : NoSample s t) (hs : SamplesOk averageSize s.collected) :
    SamplesOk averageSize t.collected := by
  rcases h with h | h
  · rwa [h]
  · exact h ▸ .nil averageSize

/-- An operation in SETTLING keeps the latest samples, or begins to average with none (R93). -/
theorem settleWith_samples_ok {op : WeighOp} {x : Sample} (still : Bool) (h : SamplesOk averageSize op.samples)
    (hx : x.gross ≤ maxWeight) : SamplesOk averageSize (op.settleWith still x).samples := by
  unfold WeighOp.settleWith
  split
  · exact .nil averageSize
  · exact h.latest hx

/-- An operation in AVERAGING takes the sample, or delivers and is over (R94). -/
theorem averageSample_collected_ok {op : WeighOp} {x : Sample} (hop : SamplesOk averageSize op.samples)
    (hx : x.gross ≤ maxWeight) (hs : SamplesOk averageSize s.collected) :
    SamplesOk averageSize (averageSample op x s).collected := by
  unfold averageSample
  split
  · exact (deliverSamples_noSample _ _ s).collected_ok hs
  · rename_i hroom
    exact hop.append hx (by omega)

theorem takeSample_collected_ok {x : Sample} (hx : x.gross ≤ maxWeight) (hs : SamplesOk averageSize s.collected) :
    SamplesOk averageSize (takeSample x s).collected := by
  cases hop : s.wgu.op with
  | none =>
    rw [takeSample_of_none hop]
    exact hs
  | some op =>
    have hsamples : SamplesOk averageSize op.samples := by rwa [State.collected, hop] at hs
    cases hp : op.phase with
    | settling =>
      rw [takeSample_of_settling hop hp]
      exact settleWith_samples_ok _ hsamples hx
    | averaging =>
      rw [takeSample_of_averaging hop hp]
      exact averageSample_collected_ok hsamples hx hs

/-- The window takes the sample; what the operation then does leaves it (R90). -/
theorem takeSample_window (x : Sample) (s : State) : (takeSample x s).wgu.window = (pushWindow x s).wgu.window := by
  have hdeliver (l : List Sample) (v : State) : (deliverSamples l false v).wgu.window = v.wgu.window :=
    congrArg Named.window (deliverSamples_named v l false)
  cases hop : s.wgu.op with
  | none => rw [takeSample_of_none hop]
  | some op =>
    cases hp : op.phase with
    | settling => rw [takeSample_of_settling hop hp]; rfl
    | averaging =>
      rw [takeSample_of_averaging hop hp]
      unfold averageSample
      split
      · exact hdeliver _ _
      · rfl

theorem takeRaw_weighWf (raw : BitVec 24) (hs : WeighWf s) : WeighWf (takeRaw raw s) := by
  rw [weighWf_iff] at hs ⊢
  obtain ⟨hwindow, hcollected⟩ := hs
  unfold takeRaw
  split
  · have hx := weighSample_gross_le s.settings.weighZero s.settings.weighGain raw
    refine ⟨?_, takeSample_collected_ok hx hcollected⟩
    rw [takeSample_window]
    exact hwindow.latest hx
  · exact ⟨hwindow, hcollected⟩

/-! ### Every command -/

/-- The window is RAW_SAMPLE's only (O18). -/
theorem exec_window (hreset : c ≠ .hardwareReset) (hraw : ∀ raw, c ≠ .rawSample raw) (h : exec c s = .next t) :
    t.wgu.window = s.wgu.window := by
  have hwithin : t.named = s.named.changedBy c t.named := (exec_scope hreset h).within
  rcases changedBy_window c s.named t.named with hkept | ⟨raw, hc⟩
  · exact (congrArg Named.window hwithin).trans hkept
  · exact absurd hc (hraw raw)

theorem exec_weighWf (hs : WeighWf s) (h : exec c s = .next t) : WeighWf t := by
  by_cases hreset : c = .hardwareReset
  · subst hreset
    cases h
    exact (weighWf_iff _).mpr ⟨.nil _, .nil _⟩
  by_cases hraw : ∃ raw, c = .rawSample raw
  · obtain ⟨raw, rfl⟩ := hraw
    have hexec : execRawSample raw s = .next t := h
    unfold execRawSample at hexec
    split at hexec
    · cases hexec
      exact takeRaw_weighWf raw hs
    · cases hexec
      exact hs
  · have hraw' : ∀ raw, c ≠ .rawSample raw := not_exists.mp hraw
    obtain ⟨hwindow, hcollected⟩ := (weighWf_iff s).mp hs
    refine (weighWf_iff t).mpr ⟨?_, (exec_takesNoSample hraw' s t h).collected_ok hcollected⟩
    rwa [exec_window hreset hraw' h]

/-! ### The configuration (R192, R193) -/

/-- A validation passes only with every header field in its range (R191, R192). -/
theorem headerFields_of_validated {l : Load} (h : validateLoad l = none) :
    ∀ p ∈ headerFields l.buffer l.declared, p.2 = true := by
  have hheader : headerCheck l.buffer l.declared = none := by
    unfold validateLoad at h
    repeat' split at h
    · cases h
    · cases h
    · cases h
    · cases h
    · assumption
  simpa [headerCheck] using hheader

/-- The settings of an image that passes are in their ranges (R192). -/
theorem settingsOk_of_validated {l : Load} (h : validateLoad l = none) : SettingsOk (settingsOf l.buffer) := by
  have hfields := headerFields_of_validated h
  simp only [headerFields, List.forall_mem_cons, decide_eq_true_eq] at hfields
  obtain ⟨-, hzones, harea, hmass, -, htravel, hmax, hcreep, hslow, hband, hexit, hsafe, hhold, hdivider, hstill, hsettle,
    hgain, -⟩ := hfields
  exact ⟨hzones, harea, hmass, htravel, hmax, hcreep, hband, hexit, hhold, hdivider, hstill, hsettle, hgain, hslow, hsafe⟩

/-- A validation that passes takes the settings of its image into force; one that fails leaves those in force (R193). -/
theorem execValidationEnd_cfs (h : execValidationEnd s = .next t) :
    t.cfs = s.cfs ∨ validateLoad s.cpt.load = none ∧ t.cfs = some (settingsOf s.cpt.load.buffer) := by
  unfold execValidationEnd at h
  repeat' split at h
  · cases h
    exact .inl rfl
  · rename_i hvalid
    cases h
    exact .inr ⟨hvalid, by simp [loadPasses]⟩
  · cases h
    exact .inl rfl

/-- The Configuration Store is emptied by hardware reset and written by VALIDATION_END only (O18). -/
theorem exec_configWf (hs : ConfigWf s) (h : exec c s = .next t) : ConfigWf t := by
  by_cases hreset : c = .hardwareReset
  · subst hreset
    cases h
    exact nofun
  have hwithin : t.named = s.named.changedBy c t.named := (exec_scope hreset h).within
  rcases changedBy_cfs c s.named t.named with hkept | rfl
  · have hcfs : t.cfs = s.cfs := (congrArg Named.cfs hwithin).trans hkept
    rwa [ConfigWf, hcfs]
  · rcases execValidationEnd_cfs h with hcfs | ⟨hvalid, hcfs⟩
    · rwa [ConfigWf, hcfs]
    · rw [ConfigWf, hcfs]
      rintro _ ⟨⟩
      exact settingsOk_of_validated hvalid

/-- What the command at the front of the queue keeps of what the queue is no part of, a step keeps (log 3). -/
theorem step_keeps_of_exec {P : State → Prop} (hqueue : ∀ s rest, P s → P { s with pending := rest })
    (hexec : ∀ c s t, P s → exec c s = .next t → P t) (hs : P s) (h : step s = .next t) : P t := by
  unfold step at h
  split at h
  · cases h
    exact hs
  · exact hexec _ _ _ (hqueue _ _ hs) h

/-- Settles O60: both invariants are kept by every command. -/
theorem stepKeepsTheSamplesAndTheConfiguration : Obligations.StepKeepsTheSamplesAndTheConfiguration :=
  ⟨fun _ _ => step_keeps_of_exec (fun _ _ => id) fun _ _ _ => exec_weighWf,
    fun _ _ => step_keeps_of_exec (fun _ _ => id) fun _ _ _ => exec_configWf⟩

end Sys2Proof.Machine
end

section
/-! PROOF. The dip log as the port reads it (O20): READ_RECORD and PEEK_RECORD share their refusals, and differ in what an oldest
record makes of the state. -/

namespace Sys2Proof.Machine

variable {s : State} {tail args : List Byte}

/-! ### Frames of the dip log (R110, R111) -/

/-- What READ_RECORD and PEEK_RECORD share (R110, R111): taken in LISTEN and READY, no arguments, EMPTY where the log holds no
record; `k` answers for the oldest record and those after it. -/
def answerOldest (tail : List Byte) (s : State) (k : DipRecord → List DipRecord → Host.Outcome State Fault Refusal) :
    Host.Outcome State Fault Refusal :=
  takeFrame .listenReady tail s fun args =>
    withArgs 0 args s
      (match s.acu.log with
       | [] => refuse .empty s
       | r :: rest => k r rest)

theorem exec_readRecord (tail : List Byte) (s : State) :
    exec (.readRecord tail) s
      = answerOldest tail s fun r rest => accept (recordBytes r) (s.onAcu fun a => { a with log := rest }) := rfl

theorem exec_peekRecord (tail : List Byte) (s : State) :
    exec (.peekRecord tail) s = answerOldest tail s fun r _ => accept (recordBytes r) s := rfl

section Answers

variable {k : DipRecord → List DipRecord → Host.Outcome State Fault Refusal}

theorem answerOldest_of_offline (hopen : FrameOpen s tail args) (hoff : s.online = false) :
    answerOldest tail s k = .next (refusedWith .mode s) := by
  rw [answerOldest, takeFrame_of_open s hopen, listenReady_inMode, if_neg (by simp [hoff])]

theorem answerOldest_of_args (hopen : FrameOpen s tail args) (honline : s.online = true) (hargs : args ≠ []) :
    answerOldest tail s k = .next (refusedWith .badArg s) := by
  rw [answerOldest, takeFrame_of_open s hopen, listenReady_inMode, if_pos honline, withArgs_eq,
    if_neg (mt List.length_eq_zero_iff.mp hargs)]

theorem answerOldest_of_nil (hopen : FrameOpen s tail []) (honline : s.online = true) (hlog : s.acu.log = []) :
    answerOldest tail s k = .next (refusedWith .empty s) := by
  rw [answerOldest, takeFrame_of_open s hopen, listenReady_inMode, if_pos honline, withArgs_eq, if_pos List.length_nil, hlog,
    refuse_eq_refusedWith]

theorem answerOldest_of_cons (hopen : FrameOpen s tail []) (honline : s.online = true) {r : DipRecord}
    {rest : List DipRecord} (hlog : s.acu.log = r :: rest) : answerOldest tail s k = k r rest := by
  rw [answerOldest, takeFrame_of_open s hopen, listenReady_inMode, if_pos honline, withArgs_eq, if_pos List.length_nil, hlog]

/-- The refusals of a frame of the dip log, in their order (R110, R111, R187). -/
theorem answerOldest_refusals (hopen : FrameOpen s tail args) :
    (s.online = false → answerOldest tail s k = .next (refusedWith .mode s))
      ∧ (s.online = true → args ≠ [] → answerOldest tail s k = .next (refusedWith .badArg s))
      ∧ (s.online = true → args = [] → s.acu.log = [] → answerOldest tail s k = .next (refusedWith .empty s)) := by
  refine ⟨answerOldest_of_offline hopen, answerOldest_of_args hopen, fun honline hargs hlog => ?_⟩
  subst hargs
  exact answerOldest_of_nil hopen honline hlog

end Answers

/-! ### The record in the response (R113) -/

/-- A record is 49 bytes, whatever it holds (06, Dip record layout). -/
theorem recordBytes_length (r : DipRecord) : (recordBytes r).length = 49 := by
  simp only [recordBytes, List.length_append, beBytes_length]

/-- The pins follow; the response stays. -/
theorem drivePins_response (s : State) : (drivePins s).cpt.response = s.cpt.response := rfl

theorem exec_readRecord_of_cons (hopen : FrameOpen s tail []) (honline : s.online = true) {r : DipRecord}
    {rest : List DipRecord} (hlog : s.acu.log = r :: rest) :
    exec (.readRecord tail) s
      = .next (drivePins (respond .ok (recordBytes r) (s.onAcu fun a => { a with log := rest }))) := by
  rw [exec_readRecord, answerOldest_of_cons hopen honline hlog, accept_eq_drivePins]

theorem exec_peekRecord_of_cons (hopen : FrameOpen s tail []) (honline : s.online = true) {r : DipRecord}
    {rest : List DipRecord} (hlog : s.acu.log = r :: rest) :
    exec (.peekRecord tail) s = .next (drivePins (respond .ok (recordBytes r) s)) := by
  rw [exec_peekRecord, answerOldest_of_cons hopen honline hlog, accept_eq_drivePins]

/-- Settles O20: the refusals are those of the shared frame (`answerOldest_refusals`); what an oldest record makes of the state is
the command's own, and a record peeked depends on the log alone. -/
theorem recordsAreReadAndPeeked : Obligations.RecordsAreReadAndPeeked := by
  refine ⟨fun s tail args hopen => ?read, fun s tail args hopen => ?peek⟩
  case read =>
    obtain ⟨hmode, hbadArg, hempty⟩ := answerOldest_refusals hopen
    refine ⟨hmode, hbadArg, hempty, ?_⟩
    rintro r rest honline rfl hlog
    exact ⟨exec_readRecord_of_cons hopen honline hlog, recordBytes_length r⟩
  case peek =>
    obtain ⟨hmode, hbadArg, hempty⟩ := answerOldest_refusals hopen
    refine ⟨hmode, hbadArg, hempty, ?_⟩
    rintro r rest honline rfl hlog
    refine ⟨_, exec_peekRecord_of_cons hopen honline hlog, rfl, recordBytes_length r, fun u tail' hopen' honline' hsame => ?_⟩
    have hlog' : u.acu.log = r :: rest := hsame.trans hlog
    refine ⟨_, exec_peekRecord_of_cons hopen' honline' hlog', ?_⟩
    rw [drivePins_response, drivePins_response]
    rfl

end Sys2Proof.Machine
end

section
/-! PROOF. The receive checks on the bytes of a notice (O4): the length and the CRC of a notice with its CRC appended, and the
fields of a STATE payload, each read from where it was put. -/

namespace Sys2Proof.Machine

/-! ### Checks 1 to 4 (R120, R122) -/

/-- The two CRC bytes spell the CRC (R120). -/
theorem beNat_crc16 (bytes : List Byte) : beNat (beBytes 2 (crc16 bytes).toNat) = (crc16 bytes).toNat := by
  rw [beNat_beBytes]
  exact Nat.mod_eq_of_lt (crc16 bytes).isLt

/-- Bits 7–5 of the arbitration byte are the kind code, the other bits the station (R119). -/
theorem arbitrationByte_toNat (k : NoticeKind) (station : StationIx) :
    (arbitrationByte k station).toNat = k.code * 32 + station.val := by
  have hcode : k.code ≤ 2 := by cases k <;> decide
  exact (BitVec.toNat_ofNat _ _).trans (Nat.mod_eq_of_lt (by omega))

/-- A notice of a station with its CRC appended passes checks 1 and 2, so that its kind and its length decide (R122). -/
theorem checkNotice_withCrc16 (k : NoticeKind) (station : StationIx) (len : Byte) (payload : List Byte)
    (hlen : payload.length = len.toNat) :
    checkNotice (withCrc16 (arbitrationByte k station :: len :: payload)) false
      = if k = .leave ∧ len.toNat = 0 then some ⟨station, .leave⟩
        else if k = .state ∧ len.toNat = 29 then (announcedOf payload).map fun a => ⟨station, .state a⟩
        else none := by
  let crc := beBytes 2 (crc16 (arbitrationByte k station :: len :: payload)).toNat
  have hcrc : crc.length = 2 := beBytes_length _ _
  have htake : (payload ++ crc).take len.toNat = payload := List.take_left' hlen
  have hdrop : (payload ++ crc).drop len.toNat = crc := List.drop_left' hlen
  have hfield : (k.code * 32 + station.val) % 32 = station.val := by omega
  have hkind : (k.code * 32 + station.val) / 32 = k.code := by omega
  have hleave : k.code = 1 ↔ k = .leave := by cases k <;> decide
  have hstate : k.code = 2 ↔ k = .state := by cases k <;> decide
  show checkNotice (arbitrationByte k station :: len :: (payload ++ crc)) false = _
  simp only [checkNotice, htake, hdrop, arbitrationByte_toNat, hfield, hkind, hleave, hstate]
  rw [if_neg (by simp [hlen, hcrc]), if_neg (not_not.mpr (beNat_crc16 _)), dif_pos station.isLt]

/-! ### Check 5: the fields of a STATE payload (R119, R121) -/

theorem claimStatusOf_code (c : ClaimStatus) : claimStatusOf c.code = some c := by cases c <;> rfl

theorem resvStatusOf_code (r : ResvStatus) : resvStatusOf r.code = some r := by cases r <;> rfl

/-- A word is read back from its number modulo what its place holds. -/
theorem ofNat_toNat_mod {w : Nat} (x : BitVec w) : BitVec.ofNat w (x.toNat % 2 ^ w) = x := by
  rw [Nat.mod_eq_of_lt x.isLt, BitVec.ofNat_toNat, BitVec.setWidth_eq]

/-- The field of a number put at the end of joined bytes. -/
theorem beField_beBytes (l : List Byte) (k n : Nat) {at_ : Nat} (h : l.length = at_) :
    beField (l ++ beBytes k n) at_ k = n % 256 ^ k := by
  rw [← h, ← Nat.add_zero l.length, beField_append_right, beField_all _ _ (beBytes_length k n), beNat_beBytes]

/-- The flags byte of a STATE notice (07, Notice layout). -/
def Announced.flagsByte (a : Announced) : Nat := flagBit 0 a.lineLost + flagBit 1 a.fault + flagBit 2 a.hold

/-- Each of the three flags is its bit of the flags byte, and no flag lies above the byte. -/
theorem flagsByte_bits (a : Announced) :
    (a.flagsByte % 256).testBit 0 = a.lineLost ∧ (a.flagsByte % 256).testBit 1 = a.fault
      ∧ (a.flagsByte % 256).testBit 2 = a.hold := by
  have hall : ∀ x y z : Bool, ((flagBit 0 x + flagBit 1 y + flagBit 2 z) % 256).testBit 0 = x
      ∧ ((flagBit 0 x + flagBit 1 y + flagBit 2 z) % 256).testBit 1 = y
      ∧ ((flagBit 0 x + flagBit 1 y + flagBit 2 z) % 256).testBit 2 = z := by decide
  exact hall _ _ _

theorem statePayload_length (a : Announced) : (statePayload a).length = 29 := by
  simp only [statePayload, List.length_append, beBytes_length]

/-- The fields of a STATE payload at their offsets, each modulo what its place can hold (07, Notice layout). -/
theorem beField_statePayload (a : Announced) :
    (beField (statePayload a) 0 1 = a.stage % 256 ∧ beField (statePayload a) 1 1 = a.claim.code % 256
        ∧ beField (statePayload a) 2 2 = a.mask.toNat % 65536 ∧ beField (statePayload a) 4 1 = a.resv.code % 256)
      ∧ (beField (statePayload a) 5 2 = a.reserved % 65536 ∧ beField (statePayload a) 7 2 = a.actual % 65536
        ∧ beField (statePayload a) 9 2 = a.epoch % 65536 ∧ beField (statePayload a) 11 1 = a.origin % 256
        ∧ beField (statePayload a) 12 4 = a.inventory % 4294967296)
      ∧ (beField (statePayload a) 16 4 = a.drawn.toNat % 4294967296
        ∧ beField (statePayload a) 20 4 = a.added.toNat % 4294967296
        ∧ beField (statePayload a) 24 4 = a.removed.toNat % 4294967296
        ∧ beField (statePayload a) 28 1 = a.flagsByte % 256) := by
  have hfirst : ∀ n, beField (beBytes 1 n) 0 1 = n % 256 := fun n => beField_beBytes [] 1 n rfl
  refine ⟨⟨?_, ?_, ?_, ?_⟩, ⟨?_, ?_, ?_, ?_, ?_⟩, ?_, ?_, ?_, ?_⟩ <;>
    simp [-List.append_assoc, statePayload, Announced.flagsByte, beField_append_left, beField_beBytes, hfirst]

/-- A STATE payload reads as what was put into it, where every field fits its place (R122, check 5). -/
theorem announcedOf_statePayload {a : Announced} (hstage : a.stage < 256) (hreserved : a.reserved < 65536)
    (hactual : a.actual < 65536) (hepoch : a.epoch < 65536) (horigin : a.origin < 256)
    (hinventory : a.inventory < 4294967296) : announcedOf (statePayload a) = some a := by
  obtain ⟨⟨h0, h1, h2, h4⟩, ⟨h5, h7, h9, h11, h12⟩, h16, h20, h24, h28⟩ := beField_statePayload a
  have hclaim : a.claim.code % 256 = a.claim.code := by cases a.claim <;> rfl
  have hresv : a.resv.code % 256 = a.resv.code := by cases a.resv <;> rfl
  have hmask : BitVec.ofNat 16 (a.mask.toNat % 65536) = a.mask := ofNat_toNat_mod a.mask
  have hword : ∀ w : Word, BitVec.ofNat 32 (w.toNat % 4294967296) = w := ofNat_toNat_mod
  obtain ⟨hline, hfault, hhold⟩ := flagsByte_bits a
  simp only [announcedOf, h0, h1, h2, h4, h5, h7, h9, h11, h12, h16, h20, h24, h28, hclaim, hresv, claimStatusOf_code,
    resvStatusOf_code, hmask, hword, hline, hfault, hhold, Nat.mod_eq_of_lt hstage, Nat.mod_eq_of_lt hreserved,
    Nat.mod_eq_of_lt hactual, Nat.mod_eq_of_lt hepoch, Nat.mod_eq_of_lt horigin, Nat.mod_eq_of_lt hinventory]

/-- Settles O4: the bytes of a notice pass checks 1 to 4 (`checkNotice_withCrc16`), and a STATE payload reads as what was put into
it (`announcedOf_statePayload`). -/
theorem noticeCheckInvertsNoticeBytes : Obligations.NoticeCheckInvertsNoticeBytes := by
  refine ⟨fun station => ?leave, fun station a hstage hreserved hactual hepoch horigin hinventory => ?state⟩
  case leave => exact checkNotice_withCrc16 .leave station 0x00 [] rfl
  case state =>
    have hread := announcedOf_statePayload hstage hreserved hactual hepoch horigin hinventory
    have hcheck := checkNotice_withCrc16 .state station 0x1D (statePayload a) (statePayload_length a)
    rw [hread] at hcheck
    exact hcheck

end Sys2Proof.Machine
end

section
/-! SUPPORT. LINE_LOST set and cleared (R128 to R130), an attempt failed (R118), and the end of a notice (R115): what each leaves
of the Kettle Line Interface, of the claim and of the reservation, and one equation for each way a notice ends. -/

namespace Sys2Proof.Machine

variable {s t u : State}

/-! ### What the blocks' answers to LINE_LOST keep -/

/-- A STATE request that stands keeps its raise time, and no event is raised but HOLD_BEGIN (R35, R124). -/
structure LineKept (s t : State) : Prop where
  request : ∀ r, s.kli.stateRequest = some r → t.kli.stateRequest = some r
  event   : ∀ e, Event.holdBegin.bit &&& e.bit = 0 → t.pendingEvent e = s.pendingEvent e

theorem LineKept.refl (s : State) : LineKept s s := ⟨fun _ => id, fun _ _ => rfl⟩

theorem LineKept.trans (h : LineKept s t) (h' : LineKept t u) : LineKept s u :=
  ⟨fun r hr => h'.request r (h.request r hr), fun e he => (h'.event e he).trans (h.event e he)⟩

/-- What is kept from a state on is kept from one with the same KLI and port. -/
theorem LineKept.after (h : LineKept t u) (hk : t.kli = s.kli) (hc : t.cpt = s.cpt) : LineKept s u :=
  ⟨fun r hr => h.request r (hk ▸ hr), fun e he => (h.event e he).trans (pendingEvent_congr hc e)⟩

theorem LineKept.raiseState (s : State) : LineKept s (raiseState s) where
  request r hr := by
    unfold Machine.raiseState
    split
    · exact congrArg (fun o : Option Word => some (o.getD s.sck)) hr
    · exact hr
  event e _ := raiseState_pendingEvent s e

theorem LineKept.raiseStateIf (c : Bool) (s : State) : LineKept s (raiseStateIf c s) := by
  unfold Machine.raiseStateIf
  split
  exacts [.raiseState s, .refl s]

theorem LineKept.holdBegin (s : State) : LineKept s (raiseEvent .holdBegin s) :=
  ⟨fun _ => id, fun _ he => raiseEvent_pendingEvent_of_apart s he⟩

theorem LineKept.waitHold (r : HoldReason) (s : State) : LineKept s (waitHold r s) := by
  unfold Machine.waitHold
  split
  · exact (LineKept.refl _).after rfl rfl
  · exact ((LineKept.holdBegin _).trans (.raiseState _)).after rfl rfl

theorem LineKept.endHold (s : State) : LineKept s (endHold s) := by
  unfold Machine.endHold
  split
  · exact .refl s
  · exact (LineKept.raiseState _).after rfl rfl

theorem LineKept.reportClaim (s : State) : LineKept s (reportClaim s) := by
  unfold Machine.reportClaim
  repeat' split
  exacts [.waitHold _ s, .endHold s, .refl s]

theorem LineKept.reportResv (s : State) : LineKept s (reportResv s) := by
  unfold Machine.reportResv
  repeat' split
  exacts [.waitHold _ s, .endHold s, .refl s]

theorem LineKept.setClaim (c : ClaimState) (m : Mask) (s : State) : LineKept s (setClaim c m s) :=
  ((LineKept.raiseStateIf _ (s.onZcu fun z => { z with claim := c, mask := m })).trans (.reportClaim _)).after rfl rfl

theorem LineKept.setResv (r : ResvState) (s : State) : LineKept s (setResv r s) :=
  ((LineKept.raiseStateIf _ (s.onAdm fun a => { a with resv := r })).trans (.reportResv _)).after rfl rfl

theorem LineKept.testResv (s : State) : LineKept s (testResv s) := by
  unfold Machine.testResv
  split
  exacts [.setResv _ s, .setResv _ s]

theorem LineKept.zcuLineChanged (s : State) : LineKept s (zcuLineChanged s) := by
  unfold Machine.zcuLineChanged testClaim
  repeat' split
  exacts [.setClaim _ _ s, .setClaim _ _ s, .setClaim _ _ s, .refl s, .refl s]

theorem LineKept.admLineLost (s : State) : LineKept s (admLineLost s) := by
  unfold Machine.admLineLost
  repeat' split
  exacts [.refl s, .testResv s, .setResv _ s, .refl s]

theorem LineKept.admLineBack (s : State) : LineKept s (admLineBack s) := by
  unfold Machine.admLineBack
  repeat' split
  exacts [.refl s, .testResv s, .refl s]

/-! ### The claim and the reservation at a change of LINE_LOST (R164, R170, R176, R178) -/

theorem zcuLineChanged_of_lost {w : Option Word} (hc : s.zcu.claim = .pending w) (hl : s.lineLost = true) :
    zcuLineChanged s = setClaim (.waiting .line) 0 s := by
  simp only [zcuLineChanged, hc, hl, if_true]

theorem zcuLineChanged_of_back {w : Option Word} (hc : s.zcu.claim = .pending w) (hl : s.lineLost = false) :
    zcuLineChanged s = s := by
  simp only [zcuLineChanged, hc, hl, Bool.false_eq_true, if_false]

theorem zcuLineChanged_of_held (hc : s.zcu.claim = .held) : zcuLineChanged s = s := by
  simp only [zcuLineChanged, hc]

theorem admLineLost_of_pending {w : Option Word} (hr : s.adm.resv = .pending w) :
    admLineLost s = setResv (.waiting .line) s := by
  simp only [admLineLost, hr]

theorem admLineLost_of_admitted (hr : s.adm.resv = .admitted) : admLineLost s = s := by
  simp only [admLineLost, hr]

theorem admLineBack_of_pending {w : Option Word} (hr : s.adm.resv = .pending w) : admLineBack s = s := by
  simp only [admLineBack, hr]

/-! ### The setting of LINE_LOST (R128, R130) -/

/-- What the setting of LINE_LOST does, from clear: the cause, the event, the claim and the reservation that were PENDING, and the
flag of the active dip. The other registers of the KLI stay, a STATE request with its raise time. -/
structure LineLostSet (cause : LineLostCause) (s t : State) : Prop where
  cause    : t.kli.lineLost = cause
  event    : t.pendingEvent .lineLost = true
  attempt  : t.kli.attempt = s.kli.attempt
  failures : t.kli.failures = s.kli.failures
  leave    : t.kli.leaveRequest = s.kli.leaveRequest
  discards : t.kli.discards = s.kli.discards
  request  : ∀ r, s.kli.stateRequest = some r → t.kli.stateRequest = some r
  claim    : ∀ w, s.zcu.claim = .pending w → t.zcu.claim = .waiting .line ∧ t.zcu.mask = 0
  held     : s.zcu.claim = .held → t.zcu = s.zcu
  resv     : ∀ w, s.adm.resv = .pending w → t.adm.resv = .waiting .line
  admitted : s.adm.resv = .admitted → t.adm.resv = .admitted
  seen     : ∀ d, s.dcc.active = some d → ∃ e, t.dcc.active = some e ∧ e.flags.lineLostSeen = true ∧ e.job = d.job

theorem beginLineLost_set {cause : LineLostCause} (hcause : cause ≠ .none) (s : State) :
    LineLostSet cause s (beginLineLost cause s) := by
  let g := raiseEvent .lineLost (s.onKli fun k => { k with lineLost := cause })
  let v := raiseState g
  let w := zcuLineChanged v
  let x := admLineLost w
  have hkept : LineKept g x := (LineKept.raiseState g).trans ((LineKept.zcuLineChanged v).trans (.admLineLost w))
  have hlost : v.lineLost = true := by
    have hline : v.kli.lineLost = cause := by simp [v, g]
    rw [State.lineLost, hline]
    exact decide_eq_true hcause
  have hclaim : v.zcu = s.zcu := by simp [v, g]
  have hzcu : x.zcu = w.zcu := by simp [x]
  have hresv : w.adm = s.adm := by simp [w, v, g]
  have hjob : x.dcc.active.map (·.job) = s.dcc.active.map (·.job) := by simp [x, w, v, g]
  show LineLostSet cause s (x.onFlags fun f => { f with lineLostSeen := true })
  exact
    { cause := by simp [x, w, v, g]
      event := (hkept.event .lineLost (by decide)).trans (raiseEvent_pendingEvent _ .lineLost)
      attempt := by simp [x, w, v, g]
      failures := by simp [x, w, v, g]
      leave := by simp [x, w, v, g]
      discards := by simp [x, w, v, g]
      request := hkept.request
      claim := fun p hp => by
        have hw : w = setClaim (.waiting .line) 0 v := zcuLineChanged_of_lost (hclaim ▸ hp) hlost
        show x.zcu.claim = _ ∧ x.zcu.mask = 0
        rw [hzcu, hw]
        simp
      held := fun hh => by
        have hw : w = v := zcuLineChanged_of_held (hclaim ▸ hh)
        exact hzcu.trans (hw ▸ hclaim)
      resv := fun p hp => by
        have hx : x = setResv (.waiting .line) w := admLineLost_of_pending (hresv ▸ hp)
        show x.adm.resv = _
        rw [hx]
        simp
      admitted := fun ha => by
        have hx : x = w := admLineLost_of_admitted (hresv ▸ ha)
        exact (congrArg (·.adm.resv) hx).trans (hresv ▸ ha)
      seen := fun d hd => by
        rw [hd] at hjob
        obtain ⟨e, he, hej⟩ := Option.map_eq_some_iff.mp hjob
        exact ⟨{ e with flags := { e.flags with lineLostSeen := true } }, congrArg (Option.map _) he, rfl, hej⟩ }

/-- LINE_LOST sets in where it is clear, and FAILURES and UNSENT change nothing where it is set (R128). -/
theorem lineLostOccurs_of_clear (cause : LineLostCause) (h : s.lineLost = false) :
    lineLostOccurs cause s = beginLineLost cause s := by
  simp only [lineLostOccurs, h, Bool.false_eq_true, if_false]

theorem lineLostOccurs_of_lost {cause : LineLostCause} (h : s.lineLost = true) (hcause : cause ≠ .duplicate) :
    lineLostOccurs cause s = s := by
  simp only [lineLostOccurs, h, if_true, if_neg hcause]

/-- Where LINE_LOST is set, DUPLICATE replaces the cause, with its event (log 15). -/
theorem lineLostOccurs_duplicate_of_lost (h : s.lineLost = true) :
    lineLostOccurs .duplicate s = raiseEvent .lineLost (s.onKli fun k => { k with lineLost := .duplicate }) := by
  simp only [lineLostOccurs, h, if_true]

/-! ### An attempt failed (R118, R128) -/

/-- Below the sixteenth failure, and where LINE_LOST is set, a failure is counted and no more. -/
theorem attemptFailed_of_counted (h : s.kli.failures + 1 < 16 ∨ s.lineLost = true) :
    attemptFailed s = s.onKli fun k => { k with failures := min 255 (k.failures + 1) } := by
  have hnot : ¬ (16 ≤ min 255 (s.kli.failures + 1) ∧ !s.lineLost) := by
    rcases h with h | h
    · omega
    · simp [h]
  exact if_neg hnot

/-- The sixteenth failure in a row sets LINE_LOST where it is clear. -/
theorem attemptFailed_of_limit (h : 16 ≤ s.kli.failures + 1) (hl : s.lineLost = false) :
    attemptFailed s = beginLineLost .failures (s.onKli fun k => { k with failures := min 255 (k.failures + 1) }) := by
  have hlimit : 16 ≤ min 255 (s.kli.failures + 1) ∧ !s.lineLost := ⟨by omega, by simp [hl]⟩
  exact (if_pos hlimit).trans (lineLostOccurs_of_clear (s := s.onKli _) .failures hl)

/-! ### The end of a notice (R115, R118, R122, R123) -/

theorem exec_noticeEnd (bytes : List Byte) (spoiled : Bool) (s : State) :
    exec (.noticeEnd bytes spoiled) s = .next (drivePins (endNotice bytes spoiled s)) := rfl

variable {bytes : List Byte} {spoiled : Bool}

theorem endNotice_of_hunting (h : s.kli.hunting = true) :
    endNotice bytes spoiled s = s.onKli fun k => { k with hunting := false } := by
  simp only [endNotice, h, if_true]

theorem endNotice_of_silent (hh : s.kli.hunting = false) (ha : s.kli.attempt = none) :
    endNotice bytes spoiled s = receiveNotice bytes spoiled s := by
  simp only [endNotice, hh, Bool.false_eq_true, if_false, ha]

section Attempt

variable {a : Attempt} (hh : s.kli.hunting = false) (ha : s.kli.attempt = some a)

include hh ha

theorem endNotice_of_judged (hs : a.status ≠ .driving) :
    endNotice bytes spoiled s = receiveNotice bytes spoiled (dropAttempt s) := by
  simp only [endNotice, hh, Bool.false_eq_true, if_false, ha]

theorem endNotice_of_success (hs : a.status = .driving) :
    endNotice (noticeBytes s.own a.sending) false s = attemptSucceeded a s := by
  simp [endNotice, hh, ha, hs, judgeAtEnd]

theorem endNotice_of_lost (hs : a.status = .driving)
    (hj : judgeAtEnd (noticeBytes s.own a.sending) bytes spoiled = .lost) :
    endNotice bytes spoiled s = receiveNotice bytes spoiled (dropAttempt s) := by
  simp only [endNotice, hh, Bool.false_eq_true, if_false, ha, hs, hj]

theorem endNotice_of_failed (hs : a.status = .driving)
    (hj : judgeAtEnd (noticeBytes s.own a.sending) bytes spoiled = .failed) :
    endNotice bytes spoiled s = receiveNotice bytes spoiled (attemptFailed (dropAttempt s)) := by
  simp only [endNotice, hh, Bool.false_eq_true, if_false, ha, hs, hj]

end Attempt

theorem receiveNotice_of_offline (h : s.online = false) : receiveNotice bytes spoiled s = s := by
  simp only [receiveNotice, h, Bool.false_eq_true, if_false]

theorem receiveNotice_of_discarded (h : s.online = true) (hc : checkNotice bytes spoiled = none) :
    receiveNotice bytes spoiled s = s.onKli fun k => { k with discards := min 65535 (k.discards + 1) } := by
  simp only [receiveNotice, h, if_true, hc]
  rfl

theorem receiveNotice_of_own {x : Sending} (h : s.online = true) (hc : checkNotice bytes spoiled = some ⟨s.own, x⟩) :
    receiveNotice bytes spoiled s = lineLostOccurs .duplicate s := by
  simp only [receiveNotice, h, if_true, hc]

end Sys2Proof.Machine
end

section
/-! PROOF. TRANSMIT_ATTEMPT_START and BIT_READ_BACK_MISMATCH (O40): which bit times judge an attempt, and how. -/

namespace Sys2Proof.Machine

variable {s : State}

/-! ### TRANSMIT_ATTEMPT_START (R117, R121, R124, R131) -/

/-- An attempt that may begin: the sending of this moment. -/
theorem exec_transmitAttemptStart_of_may {x : Sending} (hmay : s.mayTransmit = true) (hx : s.nextSending = x) :
    exec .transmitAttemptStart s = .next (drivePins { s with kli := { s.kli with
      attempt := some { sending := x, status := .driving, reported := true }, lateRaise := none } }) := by
  subst hx
  exact if_pos hmay

/-- Nothing begins while the transmitter is silent, an attempt is in progress or no request is set (log 11). -/
theorem exec_transmitAttemptStart_of_not (h : s.online = false ∨ s.kli.hunting = true ∨ s.kli.attempt.isSome = true
    ∨ (s.kli.leaveRequest = false ∧ s.kli.stateRequest = none)) : exec .transmitAttemptStart s = .next s := by
  have hnot : s.mayTransmit = false := by
    unfold State.mayTransmit
    rcases h with h | h | h | ⟨hleave, hstate⟩
    · simp [h]
    · simp [h]
    · simp [Option.isSome_iff_ne_none.mp h]
    · simp [hleave, hstate]
  exact if_neg (Bool.eq_false_iff.mp hnot)

/-! ### BIT_READ_BACK_MISMATCH (R115, R117, R118) -/

/-- The last dominant bit time of a notice is the one after which nothing dominant is sent. -/
theorem lastDominant_eq {bytes : List Byte} {last : Nat} (hlast : sentDominant bytes last = true)
    (hafter : ∀ n, last < n → sentDominant bytes n = false) : lastDominant bytes = last := by
  have hne : bytes ≠ [] := by
    rintro rfl
    cases hlast
  obtain ⟨hdom, hbeyond⟩ := lastDominant_spec bytes hne
  rcases Nat.lt_trichotomy (lastDominant bytes) last with h | h | h
  · exact absurd (hbeyond last h) (by simp [hlast])
  · exact h
  · exact absurd (hafter _ h) (by simp [hdom])

/-- A bit time judges where it lies within the attempt's bit times and its level is not the one sent. -/
theorem mismatch_iff {x : Sending} {bytes : List Byte} {last : Nat} (hb : noticeBytes s.own x = bytes)
    (hlast : sentDominant bytes last = true) (hafter : ∀ n, last < n → sentDominant bytes n = false) (bitTime : Nat)
    (dominant : Bool) :
    s.mismatch x bitTime dominant = true ↔ bitTime ≤ last + 11 ∧ sentDominant bytes bitTime = !dominant := by
  rw [State.mismatch, hb, attemptBits, lastDominant_eq hlast hafter, Bool.and_eq_true, decide_eq_true_eq, bne_iff_ne,
    Bool.eq_not]
  exact and_congr_left' (by omega)

/-- Lost is a data bit of the arbitration byte read dominant, failed any other mismatch (R117). -/
theorem judgeMismatch_lost {bitTime : Nat} {dominant : Bool} (h : 1 ≤ bitTime ∧ bitTime ≤ 8) (hd : dominant = true) :
    judgeMismatch bitTime dominant = .lost := if_pos ⟨h.1, h.2, hd⟩

theorem judgeMismatch_failed {bitTime : Nat} {dominant : Bool} (h : ¬ ((1 ≤ bitTime ∧ bitTime ≤ 8) ∧ dominant = true)) :
    judgeMismatch bitTime dominant = .failed := if_neg fun ⟨h1, h8, hd⟩ => h ⟨⟨h1, h8⟩, hd⟩

theorem stopAttempt_of_lost {bitTime : Nat} {dominant : Bool} (a : Attempt) (h : judgeMismatch bitTime dominant = .lost) :
    stopAttempt a bitTime dominant s = s.onKli fun k => { k with attempt := some { a with status := .lost } } := by
  simp [stopAttempt, h]

theorem stopAttempt_of_failed {bitTime : Nat} {dominant : Bool} (a : Attempt) (h : judgeMismatch bitTime dominant = .failed) :
    stopAttempt a bitTime dominant s
      = attemptFailed (s.onKli fun k => { k with attempt := some { a with status := .failed } }) := by
  simp [stopAttempt, h]

section Mismatch

variable {a : Attempt} {bitTime : Nat} {dominant : Bool} (ha : s.kli.attempt = some a)

include ha

theorem exec_bitReadBackMismatch_of_mismatch (hs : a.status = .driving) (hm : s.mismatch a.sending bitTime dominant = true) :
    exec (.bitReadBackMismatch bitTime dominant) s = .next (drivePins (stopAttempt a bitTime dominant s)) := by
  show execBitReadBackMismatch bitTime dominant s = _
  simp only [execBitReadBackMismatch, ha, hs, hm, and_self, if_true, settle_eq_drivePins]

theorem exec_bitReadBackMismatch_of_match (hm : s.mismatch a.sending bitTime dominant = false) :
    exec (.bitReadBackMismatch bitTime dominant) s = .next s := by
  show execBitReadBackMismatch bitTime dominant s = _
  simp only [execBitReadBackMismatch, ha, hm, Bool.false_eq_true, and_false, if_false, unchanged_eq_next]

end Mismatch

/-- Settles O40: what begins is the sending of the moment; a mismatch within the attempt's bit times (`mismatch_iff`) stops the
attempt as `judgeMismatch` says, and a failure is counted by `attemptFailed`. -/
theorem attemptsBeginAndAreJudged : Obligations.AttemptsBeginAndAreJudged := by
  refine ⟨fun s => ⟨fun honline hhunting hattempt hleave => ?leave, fun honline hhunting hattempt hleave hstate => ?state,
    exec_transmitAttemptStart_of_not⟩,
    fun s a bytes last bitTime dominant ha hs hb hlast hafter => ⟨fun hbits hlevel => ?judged, fun h => ?unjudged⟩⟩
  case leave =>
    refine exec_transmitAttemptStart_of_may ?_ ?_
    · simp [State.mayTransmit, honline, hhunting, hattempt, hleave]
    · simp [State.nextSending, hleave]
  case state =>
    refine exec_transmitAttemptStart_of_may ?_ ?_
    · simp [State.mayTransmit, honline, hhunting, hattempt, hstate]
    · simp [State.nextSending, hleave]
  case judged =>
    rw [exec_bitReadBackMismatch_of_mismatch ha hs ((mismatch_iff hb hlast hafter bitTime dominant).mpr ⟨hbits, hlevel⟩)]
    refine ⟨fun hdata hdom => ?_, fun hother hcount => ?_, fun hother hcount hclear => ?_⟩
    · rw [stopAttempt_of_lost a (judgeMismatch_lost hdata hdom)]
      rfl
    · rw [stopAttempt_of_failed a (judgeMismatch_failed hother), attemptFailed_of_counted (by exact hcount)]
      rfl
    · rw [stopAttempt_of_failed a (judgeMismatch_failed hother), attemptFailed_of_limit (by exact hcount) (by exact hclear)]
      generalize hg : State.onKli (s.onKli _) _ = g
      have hset : LineLostSet .failures g (beginLineLost .failures g) := beginLineLost_set (by decide) g
      subst hg
      exact ⟨_, rfl, hset.attempt, hset.failures, hset.cause, hset.event, by simp, by simp, by simp, by simp, by simp⟩
  case unjudged =>
    refine exec_bitReadBackMismatch_of_match ha (Bool.eq_false_iff.mpr fun hm => ?_)
    obtain ⟨hbits, hlevel⟩ := (mismatch_iff hb hlast hafter bitTime dominant).mp hm
    rcases h with hlate | hsame
    · omega
    · simp [hsame] at hlevel

end Sys2Proof.Machine
end

section
/-! PROOF. The notices that are not handed on (O41), and the line timers (O46): LINE_LOST by DUPLICATE and by UNSENT. -/

namespace Sys2Proof.Machine

variable {s : State}

/-! ### Notices that are not handed on (R115, R116, R122, R123) -/

/-- Settles O41: the ways in which `endNotice` and `receiveNotice` end without handing on, and DUPLICATE by whether LINE_LOST is
set already (`lineLostOccurs_duplicate_of_lost`) or sets in (`beginLineLost_set`). -/
theorem noticesThatAreNotHandedOn : Obligations.NoticesThatAreNotHandedOn := by
  refine ⟨fun s bytes spoiled => ⟨fun hhunting => ?hunted, fun hhunting hsilent hoff => ?unread,
    fun hhunting hsilent honline hcheck => ?discarded⟩, fun s bytes x hhunting hsilent honline hcheck => ?duplicate⟩
  case hunted => rw [exec_noticeEnd, endNotice_of_hunting hhunting]; rfl
  case unread => rw [exec_noticeEnd, endNotice_of_silent hhunting hsilent, receiveNotice_of_offline hoff]
  case discarded => rw [exec_noticeEnd, endNotice_of_silent hhunting hsilent, receiveNotice_of_discarded honline hcheck]; rfl
  case duplicate =>
    rw [exec_noticeEnd, endNotice_of_silent hhunting hsilent, receiveNotice_of_own honline hcheck]
    by_cases hlost : s.lineLost = true
    · have hvoid : ∀ {p : Prop}, s.lineLost = false → p := fun h => absurd (hlost.symm.trans h) (by decide)
      rw [lineLostOccurs_duplicate_of_lost hlost]
      exact ⟨_, rfl, rfl, raiseEvent_pendingEvent _ .lineLost, rfl, rfl, rfl, rfl, rfl, fun _ h => hvoid h, fun _ => rfl,
        fun _ h => hvoid h, fun h => h, fun _ h => hvoid h⟩
    · rw [lineLostOccurs_of_clear .duplicate (Bool.eq_false_iff.mpr hlost)]
      have hset : LineLostSet .duplicate s (beginLineLost .duplicate s) := beginLineLost_set (by decide) s
      exact ⟨_, rfl, hset.cause, hset.event, by simp, by simp, by simp, by simp, by simp, fun w _ => hset.claim w, hset.held,
        fun w _ => hset.resv w, hset.admitted, fun d _ => hset.seen d⟩

/-! ### The line timers (R124, R125, R128) -/

theorem exec_heartbeatTimerExpiry {n : Nat} (h : s.kli.heartbeat = some n) :
    exec .heartbeatTimerExpiry s
      = if s.online = true ∧ 200 ≤ n then .next (drivePins (raiseState (s.onKli fun k => { k with heartbeat := none })))
        else .next s := by
  show execHeartbeatTimerExpiry s = _
  simp only [execHeartbeatTimerExpiry, h]
  rfl

theorem exec_unsentExpiry {r : Word} (h : s.kli.stateRequest = some r) :
    exec .unsentExpiry s
      = if s.online = true ∧ 1000 ≤ (s.sck - r).toNat then .next (drivePins (lineLostOccurs .unsent s)) else .next s := by
  show execUnsentExpiry s = _
  simp only [execUnsentExpiry, h]
  rfl

/-- Settles O46: at 200 ms the STATE request is raised, and at 1,000 ms UNSENT occurs, where LINE_LOST is clear by
`beginLineLost_set`. -/
theorem lineTimersExpire : Obligations.LineTimersExpire := by
  refine fun s honline => ⟨fun n hn hdue => ?heartbeat, fun n hn hearly => ?early, fun r hr hdue hclear => ?unsent,
    fun r hr hdue hlost => ?lost, fun r hr hearly => ?sent⟩
  case heartbeat =>
    rw [exec_heartbeatTimerExpiry hn, if_pos ⟨honline, hdue⟩]
    have hraise : (raiseState (s.onKli fun k => { k with heartbeat := none })).kli.stateRequest
        = some (s.kli.stateRequest.getD s.sck) := by
      rw [raiseState, if_pos (by exact honline)]
      rfl
    exact ⟨_, rfl, by simp, hraise, by simp, by simp, by simp, by simp, by simp, by simp [KeepsTheDip]⟩
  case early => rw [exec_heartbeatTimerExpiry hn, if_neg (by omega)]
  case unsent =>
    rw [exec_unsentExpiry hr, if_pos ⟨honline, hdue⟩, lineLostOccurs_of_clear .unsent hclear]
    have hset : LineLostSet .unsent s (beginLineLost .unsent s) := beginLineLost_set (by decide) s
    exact ⟨_, rfl, hset.cause, hset.event, hset.request r hr, by simp, by simp, by simp, fun w hw => (hset.claim w hw).1⟩
  case lost => rw [exec_unsentExpiry hr, if_pos ⟨honline, hdue⟩, lineLostOccurs_of_lost hlost (by decide)]
  case sent => rw [exec_unsentExpiry hr, if_neg (by omega)]

end Sys2Proof.Machine
end

section
/-! PROOF. The end of an own attempt (O42): how it is judged where no mismatch was reported, what an own LEAVE makes of the KLI,
and the clear of RESTART in a state in which RESTART is taken. -/

namespace Sys2Proof.Machine

variable {s : State}

/-! ### An attempt that no mismatch was reported for (R117, R118; log 12) -/

theorem judgeAtEnd_of_lower {sent heard : Byte} {sentRest heardRest : List Byte} {spoiled : Bool}
    (h : heard.toNat < sent.toNat) : judgeAtEnd (sent :: sentRest) (heard :: heardRest) spoiled = .lost := by
  have hother : ¬ (heard :: heardRest = sent :: sentRest ∧ !spoiled) := fun ⟨heq, _⟩ => by
    cases heq
    exact Nat.lt_irrefl _ h
  rw [judgeAtEnd, if_neg hother]
  exact if_pos (decide_eq_true h)

theorem judgeAtEnd_of_not_lower {sent : Byte} {sentRest bytes : List Byte} {spoiled : Bool}
    (hother : bytes ≠ sent :: sentRest ∨ spoiled = true)
    (h : ∀ heard heardRest, bytes = heard :: heardRest → sent.toNat ≤ heard.toNat) :
    judgeAtEnd (sent :: sentRest) bytes spoiled = .failed := by
  have hnot : ¬ (bytes = sent :: sentRest ∧ !spoiled) := fun ⟨heq, hs⟩ => by
    rcases hother with hne | hsp
    · exact hne heq
    · simp [hsp] at hs
  cases bytes with
  | nil => exact if_neg hnot
  | cons heard heardRest =>
    have hnotlower : ¬ yieldsByte sent heard = true := by simpa [yieldsByte] using h heard heardRest rfl
    exact (if_neg hnot).trans (if_neg hnotlower)

/-! ### An own LEAVE sent (R118, R124, R131) -/

/-- An own LEAVE that was in progress at an earlier clear is counted only (log 22). -/
theorem leaveSent_of_unreported :
    leaveSent false s = { s with kli := { s.kli with failures := 0, attempt := none, lateRaise := none } } := rfl

/-- A reported LEAVE clears its request; with a RESTART pending the clear follows. -/
theorem leaveSent_of_reported {u : State}
    (hu : { s with kli := { s.kli with failures := 0, attempt := none, lateRaise := none, leaveRequest := false } } = u) :
    leaveSent true s = if s.cpt.restartPending then restartClear u else u := by
  subst hu
  rfl

theorem endNotice_of_leave {reported : Bool} (hh : s.kli.hunting = false)
    (ha : s.kli.attempt = some ⟨.leave, .driving, reported⟩) :
    endNotice (noticeBytes s.own .leave) false s = leaveSent reported s :=
  endNotice_of_success hh ha rfl

/-! ### The clear of RESTART (R131, R145, R197) -/

/-- With no claim and no reservation a table change refreshes the surface figures, and no more (R141, R181). -/
theorem tableChange_of_unasked (stored : Option StationIx) (hc : s.zcu.claim = .none) (hr : s.adm.resv = .none) :
    tableChange stored s = refreshSurface s.nextFree := by
  have hclaim : ∀ v : State, v.zcu = s.zcu → zcuTableChange stored v = v := fun v hv => by
    simp only [zcuTableChange, hv, hc]
  have hresv : reviewResv (refreshSurface s.nextFree) = refreshSurface s.nextFree := by
    have hnone : (refreshSurface s.nextFree).adm.resv = .none := hr
    simp only [reviewResv, hnone]
  unfold tableChange tableChangeWith
  rw [hclaim s.nextFree rfl, hclaim (refreshSurface s.nextFree) rfl, hresv, ite_self]

theorem clearPeers_get_own (own : StationIx) (peers : Vector PeerEntry 16) : (clearPeers own peers).get own = peers.get own := by
  simp [clearPeers, Vector.get_eq_getElem]

theorem clearPeers_get_other {own i : StationIx} (h : i ≠ own) (peers : Vector PeerEntry 16) :
    (clearPeers own peers).get i = PeerEntry.empty := by
  simp [clearPeers, Vector.get_eq_getElem, h]

/-- The Cell Port at the clear of RESTART (R197). -/
def Cpt.restarted (c : Cpt) : Cpt :=
  { c with mode := .listen, listenTimer := some 2000, restartPending := false, restartTimer := none, events := 0 }

/-- The clear with no claim and no reservation: each block by itself (R197). -/
theorem restartClear_of_unasked (hc : s.zcu.claim = .none) (hr : s.adm.resv = .none) {t : State}
    (ht : drivePins (restartClear s) = t) :
    t.kli = s.kli.restart s.sck
      ∧ t.cpt = { s.cpt.restarted with irq := false }
      ∧ t.peers = clearPeers s.own s.peers ∧ t.dcc = { s.dcc with queue := [] } ∧ t.sgx.m0.high = false
      ∧ t.sgx.m1.high = false ∧ t.acu = s.acu ∧ t.inv = s.inv ∧ t.cfs = s.cfs ∧ t.wgu = s.wgu ∧ t.zcu = s.zcu
      ∧ t.sck = s.sck := by
  let v := (s.onKli (·.restart s.sck)).onDcc fun d => { d with queue := [] }
  let w : State := { markersLow v with peers := clearPeers s.own s.peers }
  have htable : tableChange none w = refreshSurface w.nextFree := tableChange_of_unasked none hc hr
  have hclear : restartClear s = (refreshSurface w.nextFree).onCpt Cpt.restarted := congrArg (State.onCpt · Cpt.restarted) htable
  have hirq : (restartClear s).irqAsserted = false := by
    rw [hclear]
    simp [State.irqAsserted, Cpt.restarted]
  have hcpt : (drivePins (restartClear s)).cpt = { (restartClear s).cpt with irq := false } := by
    rw [← hirq]
    rfl
  subst ht
  rw [hclear] at hcpt ⊢
  exact ⟨rfl, hcpt, rfl, rfl, rfl, rfl, rfl, rfl, rfl, rfl, rfl, rfl⟩

/-- Settles O42: an own LEAVE read back as sent ends in `leaveSent`, an attempt judged already or judged at the end
(`judgeAtEnd_of_lower`, `judgeAtEnd_of_not_lower`) leaves the notice to `receiveNotice`, after `attemptFailed` where it failed. -/
theorem ownAttemptsEndWithTheirNotice : Obligations.OwnAttemptsEndWithTheirNotice := by
  refine ⟨fun s reported hhunting hattempt => ?leave, fun s u a bytes spoiled hhunting hattempt hu => ?ended⟩
  case leave =>
    rw [exec_noticeEnd, endNotice_of_leave hhunting hattempt]
    refine ⟨?_, ?_, ?_⟩
    · rintro rfl hpending
      rw [leaveSent_of_reported rfl, if_neg (by simp [hpending])]
    · rintro rfl
      rw [leaveSent_of_unreported]
    · rintro rfl hpending hidle hclaim hresv
      rw [leaveSent_of_reported rfl, if_pos hpending]
      obtain ⟨hkli, hcpt, hpeers, hrest⟩ := restartClear_of_unasked (s := { s with kli := { s.kli with
        failures := 0, attempt := none, lateRaise := none, leaveRequest := false } }) hclaim hresv rfl
      exact ⟨_, rfl, hkli, hcpt, hpeers ▸ clearPeers_get_own s.own s.peers,
        fun i hi => hpeers ▸ clearPeers_get_other hi s.peers, hrest⟩
  case ended =>
    obtain rfl : dropAttempt s = u := hu
    have hafter : ∀ v : State, v.kli.hunting = false → v.kli.attempt = none →
        exec (.noticeEnd bytes spoiled) v = .next (drivePins (receiveNotice bytes spoiled v)) := fun v hv ha => by
      rw [exec_noticeEnd, endNotice_of_silent hv ha]
    refine ⟨fun hjudged => ?_, fun sent heard sentRest heardRest hs hsent hheard hlower => ?_,
      fun sent sentRest hs hsent hother hnotlower => ?_⟩
    · rw [exec_noticeEnd, endNotice_of_judged hhunting hattempt hjudged, hafter (dropAttempt s) hhunting rfl]
    · have hlost : judgeAtEnd (noticeBytes s.own a.sending) bytes spoiled = .lost := by
        rw [hsent, hheard]
        exact judgeAtEnd_of_lower hlower
      rw [exec_noticeEnd, endNotice_of_lost hhunting hattempt hs hlost, hafter (dropAttempt s) hhunting rfl]
    · have hfailed : judgeAtEnd (noticeBytes s.own a.sending) bytes spoiled = .failed := by
        rw [hsent]
        exact judgeAtEnd_of_not_lower hother hnotlower
      rw [exec_noticeEnd, endNotice_of_failed hhunting hattempt hs hfailed]
      refine ⟨fun hcount => ?_, fun hcount hclear honline hcheck => ?_⟩
      · rw [attemptFailed_of_counted (s := dropAttempt s) hcount]
        exact (hafter ((dropAttempt s).onKli _) (by exact hhunting) rfl).symm
      · rw [attemptFailed_of_limit (s := dropAttempt s) hcount hclear]
        generalize hg : (dropAttempt s).onKli _ = g
        have hset : LineLostSet .failures g (beginLineLost .failures g) := beginLineLost_set (by decide) g
        have hmode : (beginLineLost .failures g).cpt.mode = s.cpt.mode := by simp [← hg]
        have hon : (beginLineLost .failures g).online = true := by rw [State.online, hmode]; exact honline
        rw [receiveNotice_of_discarded hon hcheck]
        subst hg
        exact ⟨_, rfl, hset.attempt, hset.failures, congrArg (fun n => min 65535 (n + 1)) hset.discards, hset.cause, hset.event,
          hset.leave, by simp, by simp, by simp, by simp, by simp⟩

end Sys2Proof.Machine
end

section
/-! PROOF. The end of an own STATE (O45): the counts and the self entry, the report to the ZCU and the ADM, and the end of
LINE_LOST, each by itself in the order of `stateSent`. -/

namespace Sys2Proof.Machine

variable {s : State}

/-! ### The parts of an own STATE sent (R118, R124, R125, R134) -/

/-- The counts of an own STATE sent, and the self entry's time. -/
def State.stateCounted (s : State) : State :=
  let t := s.onKli fun k =>
    { k with failures := 0, attempt := none, stateRequest := k.lateRaise, lateRaise := none, heartbeat := some 0 }
  t.setPeer s.own { s.peers.get s.own with time := s.sck }

/-- The report of an own STATE to the ZCU and the ADM, where it is reported (R131, R165, R177). -/
def State.stateReported (contents : Announced) (reported : Bool) (s : State) : State :=
  if reported then admCompletion contents (zcuCompletion contents s) else s

theorem stateSent_eq (contents : Announced) (reported : Bool) (s : State) :
    stateSent contents reported s = lineBack (s.stateCounted.stateReported contents reported) := rfl

theorem endNotice_of_state {x : Announced} {reported : Bool} (hh : s.kli.hunting = false)
    (ha : s.kli.attempt = some { sending := .state x, status := .driving, reported := reported }) :
    endNotice (noticeBytes s.own (.state x)) false s = stateSent x reported s := by
  have hsuccess := endNotice_of_success hh ha rfl
  exact hsuccess

theorem stateCounted_get_own (s : State) : (s.stateCounted.peers.get s.own).time = s.sck := by
  simp [State.stateCounted, Vector.get_eq_getElem]

theorem stateCounted_get_other {i : StationIx} (h : i ≠ s.own) : s.stateCounted.peers.get i = s.peers.get i := by
  have hne : s.own.val ≠ i.val := fun hv => h (Fin.ext hv.symm)
  simp [State.stateCounted, Vector.get_eq_getElem, Vector.getElem_set_ne, hne]

/-! ### The report (R165, R177) -/

/-- The report touches the two windows only. -/
theorem stateReported_frame (contents : Announced) (reported : Bool) (s : State) :
    (s.stateReported contents reported).kli = s.kli ∧ (s.stateReported contents reported).peers = s.peers
      ∧ (s.stateReported contents reported).dcc = s.dcc ∧ (s.stateReported contents reported).inv = s.inv
      ∧ (s.stateReported contents reported).acu = s.acu ∧ (s.stateReported contents reported).sgx = s.sgx
      ∧ (s.stateReported contents reported).wgu = s.wgu := by
  unfold State.stateReported
  split
  · simp
  · exact ⟨rfl, rfl, rfl, rfl, rfl, rfl, rfl⟩

/-- The window of a PENDING claim that the STATE carried starts. -/
theorem stateReported_claim {x : Announced} (hc : s.zcu.claim = .pending none) (hx : x.claim = .pending)
    (hm : x.mask = s.zcu.mask) : (s.stateReported x true).zcu.claim = .pending (some s.sck) := by
  simp [State.stateReported, zcuCompletion, hc, hx, hm]

/-- The window of a PENDING reservation that the STATE carried starts. -/
theorem stateReported_resv {x : Announced} (hr : s.adm.resv = .pending none) (hx : x.resv = .pending)
    (hf : x.reserved = s.adm.full) : (s.stateReported x true).adm.resv = .pending (some s.sck) := by
  simp [State.stateReported, admCompletion, hr, hx, hf]

/-! ### The end of LINE_LOST (R129) -/

theorem lineBack_of_other (h : ¬ (s.kli.lineLost = .failures ∨ s.kli.lineLost = .unsent)) : lineBack s = s := if_neg h

/-- The state in which the ZCU and the ADM see the end of LINE_LOST. -/
def State.lineCleared (s : State) : State := raiseState (raiseEvent .lineBack (s.onKli fun k => { k with lineLost := .none }))

theorem lineBack_of_cause (h : s.kli.lineLost = .failures ∨ s.kli.lineLost = .unsent) :
    lineBack s = admLineBack (zcuLineChanged s.lineCleared) := if_pos h

/-- The end of LINE_LOST leaves what the success made of the KLI. -/
theorem lineBack_kli (s : State) :
    (lineBack s).kli.failures = s.kli.failures ∧ (lineBack s).kli.attempt = s.kli.attempt
      ∧ (lineBack s).kli.heartbeat = s.kli.heartbeat := by
  by_cases h : s.kli.lineLost = .failures ∨ s.kli.lineLost = .unsent
  · rw [lineBack_of_cause h]
    simp [State.lineCleared]
  · rw [lineBack_of_other h]
    exact ⟨rfl, rfl, rfl⟩

/-- FAILURES and UNSENT end, with LINE_BACK. -/
theorem lineBack_cleared (h : s.kli.lineLost = .failures ∨ s.kli.lineLost = .unsent) :
    (lineBack s).kli.lineLost = .none ∧ (lineBack s).pendingEvent .lineBack = true := by
  rw [lineBack_of_cause h]
  refine ⟨by simp [State.lineCleared], ?_⟩
  have hkept := (LineKept.zcuLineChanged s.lineCleared).trans (.admLineBack _)
  rw [hkept.event .lineBack (by decide), State.lineCleared, raiseState_pendingEvent]
  exact raiseEvent_pendingEvent _ .lineBack

/-- The end of LINE_LOST leaves a PENDING claim (R164). -/
theorem lineBack_zcu {w : Option Word} (hc : s.zcu.claim = .pending w) : (lineBack s).zcu = s.zcu := by
  by_cases h : s.kli.lineLost = .failures ∨ s.kli.lineLost = .unsent
  · have hzcu : s.lineCleared.zcu = s.zcu := by simp [State.lineCleared]
    have hclear : s.lineCleared.lineLost = false := by simp [State.lineCleared, State.lineLost, LineLostCause.holds]
    rw [lineBack_of_cause h, zcuLineChanged_of_back (hzcu ▸ hc) hclear, ← hzcu]
    simp
  · rw [lineBack_of_other h]

/-- The end of LINE_LOST leaves a PENDING reservation (R176). -/
theorem lineBack_adm {w : Option Word} (hr : s.adm.resv = .pending w) : (lineBack s).adm = s.adm := by
  by_cases h : s.kli.lineLost = .failures ∨ s.kli.lineLost = .unsent
  · have hadm : (zcuLineChanged s.lineCleared).adm = s.adm := by simp [State.lineCleared]
    rw [lineBack_of_cause h, admLineBack_of_pending (hadm ▸ hr), hadm]
  · rw [lineBack_of_other h]

/-- Settles O45: `stateSent` is the counts, the report and the end of LINE_LOST (`stateSent_eq`); each clause is read off the part
that makes it, and the end of LINE_LOST leaves what is PENDING. -/
theorem ownStateNoticeSucceeds : Obligations.OwnStateNoticeSucceeds := by
  intro s x reported hhunting hattempt
  let g := s.stateCounted
  let c := g.stateReported x reported
  obtain ⟨hkli, hpeers, hdcc, hinv, hacu, hsgx, hwgu⟩ : c.kli = g.kli ∧ c.peers = g.peers ∧ c.dcc = g.dcc
    ∧ c.inv = g.inv ∧ c.acu = g.acu ∧ c.sgx = g.sgx ∧ c.wgu = g.wgu := stateReported_frame x reported g
  obtain ⟨htable, hblocks⟩ : (lineBack c).peers = g.peers ∧ (lineBack c).inv = g.inv ∧ (lineBack c).acu = g.acu
      ∧ (lineBack c).sgx = g.sgx ∧ (lineBack c).wgu = g.wgu ∧ (lineBack c).dcc.stage = g.dcc.stage := by
    simp [hpeers, hdcc, hinv, hacu, hsgx, hwgu]
  obtain ⟨hfailures, hattemptOver, hheartbeat⟩ := lineBack_kli c
  have hline : c.kli.lineLost = s.kli.lineLost := congrArg (·.lineLost) hkli
  have hother : s.kli.lineLost = .none ∨ s.kli.lineLost = .duplicate → lineBack c = c := fun h =>
    lineBack_of_other (by rw [hline]; rcases h with h | h <;> simp [h])
  have hunreported : reported = false → c = g := fun h => if_neg (by simp [h])
  rw [exec_noticeEnd, endNotice_of_state hhunting hattempt, stateSent_eq]
  refine ⟨_, rfl, ?failures, ?attempt, ?heartbeat, ?time, ?others, ?back, ?duplicate, ?clear, ?claim, ?resv, ?unreported,
    ?untouched, hblocks⟩
  case failures => exact hfailures.trans (congrArg (·.failures) hkli)
  case attempt => exact hattemptOver.trans (congrArg (·.attempt) hkli)
  case heartbeat => exact hheartbeat.trans (congrArg (·.heartbeat) hkli)
  case time => exact (congrArg (fun p : Vector PeerEntry 16 => (p.get s.own).time) htable).trans (stateCounted_get_own s)
  case others => exact fun j hj => (congrArg (fun p : Vector PeerEntry 16 => p.get j) htable).trans (stateCounted_get_other hj)
  case back => exact fun h => lineBack_cleared (hline ▸ h)
  case duplicate => exact fun h => (congrArg (·.kli.lineLost) (hother (.inr h))).trans (hline.trans h)
  case clear =>
    exact fun h => ⟨(congrArg (·.kli.lineLost) (hother (.inl h))).trans (hline.trans h),
      (congrArg (·.kli.stateRequest) (hother (.inl h))).trans (congrArg (·.stateRequest) hkli)⟩
  case claim =>
    rintro rfl - hpending hx hm
    have hwindow : c.zcu.claim = .pending (some s.sck) := stateReported_claim (s := g) hpending hx hm
    exact (congrArg (·.claim) (lineBack_zcu hwindow)).trans hwindow
  case resv =>
    rintro rfl - hpending hx hf
    have hwindow : c.adm.resv = .pending (some s.sck) := stateReported_resv (s := g) hpending hx hf
    exact (congrArg (·.resv) (lineBack_adm hwindow)).trans hwindow
  case unreported =>
    intro hr
    show (∀ w, s.zcu.claim = .pending w → (lineBack c).zcu = s.zcu)
      ∧ ∀ w, s.adm.resv = .pending w → (lineBack c).adm = s.adm
    rw [hunreported hr]
    exact ⟨fun w hw => lineBack_zcu (s := g) hw, fun w hw => lineBack_adm (s := g) hw⟩
  case untouched =>
    intro hr h
    show (lineBack c).zcu = s.zcu ∧ (lineBack c).adm = s.adm ∧ (lineBack c).dcc = s.dcc
    rw [hother h, hunreported hr]
    exact ⟨rfl, rfl, rfl⟩

end Sys2Proof.Machine
end

section
/-! SUPPORT. What a change of the peer table leaves beside the inventory (R141): the Inventory Unit as it was, and no event raised
but HOLD_BEGIN and ZONE_CONFLICT. The walk from the end of a yield is in APPROACH, where no record is stored (R37, R169). -/

namespace Sys2Proof.Machine

variable {s t u : State}

/-! ### Beside the inventory -/

/-- The Inventory Unit stands, and no event is raised but HOLD_BEGIN and ZONE_CONFLICT (R35, R168). -/
structure BesideInv (s t : State) : Prop where
  inv   : t.inv = s.inv
  event : ∀ e, Event.holdBegin.bit &&& e.bit = 0 → Event.zoneConflict.bit &&& e.bit = 0 → t.pendingEvent e = s.pendingEvent e

theorem BesideInv.refl (s : State) : BesideInv s s := ⟨rfl, fun _ _ _ => rfl⟩

theorem BesideInv.trans (h : BesideInv s t) (h' : BesideInv t u) : BesideInv s u :=
  ⟨h'.inv.trans h.inv, fun e hh hz => (h'.event e hh hz).trans (h.event e hh hz)⟩

/-- What leaves the Inventory Unit and the port. -/
theorem BesideInv.of_blocks (hi : t.inv = s.inv) (hc : t.cpt = s.cpt) : BesideInv s t :=
  ⟨hi, fun e _ _ => pendingEvent_congr hc e⟩

/-- What is done beside the inventory from a state with the same Inventory Unit and port. -/
theorem BesideInv.after (h : BesideInv t u) (hi : t.inv = s.inv) (hc : t.cpt = s.cpt) : BesideInv s u :=
  .trans (.of_blocks hi hc) h

/-- What raises no event but HOLD_BEGIN. -/
theorem LineKept.besideInv (h : LineKept s t) (hi : t.inv = s.inv) : BesideInv s t := ⟨hi, fun e hh _ => h.event e hh⟩

/-! ### The parts of a table change (R136, R141, R164 to R169, R176 to R180) -/

theorem BesideInv.reviewResv (s : State) : BesideInv s (reviewResv s) :=
  ⟨by simp, fun _ hh _ => reviewResv_pendingEvent s hh⟩

theorem BesideInv.testClaim (s : State) : BesideInv s (testClaim s) := by
  unfold Machine.testClaim
  split
  all_goals exact (LineKept.setClaim _ _ s).besideInv (by simp)

theorem BesideInv.reviewPending (i : StationIx) (s : State) : BesideInv s (reviewPending i s) := by
  have hset : ∀ c m, BesideInv s (setClaim c m s) := fun c m => (LineKept.setClaim c m s).besideInv (by simp)
  unfold Machine.reviewPending
  dsimp only
  repeat' split
  exacts [hset _ _, hset _ _, (LineKept.raiseState s).besideInv (by simp), .refl s, .refl s]

theorem BesideInv.reviewHeld (i : StationIx) (s : State) : BesideInv s (reviewHeld i s) :=
  (LineKept.raiseStateIf _ s).besideInv (by simp)

theorem BesideInv.openGate (s : State) : BesideInv s (openGate s) := by
  refine .after (t := s.onAdm fun a => { a with gateClosed := false }) ?_ rfl rfl
  unfold Machine.openGate
  dsimp only
  repeat' split
  exacts [.refl _, (LineKept.testResv _).besideInv (by simp), .refl _]

theorem BesideInv.closeGate (s : State) : BesideInv s (closeGate s) := by
  refine .after (t := s.onAdm fun a => { a with gateClosed := true }) ?_ rfl rfl
  unfold Machine.closeGate
  dsimp only
  repeat' split
  exacts [.refl _, (LineKept.testResv _).besideInv (by simp), (LineKept.setResv _ _).besideInv (by simp), .refl _]

theorem BesideInv.beginYield (s : State) : BesideInv s (beginYield s) := by
  have hgate : BesideInv s (Machine.closeGate (s.onZcu fun z => { z with yielding := true })) :=
    (BesideInv.closeGate _).after rfl rfl
  unfold Machine.beginYield
  dsimp only
  split
  · exact hgate.trans ((LineKept.waitHold _ _).besideInv (by simp))
  · exact hgate

theorem BesideInv.checkFlag (l : List (StationIx × PeerEntry)) (s : State) : BesideInv s (checkFlag l s) := by
  have hbegin : BesideInv s (beginConflict s) :=
    ⟨by simp [beginConflict], fun e _ hz => (raiseState_pendingEvent _ e).trans (raiseEvent_pendingEvent_of_apart _ hz)⟩
  unfold Machine.checkFlag
  repeat' split
  exacts [.of_blocks rfl rfl, .refl s, hbegin]

/-! ### The walk from the end of a yield (R37, R169) -/

theorem BesideInv.enterAdmit (s : State) : BesideInv s (enterAdmit s) :=
  ((LineKept.testResv (setStage .admitting s)).besideInv (by simp)).after (by simp) (by simp)

/-- With APPROACH in hand, or no stage, the walk ends in APPROACH, in ADMIT or at a hold: it stores no record (R30, R37). -/
theorem sgxGo_besideInv (hh : ∀ p, s.sgx.stage = some p → p = .approach) : BesideInv s (sgxGo s) := by
  refine sgxRun_walk (P := fun u => BesideInv s u ∧ ∀ p, u.sgx.stage = some p → p = .approach) (Q := BesideInv s)
    (fun _ h => h.1) (fun v f hf ⟨hv, hp⟩ => ?_) (fun v g k ⟨hv, hp⟩ => ?_) (fun v g ⟨hv, hp⟩ => ?_)
    (fun v p q hsp hq ⟨_, hp⟩ => ?_) (fun v p hsp _ ⟨hv, hp⟩ => ?_) (fun v _ _ ⟨hv, _⟩ => ?_) sgxFuel ⟨.refl s, hh⟩
  · exact ⟨hv.trans (.of_blocks rfl rfl), fun p h => hp p (hf.symm.trans h)⟩
  · exact ⟨hv.trans (.of_blocks rfl rfl), hp⟩
  · exact ⟨hv.trans (.of_blocks (by simp) (by simp)), fun p h => hp p ((startSegment_hand v g).symm.trans h)⟩
  · cases hp p hsp
    cases hq
  · cases hp p hsp
    exact hv.trans ((BesideInv.enterAdmit (v.onSgx fun x => { x with stage := none })).after rfl rfl)
  · exact hv.trans ((LineKept.waitHold _ v).besideInv (by simp))

theorem sgxWf_congr (hx : t.sgx = s.sgx) (hst : t.dcc.stage = s.dcc.stage) (h : SgxWf s) : SgxWf t := by
  rw [SgxWf, hx, hst]
  exact h

/-- The stage in hand in APPROACH is APPROACH (R51). -/
theorem SgxWf.hand_of_approach (h : SgxWf s) (hst : s.dcc.stage = .approach) (p : Phase) (hp : s.sgx.stage = some p) :
    p = .approach := by
  have hstage := h.1 p hp
  rw [hst] at hstage
  cases p <;> simp [phaseStage] at hstage ⊢

theorem endYield_besideInv (h : SgxWf s) : BesideInv s (endYield s) := by
  let v := openGate (s.onZcu fun z => { z with yielding := false })
  have hv : BesideInv s v := (BesideInv.openGate _).after rfl rfl
  have hwf : SgxWf v := sgxWf_congr (by simp [v]) (by simp [v]) h
  show BesideInv s (if v.dcc.stage = .approach ∧ v.dcc.hold.isSome ∧ v.sgx.current.isNone then sgxGo (endHold v) else v)
  split
  · rename_i hst
    have hhand : ∀ p, (endHold v).sgx.stage = some p → p = .approach := fun p hp =>
      hwf.hand_of_approach hst.1 p (by simpa using hp)
    exact hv.trans (((LineKept.endHold v).besideInv (by simp)).trans (sgxGo_besideInv hhand))
  · exact hv

/-! ### A table change (R141) -/

theorem conflictCheck_besideInv (h : SgxWf s) : BesideInv s (conflictCheck s) := by
  have hflag := BesideInv.checkFlag s.conflicting s
  unfold conflictCheck
  dsimp only
  repeat' split
  · exact hflag
  · exact hflag.trans (.beginYield _)
  · exact hflag.trans (endYield_besideInv (sgxWf_congr (by simp) (by simp) h))
  · exact hflag

theorem zcuTableChange_besideInv (stored : Option StationIx) (h : SgxWf s) : BesideInv s (zcuTableChange stored s) := by
  unfold zcuTableChange
  repeat' split
  · exact .refl s
  · exact .testClaim s
  · exact .reviewPending _ s
  · exact .refl s
  · exact .trans (.reviewHeld _ s) (conflictCheck_besideInv (sgxWf_congr (by simp) (by simp) h))
  · exact conflictCheck_besideInv h

/-- A change of the peer table moves nothing of the inventory (R141). -/
theorem tableChange_besideInv (stored : Option StationIx) (h : SgxWf s) : BesideInv s (tableChange stored s) := by
  have hzcu : ∀ u : State, u.sgx = s.sgx → u.dcc = s.dcc → u.inv = s.inv → u.cpt = s.cpt →
      BesideInv s (zcuTableChange stored u) := fun u hx hd hi hc =>
    (zcuTableChange_besideInv stored (sgxWf_congr hx (congrArg Dcc.stage hd) h)).after hi hc
  unfold tableChange tableChangeWith
  split
  · exact (hzcu (refreshSurface s.nextFree) rfl rfl rfl rfl).trans (.reviewResv _)
  · exact (hzcu s.nextFree rfl rfl rfl rfl).trans ((BesideInv.reviewResv _).after rfl rfl)

/-! ### An entry of the peer table (R133) -/

theorem setPeer_get_same (i : StationIx) (e : PeerEntry) (s : State) : (s.setPeer i e).peers.get i = e := by
  simp [Vector.get_eq_getElem]

theorem setPeer_get_other {i j : StationIx} (h : j ≠ i) (e : PeerEntry) (s : State) :
    (s.setPeer i e).peers.get j = s.peers.get j := by
  have hne : i.val ≠ j.val := fun hv => h (Fin.ext hv.symm)
  simp [Vector.get_eq_getElem, Vector.getElem_set_ne, hne]

/-- An arrival that sets the entry of one station: what stands there after it, and what it leaves (R138, R139, R142). -/
structure EntrySet (i : StationIx) (e : PeerEntry) (s t : State) : Prop where
  entry  : t.peers.get i = e
  others : ∀ j, j ≠ i → t.peers.get j = s.peers.get j
  cfs    : t.cfs = s.cfs
  sck    : t.sck = s.sck

/-- What leaves the table, the configuration and the clock after the entry was set. -/
theorem EntrySet.of_setPeer {i : StationIx} {e : PeerEntry} (hp : t.peers = (s.setPeer i e).peers) (hc : t.cfs = s.cfs)
    (ht : t.sck = s.sck) : EntrySet i e s t :=
  ⟨by rw [hp, setPeer_get_same], fun _ hj => by rw [hp, setPeer_get_other hj], hc, ht⟩

/-- A LEAVE and a FORGET_PEER empty the entry and leave the inventory (R138, R142). -/
theorem dropPeer_empties (i : StationIx) (h : SgxWf s) :
    EntrySet i PeerEntry.empty s (dropPeer i s) ∧ (dropPeer i s).inv = s.inv :=
  ⟨.of_setPeer (by simp [dropPeer]) (by simp [dropPeer]) (by simp [dropPeer]),
    (tableChange_besideInv (s := s.setPeer i PeerEntry.empty) none h).inv⟩

end Sys2Proof.Machine
end

section
/-! PROOF. A peer's STATE stored whole and its LEAVE (O43): the entry and the inventory's own counters, each by itself. -/

namespace Sys2Proof.Machine

variable {s : State} {bytes : List Byte} {i : StationIx}

/-! ### A notice of another station (R122, R123, R135, R138) -/

theorem receiveNotice_of_state {a : Announced} (honline : s.online = true) (hi : i ≠ s.own)
    (hcheck : checkNotice bytes false = some ⟨i, .state a⟩) : receiveNotice bytes false s = storeState i a s := by
  simp only [receiveNotice, honline, if_true, hcheck, if_neg hi]

theorem receiveNotice_of_leave (honline : s.online = true) (hi : i ≠ s.own)
    (hcheck : checkNotice bytes false = some ⟨i, .leave⟩) : receiveNotice bytes false s = storeLeave i s := by
  simp only [receiveNotice, honline, if_true, hcheck, if_neg hi]

theorem storeLeave_of_absent (h : (s.peers.get i).presence = .absent) : storeLeave i s = s := if_pos h

theorem storeLeave_of_heard (h : (s.peers.get i).presence ≠ .absent) : storeLeave i s = dropPeer i s := if_neg h

/-! ### A STATE stored (R133, R135 to R137, R149) -/

/-- The own counters stand through a peer's STATE: it moves M, the pair, L and the low flag (R149, R152, R154). -/
theorem invPeerState_counters (first : Bool) (new last : Announced) (s : State) :
    (invPeerState first new last s).inv.drawn = s.inv.drawn ∧ (invPeerState first new last s).inv.added = s.inv.added
      ∧ (invPeerState first new last s).inv.removed = s.inv.removed := by
  have hraised : ∀ u : State, (raiseEvent .epochAdopted u).inv = u.inv := fun _ => rfl
  unfold invPeerState
  split
  · rw [hraised, invArrive_inv]
    exact ⟨rfl, rfl, rfl⟩
  · rw [invArrive_inv]
    exact ⟨rfl, rfl, rfl⟩

/-- The state that a STATE stored has reached when PEER_NEW is left to raise (R136). -/
def State.heardFrom (i : StationIx) (a : Announced) (s : State) : State :=
  tableChange (some i) (invPeerState (decide ((s.peers.get i).presence = .absent)) a (s.peers.get i).heard
    (s.setPeer i ((s.peers.get i).store s.settings.zoneCount s.sck a)))

theorem storeState_eq (i : StationIx) (a : Announced) (s : State) :
    storeState i a s
      = if decide ((s.peers.get i).presence = .absent) then raiseEvent .peerNew (s.heardFrom i a) else s.heardFrom i a := rfl

theorem heardFrom_entrySet (i : StationIx) (a : Announced) (s : State) :
    EntrySet i ((s.peers.get i).store s.settings.zoneCount s.sck a) s (s.heardFrom i a) :=
  .of_setPeer (by simp [State.heardFrom]) (by simp [State.heardFrom]) (by simp [State.heardFrom])

theorem heardFrom_counters (a : Announced) (h : SgxWf s) :
    (s.heardFrom i a).inv.drawn = s.inv.drawn ∧ (s.heardFrom i a).inv.added = s.inv.added
      ∧ (s.heardFrom i a).inv.removed = s.inv.removed := by
  have hchange (u : State) (hx : u.sgx = s.sgx) (hst : u.dcc.stage = s.dcc.stage) : (tableChange (some i) u).inv = u.inv :=
    (tableChange_besideInv _ (sgxWf_congr hx hst h)).inv
  rw [State.heardFrom, hchange _ (by simp) (by simp)]
  exact invPeerState_counters _ _ _ _

/-- PEER_NEW is all that a first hearing adds (R137). -/
theorem storeState_frame (i : StationIx) (a : Announced) (s : State) :
    (storeState i a s).peers = (s.heardFrom i a).peers ∧ (storeState i a s).cfs = (s.heardFrom i a).cfs
      ∧ (storeState i a s).sck = (s.heardFrom i a).sck ∧ (storeState i a s).inv = (s.heardFrom i a).inv
      ∧ (storeState i a s).kli = (s.heardFrom i a).kli := by
  rw [storeState_eq]
  split
  all_goals exact ⟨rfl, rfl, rfl, rfl, rfl⟩

/-- Settles O43: a STATE stored is the entry set, the inventory moved by the counters and the table change, which leaves both
(`heardFrom_entrySet`, `heardFrom_counters`); a LEAVE empties the entry of a station that was heard. -/
theorem peerNoticesAreStored : Obligations.PeerNoticesAreStored := by
  intro s bytes i hwf hhunting hsilent honline hi
  have hexec : exec (.noticeEnd bytes false) s = .next (drivePins (receiveNotice bytes false s)) := by
    rw [exec_noticeEnd, endNotice_of_silent hhunting hsilent]
  refine ⟨fun a hcheck => ?state, fun hcheck hheard => ?leave, fun hcheck habsent => ?unheard⟩
  case state =>
    rw [receiveNotice_of_state honline hi hcheck] at hexec
    obtain ⟨hpeers, hcfs, hsck, hinv, hkli⟩ := storeState_frame i a s
    have hset := heardFrom_entrySet i a s
    obtain ⟨hdrawn, hadded, hremoved⟩ := heardFrom_counters (i := i) a hwf
    have hcounts : (s.heardFrom i a).kli.discards = s.kli.discards ∧ (s.heardFrom i a).kli.failures = s.kli.failures := by
      simp [State.heardFrom]
    refine ⟨_, hexec, ?_, fun j hj => ?_, fun habsent => ?_, hcfs.trans hset.cfs, hsck.trans hset.sck,
      (congrArg Kli.discards hkli).trans hcounts.1, (congrArg Kli.failures hkli).trans hcounts.2,
      (congrArg Inv.drawn hinv).trans hdrawn, (congrArg Inv.added hinv).trans hadded,
      (congrArg Inv.removed hinv).trans hremoved⟩
    · show (storeState i a s).peers.get i = _
      rw [hpeers, hset.entry]
      rfl
    · show (storeState i a s).peers.get j = _
      rw [hpeers, hset.others j hj]
    · show (storeState i a s).pendingEvent .peerNew = true
      rw [storeState_eq, if_pos (decide_eq_true habsent)]
      exact raiseEvent_pendingEvent _ _
  case leave =>
    obtain ⟨hset, hinv⟩ := dropPeer_empties i hwf
    rw [receiveNotice_of_leave honline hi hcheck, storeLeave_of_heard hheard] at hexec
    exact ⟨_, hexec, hset.entry, hset.others, hinv, hset.cfs, hset.sck⟩
  case unheard =>
    rw [hexec, receiveNotice_of_leave honline hi hcheck, storeLeave_of_absent habsent]

end Sys2Proof.Machine
end

section
/-! PROOF. PEER_AGEING, FORGET_PEER and READ_PEER (O47): the two frames share their argument and its refusals. -/

namespace Sys2Proof.Machine

variable {s : State} {i : StationIx} {tail args : List Byte}

/-! ### PEER_AGEING (R139) -/

theorem aged_iff (i : StationIx) (s : State) :
    s.aged i = true ↔ s.online = true ∧ i ≠ s.own ∧ (s.peers.get i).presence = .present
      ∧ 1000 ≤ (s.sck - (s.peers.get i).time).toNat := by
  rw [State.aged, Bool.and_eq_true, decide_eq_true_eq]
  rfl

theorem exec_peerAgeing (i : StationIx) (s : State) :
    exec (.peerAgeing i) s = if s.aged i then .next (drivePins (agePeer i s)) else .next s := rfl

/-- PEER_STALE is raised before the change is reported, and the report leaves it and the inventory (R139). -/
theorem agePeer_ages (i : StationIx) (h : SgxWf s) :
    EntrySet i { s.peers.get i with presence := .stale } s (agePeer i s) ∧ (agePeer i s).pendingEvent .peerStale = true
      ∧ (agePeer i s).inv = s.inv := by
  let v := raiseEvent .peerStale (s.setPeer i { s.peers.get i with presence := .stale })
  have hchange : BesideInv v (agePeer i s) := tableChange_besideInv (s := v) none h
  exact ⟨.of_setPeer (by simp [agePeer]) (by simp [agePeer]) (by simp [agePeer]),
    (hchange.event .peerStale (by decide) (by decide)).trans (raiseEvent_pendingEvent _ _), hchange.inv⟩

/-! ### The station of a frame (R142, R143, R187) -/

theorem stationArg_of_station (hlen : args.length = 1) (harg : beNat args = i.val + 1) : stationArg args = some i := by
  have hix : stationIxOf (i.val + 1) = i := Fin.ext (Nat.mod_eq_of_lt i.isLt)
  rw [stationArg, beField_all args 1 hlen, harg, if_pos (by omega), hix]

theorem stationArg_of_outside (hlen : args.length = 1) (harg : beNat args = 0 ∨ 16 < beNat args) : stationArg args = none := by
  rw [stationArg, beField_all args 1 hlen, if_neg (by omega)]

/-- What FORGET_PEER and READ_PEER share (R142, R143): taken in LISTEN and READY, one argument byte, BAD_ARG where it is no
station number; `k` answers for the station. -/
def answerStation (tail : List Byte) (s : State) (k : StationIx → Host.Outcome State Fault Refusal) :
    Host.Outcome State Fault Refusal :=
  takeFrame .listenReady tail s fun args =>
    withArgs 1 args s
      (match stationArg args with
       | none => refuse .badArg s
       | some i => k i)

/-- What FORGET_PEER makes of the entry named (R142). -/
def forgetEntry (s : State) (i : StationIx) : Host.Outcome State Fault Refusal :=
  match (s.peers.get i).presence with
  | .absent => refuse .badArg s
  | .present => refuse .notStale s
  | .stale => accept [] (dropPeer i s)

theorem exec_forgetPeer (tail : List Byte) (s : State) : exec (.forgetPeer tail) s = answerStation tail s (forgetEntry s) := rfl

theorem exec_readPeer (tail : List Byte) (s : State) :
    exec (.readPeer tail) s = answerStation tail s fun i => accept (entryBytes s i) s := rfl

section Answers

variable {k : StationIx → Host.Outcome State Fault Refusal} (hopen : FrameOpen s tail args) (honline : s.online = true)

include hopen honline

theorem answerStation_of_badArg (h : args.length ≠ 1 ∨ beNat args = 0 ∨ 16 < beNat args) :
    answerStation tail s k = .next (refusedWith .badArg s) := by
  rw [answerStation, takeFrame_of_open s hopen, listenReady_inMode, if_pos honline, withArgs_eq]
  by_cases hlen : args.length = 1
  · rw [if_pos hlen, stationArg_of_outside hlen (h.resolve_left (not_not_intro hlen)), refuse_eq_refusedWith]
  · rw [if_neg hlen]

theorem answerStation_of_station (hlen : args.length = 1) (harg : beNat args = i.val + 1) : answerStation tail s k = k i := by
  rw [answerStation, takeFrame_of_open s hopen, listenReady_inMode, if_pos honline, withArgs_eq, if_pos hlen,
    stationArg_of_station hlen harg]

end Answers

/-! ### The entry in the response (R143) -/

/-- An entry is 35 bytes, ABSENT or not (08, Peer entry layout). -/
theorem entryBytes_length (s : State) (i : StationIx) : (entryBytes s i).length = 35 := by
  unfold entryBytes
  split
  · rw [List.length_append, beBytes_length, List.length_replicate]
  · simp only [peerBytes, List.length_append, beBytes_length]

/-- Settles O47: an entry ages where it is due (`aged_iff`); the two frames refuse alike (`answerStation_of_badArg`), FORGET_PEER
then answers by presence, and READ_PEER with the entry. -/
theorem entriesAgeAndAreForgotten : Obligations.EntriesAgeAndAreForgotten := by
  refine ⟨fun s i hwf honline => ⟨fun hi hpresent hdue => ?ages, fun hno => ?stays⟩,
    fun s tail args hwf hopen honline => ⟨fun hbad => ?refused, fun i hlen harg => ?answered⟩⟩
  case ages =>
    obtain ⟨hset, hevent, hinv⟩ := agePeer_ages i hwf
    have hexec : exec (.peerAgeing i) s = .next (drivePins (agePeer i s)) := by
      rw [exec_peerAgeing, if_pos ((aged_iff i s).mpr ⟨honline, hi, hpresent, hdue⟩)]
    exact ⟨_, hexec, hset.entry, hset.others, hevent, hinv, hset.cfs, hset.sck⟩
  case stays =>
    have hyoung : ¬ s.aged i = true := fun haged => by
      obtain ⟨-, hi, hpresent, hdue⟩ := (aged_iff i s).mp haged
      rcases hno with hown | hnot | hearly
      · exact hi hown
      · exact hnot hpresent
      · omega
    rw [exec_peerAgeing, if_neg hyoung]
  case refused =>
    rw [exec_forgetPeer, exec_readPeer]
    exact ⟨answerStation_of_badArg hopen honline hbad, answerStation_of_badArg hopen honline hbad⟩
  case answered =>
    have hforget : exec (.forgetPeer tail) s = forgetEntry s i := by
      rw [exec_forgetPeer, answerStation_of_station hopen honline hlen harg]
    have hread : exec (.readPeer tail) s = accept (entryBytes s i) s := by
      rw [exec_readPeer, answerStation_of_station hopen honline hlen harg]
    refine ⟨fun habsent => ?_, fun hpresent => ?_, fun hstale => ?_, hread, entryBytes_length s i⟩
    · simp only [hforget, forgetEntry, habsent, refuse_eq_refusedWith]
    · simp only [hforget, forgetEntry, hpresent, refuse_eq_refusedWith]
    · obtain ⟨hset, hinv⟩ := dropPeer_empties i hwf
      rw [forgetEntry, hstale] at hforget
      exact ⟨_, hforget, rfl, hset.entry, hset.others, hinv, hset.cfs, hset.sck⟩

end Sys2Proof.Machine
end

section
/-! SUPPORT. The own epoch pair (R153): of what reaches the Inventory Unit only a sounding and a peer's STATE write it (R154, R156);
a stored record draws from M and leaves it (R149). -/

namespace Sys2Proof.Machine

variable {s t u : State}

/-! ### The pair -/

/-- The own epoch pair: epoch and origin (R153). -/
def State.pair (s : State) : Nat × Nat := (s.inv.epoch, s.inv.origin)

theorem pair_congr (h : t.inv = s.inv) : t.pair = s.pair := by
  rw [State.pair, h]
  rfl

/-- An arrival at the INV leaves the pair that its change makes (R148). -/
theorem invArrive_pair (f : Inv → Inv) (s : State) : (invArrive f s).pair = ((f s.inv).epoch, (f s.inv).origin) := by
  rw [State.pair, invArrive_inv]
  rfl

variable (s)

/-! ### The end of a dip, and what reaches it (R26, R34, R52 to R55) -/

theorem storeDip_pair : (storeDip s).pair = s.pair := by
  cases h : s.dcc.active with
  | none => rw [storeDip_of_none s h]
  | some d =>
    have hlog : (logRecord (recordOf s d) s).pair = s.pair := pair_congr (by simp)
    rw [storeDip_eq s h, invArrive_pair]
    exact hlog

theorem finishDip_pair : (finishDip s).pair = s.pair := by
  let v := dropRecipe (markersLow (releaseResv (releaseClaim s)))
  have hend : (finishDip s).pair = (storeDip v).pair := pair_congr (by simp [finishDip, v])
  exact hend.trans ((storeDip_pair v).trans (pair_congr (by simp [v])))

theorem releaseDip_pair : (releaseDip s).pair = s.pair := by
  have hstage : (releaseDip s).pair = (finishDip (setStage .release (endHold s))).pair := pair_congr (by simp [releaseDip])
  exact hstage.trans ((finishDip_pair _).trans (pair_congr (by simp)))

theorem leavePhase_pair (p : Phase) : (leavePhase p s).pair = s.pair := by
  cases p with
  | depart => exact releaseDip_pair _
  | approach => exact pair_congr (by simp [leavePhase])
  | immerse => rfl
  | soak => rfl
  | withdraw => exact pair_congr (by simp [leavePhase])
  | drain => exact pair_congr (by simp [leavePhase])

theorem sgxGo_pair : (sgxGo s).pair = s.pair :=
  sgxRun_keeps (P := fun u => u.pair = s.pair) s (fun _ _ h => h) (fun _ _ => (pair_congr (by simp)).trans) (fun _ _ _ h => h)
    (fun _ _ => (pair_congr (by simp)).trans) (fun _ _ => (leavePhase_pair _ _).trans)
    (fun _ _ => (pair_congr (by simp)).trans) sgxFuel rfl

theorem enterMotion_pair (p : Phase) : (enterMotion p s).pair = s.pair := (sgxGo_pair _).trans (pair_congr (by simp))

theorem endSegment_pair : (endSegment s).pair = s.pair := sgxGo_pair _

theorem sgxHookUpdate_pair : (sgxHookUpdate s).pair = s.pair := by
  have hend := endSegment_pair s
  unfold sgxHookUpdate
  repeat' split
  -- a MOVE; a SHAKE within both bands; its first, up and down legs; nothing that has a leg
  exacts [hend, rfl, hend, pair_congr (by simp), rfl, pair_congr (by simp), rfl, hend, pair_congr (by simp), rfl, rfl]

theorem deliverSamples_pair (samples : List Sample) (unsettled : Bool) : (deliverSamples samples unsettled s).pair = s.pair := by
  unfold deliverSamples deliverWeight
  dsimp only
  split
  · exact pair_congr (by simp [deliverDry])
  · unfold deliverExit
    dsimp only
    split
    · exact pair_congr (by simp)
    · exact (enterMotion_pair _ _).trans rfl
  · exact (enterMotion_pair _ _).trans rfl
  · rfl

/-! ### Table changes (R141, R168, R169) -/

theorem endYield_pair : (endYield s).pair = s.pair := by
  unfold endYield
  dsimp only
  split
  · exact (sgxGo_pair _).trans (pair_congr (by simp))
  · exact pair_congr (by simp)

theorem conflictCheck_pair : (conflictCheck s).pair = s.pair := by
  unfold conflictCheck
  dsimp only
  repeat' split
  · exact pair_congr (by simp)
  · exact pair_congr (by simp)
  · exact (endYield_pair _).trans (pair_congr (by simp))
  · exact pair_congr (by simp)

theorem zcuTableChange_pair (stored : Option StationIx) : (zcuTableChange stored s).pair = s.pair := by
  unfold zcuTableChange
  repeat' split
  · rfl
  · exact pair_congr (by simp)
  · exact pair_congr (by simp)
  · rfl
  · exact (conflictCheck_pair _).trans (pair_congr (by simp))
  · exact conflictCheck_pair s

theorem tableChange_pair (stored : Option StationIx) : (tableChange stored s).pair = s.pair := by
  have hreview : ∀ u : State, (reviewResv u).pair = u.pair := fun u => pair_congr (by simp)
  unfold tableChange tableChangeWith
  split
  · exact (hreview _).trans ((zcuTableChange_pair _ _).trans rfl)
  · exact (hreview _).trans (zcuTableChange_pair s.nextFree stored)

theorem restartClear_pair : (restartClear s).pair = s.pair := (tableChange_pair _ _).trans rfl

/-! ### What the other commands settle -/

theorem routeAbort_pair : (routeAbort s).pair = s.pair := by
  unfold routeAbort
  split
  · exact releaseDip_pair _
  · exact releaseDip_pair s
  · exact (enterMotion_pair _ _).trans (pair_congr (by simp))
  · exact (enterMotion_pair _ _).trans (pair_congr (by simp))
  · exact enterMotion_pair _ _
  · exact enterMotion_pair _ _
  · exact pair_congr (by simp)
  · rfl

theorem recoverDip_pair : (recoverDip s).pair = s.pair := by
  have hstage : (recoverDip s).pair = (finishDip s).pair := pair_congr (by simp [recoverDip])
  exact hstage.trans (finishDip_pair s)

theorem holdClaim_pair : (holdClaim s).pair = s.pair := by
  refine (conflictCheck_pair _).trans ?_
  split
  · exact (enterMotion_pair _ _).trans (pair_congr (by simp))
  · exact pair_congr (by simp)

theorem admitResv_pair : (admitResv s).pair = s.pair := by
  unfold admitResv
  dsimp only
  repeat' split
  · exact (enterMotion_pair _ _).trans (pair_congr (by simp))
  · exact pair_congr (by simp)
  · exact pair_congr (by simp)

/-- The receivers of a hook-height update, in either order (R74). -/
theorem hookUpdate_pair : (hookUpdate s).pair = s.pair := by
  have hstart : (testImmersion s.nextFree).pair = s.pair := by
    unfold testImmersion
    split <;> rfl
  have hmend : ∀ v w : State, (mendExitWet v w).pair = w.pair := fun v w => by
    unfold mendExitWet
    split <;> rfl
  have hadm : ∀ v : State, (admHookUpdate v).pair = v.pair := fun v => pair_congr (by simp)
  unfold hookUpdate hookUpdateWith
  dsimp only
  split
  · rw [sgxHookUpdate_pair, hadm, hstart]
  · rw [hmend, hadm, sgxHookUpdate_pair, hstart]

theorem failedRead_pair : (failedRead s).pair = s.pair := by
  unfold failedRead
  split
  · exact pair_congr (by simp [countFailedRead])
  · rfl

theorem setDriveFault_pair (level : Bool) : (setDriveFault level s).pair = s.pair := by
  unfold setDriveFault
  dsimp only
  split
  · exact pair_congr (by simp)
  · rfl

theorem takeEdge_pair (input : Trigger) (rising : Bool) : (takeEdge input rising s).pair = s.pair := by
  have hraise : (raiseTrigger input rising (latchEdge input rising s)).pair = s.pair := by
    unfold raiseTrigger
    split <;> rfl
  unfold takeEdge
  dsimp only
  split
  · exact (endSegment_pair _).trans hraise
  · exact hraise

theorem takeRaw_pair (raw : BitVec 24) : (takeRaw raw s).pair = s.pair := by
  have htake : ∀ x (v : State), (takeSample x v).pair = v.pair := fun x v => by
    unfold takeSample settleSample averageSample
    dsimp only
    repeat' split
    exacts [rfl, rfl, deliverSamples_pair _ _ _, rfl]
  unfold takeRaw
  split
  · exact htake _ _
  · rfl

theorem stopAttempt_pair (a : Attempt) (n : Nat) (dominant : Bool) : (stopAttempt a n dominant s).pair = s.pair := by
  unfold stopAttempt
  dsimp only
  split
  · exact pair_congr (by simp)
  · rfl

theorem startJob_pair (j : Job) (rest : List Job) : (faultAtStart (startJob j rest s)).pair = s.pair := by
  have hstart : (startJob j rest s).pair = s.pair := pair_congr (by simp [startJob])
  unfold faultAtStart
  repeat' split
  · exact (pair_congr (by simp)).trans hstart
  · exact hstart
  · exact (pair_congr (by simp)).trans hstart

end Sys2Proof.Machine
end

section
/-! PROOF. The own epoch pair never decreases (O17): a peer's pair is adopted only where it is greater, a sounding raises the epoch,
and every other command but hardware reset and the end of a load leaves the pair. -/

namespace Sys2Proof.Machine

variable {s t u : State}

/-! ### The order of the pairs (R153) -/

/-- From `s` to `t` the own epoch pair has not decreased. -/
def NotLowered (s t : State) : Prop := pairGreater s.inv.epoch s.inv.origin t.inv.epoch t.inv.origin = false

theorem pairGreater_iff (e o e' o' : Nat) : pairGreater e o e' o' = true ↔ e' < e ∨ (e = e' ∧ o < o') := decide_eq_true_iff

theorem pairGreater_asymm {e o e' o' : Nat} (h : pairGreater e o e' o' = true) : pairGreater e' o' e o = false := by
  rw [pairGreater_iff] at h
  rw [Bool.eq_false_iff, ne_eq, pairGreater_iff]
  omega

theorem pairGreater_self (e o : Nat) : pairGreater e o e o = false := by
  rw [Bool.eq_false_iff, ne_eq, pairGreater_iff]
  omega

theorem NotLowered.of_pair (h : t.pair = s.pair) : NotLowered s t := by
  obtain ⟨hepoch, horigin⟩ := Prod.mk.inj h
  rw [NotLowered, hepoch, horigin]
  exact pairGreater_self _ _

/-- What comes before leaves the pair. -/
theorem NotLowered.after (h : NotLowered t u) (hst : t.pair = s.pair) : NotLowered s u := by
  obtain ⟨hepoch, horigin⟩ := Prod.mk.inj hst
  rw [NotLowered, ← hepoch, ← horigin]
  exact h

/-- What comes after leaves the pair. -/
theorem NotLowered.before (h : NotLowered s t) (htu : u.pair = t.pair) : NotLowered s u := by
  obtain ⟨hepoch, horigin⟩ := Prod.mk.inj htu
  rw [NotLowered, hepoch, horigin]
  exact h

/-! ### The writers of the pair (R154, R156) -/

theorem arrival_notLowered {f : Inv → Inv} (h : pairGreater (f s.inv).epoch (f s.inv).origin s.inv.epoch s.inv.origin = true) :
    NotLowered s (invArrive f s) := by
  obtain ⟨hepoch, horigin⟩ := Prod.mk.inj (invArrive_pair f s)
  rw [NotLowered, hepoch, horigin]
  exact pairGreater_asymm h

/-- A sounding raises the epoch. -/
theorem sound_notLowered (area own level : Nat) (s : State) : NotLowered s (invArrive (·.sound area own level) s) :=
  arrival_notLowered ((pairGreater_iff _ _ _ _).mpr (.inl (Nat.lt_succ_self _)))

/-- A peer's pair is adopted only where it is greater; its counters move M alone. -/
theorem invPeerState_notLowered (first : Bool) (new last : Announced) (s : State) :
    NotLowered s (invPeerState first new last s) := by
  unfold invPeerState
  split
  · rename_i hadopts
    have hgreater : pairGreater new.epoch new.origin s.inv.epoch s.inv.origin = true := ((Bool.and_eq_true _ _).mp hadopts).1
    have harrive : NotLowered s (invArrive (fun v => (v.shift (netMovement first new last)).adopt new) s) :=
      arrival_notLowered hgreater
    exact harrive.before rfl
  · exact .of_pair (invArrive_pair _ s)

/-! ### The end of a notice (R118, R122, R136) -/

theorem storeState_notLowered (i : StationIx) (a : Announced) (s : State) : NotLowered s (storeState i a s) := by
  have hheard : NotLowered s (s.heardFrom i a) := by
    have hpeer := invPeerState_notLowered (decide ((s.peers.get i).presence = .absent)) a (s.peers.get i).heard
      (s.setPeer i ((s.peers.get i).store s.settings.zoneCount s.sck a))
    exact (hpeer.after rfl).before (tableChange_pair _ _)
  rw [storeState_eq]
  split
  · exact hheard.before rfl
  · exact hheard

theorem receiveNotice_notLowered (bytes : List Byte) (spoiled : Bool) (s : State) :
    NotLowered s (receiveNotice bytes spoiled s) := by
  unfold receiveNotice storeLeave
  repeat' split
  · exact .of_pair rfl
  · exact .of_pair (pair_congr (by simp))
  · exact .of_pair rfl
  · exact .of_pair (tableChange_pair _ _)
  · exact storeState_notLowered _ _ s
  · exact .of_pair rfl

/-- An own notice gone out leaves the pair (R118, R124, R127). -/
theorem attemptSucceeded_pair (a : Attempt) (s : State) : (attemptSucceeded a s).pair = s.pair := by
  unfold attemptSucceeded leaveSent stateSent
  dsimp only
  repeat' split
  · exact restartClear_pair _
  · rfl
  · rfl
  · exact pair_congr (by simp)
  · exact pair_congr (by simp)

theorem endNotice_notLowered (bytes : List Byte) (spoiled : Bool) (s : State) : NotLowered s (endNotice bytes spoiled s) := by
  unfold endNotice
  repeat' split
  · exact .of_pair rfl
  · exact receiveNotice_notLowered _ _ s
  · exact .of_pair (attemptSucceeded_pair _ s)
  · exact (receiveNotice_notLowered _ _ _).after (pair_congr (by simp))
  · exact (receiveNotice_notLowered _ _ _).after (pair_congr (by simp))
  · exact (receiveNotice_notLowered _ _ _).after (pair_congr (by simp))

/-! ### The shapes of an answer -/

section Shapes

variable {o o' : Host.Outcome State Fault Refusal} {body : List Byte → Host.Outcome State Fault Refusal}

/-- The outcome of a command that does not lower the pair. -/
def NeverLowers (s : State) (o : Host.Outcome State Fault Refusal) : Prop := ∀ t, o = .next t → NotLowered s t

theorem unchanged_neverLowers (s : State) : NeverLowers s (unchanged s) := by
  rintro t ⟨⟩
  exact .of_pair rfl

theorem settle_neverLowers (h : NotLowered s u) : NeverLowers s (settle u) := by
  rintro t ⟨⟩
  exact h.before rfl

theorem settle_neverLowers_of_pair (h : u.pair = s.pair) : NeverLowers s (settle u) := settle_neverLowers (.of_pair h)

theorem refuse_neverLowers (code : ResultCode) (s : State) : NeverLowers s (refuse code s) := by
  rintro t ⟨⟩
  exact .of_pair rfl

theorem refused_neverLowers (r : Refusal) (s : State) : NeverLowers s (.refused r) := by
  rintro t ⟨⟩

theorem accept_neverLowers {data : List Byte} (h : NotLowered s u) : NeverLowers s (accept data u) :=
  settle_neverLowers (h.before rfl)

theorem accept_neverLowers_of_pair {data : List Byte} (h : u.pair = s.pair) : NeverLowers s (accept data u) :=
  accept_neverLowers (.of_pair h)

theorem NeverLowers.ite {p : Prop} [Decidable p] (h : NeverLowers s o) (h' : NeverLowers s o') :
    NeverLowers s (if p then o else o') := by
  split
  · exact h
  · exact h'

/-- An arrival that acts under a condition, and otherwise finds nothing (log 2). -/
theorem settleIf_neverLowers {p : Prop} [Decidable p] (h : u.pair = s.pair) :
    NeverLowers s (if p then settle u else unchanged s) := .ite (settle_neverLowers_of_pair h) (unchanged_neverLowers s)

/-- An arrival that acts on what a register holds, and finds nothing where it holds nothing. -/
theorem elim_neverLowers {α : Type} (x : Option α) {f : α → Host.Outcome State Fault Refusal} (h : ∀ a, NeverLowers s (f a)) :
    NeverLowers s (x.elim (unchanged s) f) := by
  cases x with
  | none => exact unchanged_neverLowers s
  | some a => exact h a

/-- A frame is refused without effect, or its body answers (R186). -/
theorem takeFrame_neverLowers {taken : Taken} {tail : List Byte} (h : ∀ args, NeverLowers s (body args)) :
    NeverLowers s (takeFrame taken tail s body) := fun _ ht =>
  takeFrame_elim (P := NotLowered s) ht (fun _ => .of_pair rfl) fun args => h args _

/-- A frame whose argument length is checked first (R187). -/
theorem takeArgs_neverLowers {taken : Taken} {tail : List Byte} {n : Nat} (h : ∀ args, NeverLowers s (body args)) :
    NeverLowers s (takeFrame taken tail s fun args => withArgs n args s (body args)) := fun _ ht =>
  takeArgs_elim (P := NotLowered s) ht (fun _ => .of_pair rfl) fun args => h args _

end Shapes

/-! ### Every command -/

/-- Every command but hardware reset and the end of a load, which set the pair afresh (R147, R188, R193). -/
theorem exec_neverLowers {c : Instr} (hreset : c ≠ .hardwareReset) (hload : c ≠ .validationEnd) (s : State) :
    NeverLowers s (exec c s) := by
  have refuses := fun code => refuse_neverLowers code s
  have idles := unchanged_neverLowers s
  cases c with
  | hardwareReset => exact absurd rfl hreset
  | validationEnd => exact absurd rfl hload
  | setLevel => exact takeArgs_neverLowers fun _ => .ite (refuses _) (accept_neverLowers (sound_notLowered _ _ _ s))
  | noticeEnd => exact settle_neverLowers (endNotice_notLowered _ _ s)
  | addZinc => exact takeArgs_neverLowers fun _ => .ite (accept_neverLowers_of_pair (invArrive_pair _ s)) (refuses _)
  | removeDross => exact takeArgs_neverLowers fun _ => .ite (accept_neverLowers_of_pair (invArrive_pair _ s)) (refuses _)
  | loadBegin => exact takeArgs_neverLowers fun _ => .ite (accept_neverLowers_of_pair rfl) (refuses _)
  | loadData => exact takeFrame_neverLowers fun _ => .ite (accept_neverLowers_of_pair rfl) (refuses _)
  | loadEnd => exact takeArgs_neverLowers fun _ => settle_neverLowers_of_pair rfl
  | loadTimerExpiry => exact settleIf_neverLowers rfl
  | listenTimerExpiry => exact settleIf_neverLowers rfl
  | getStatus =>
    show NeverLowers s (execGetStatus _ s)
    unfold execGetStatus answerFrame
    split
    · exact refuses _
    · refine .ite (.ite ?_ (refuses _)) (refuses _)
      rintro t ⟨⟩
      exact .of_pair rfl
  | dip =>
    refine takeFrame_neverLowers fun args => .ite (refuses _) ?_
    split
    exacts [refuses _, accept_neverLowers_of_pair rfl]
  | cancelJob => exact takeArgs_neverLowers fun _ => .ite (accept_neverLowers_of_pair rfl) (.ite (refuses _) (refuses _))
  | abortDip =>
    refine takeArgs_neverLowers fun args => ?_
    split
    · exact refuses _
    · exact .ite (refuses _) (.ite (refuses _) (.ite (refuses _) (accept_neverLowers_of_pair (routeAbort_pair _))))
  | recover =>
    exact takeArgs_neverLowers fun _ =>
      .ite (refuses _) (.ite (refuses _) (.ite (refuses _) (accept_neverLowers_of_pair (recoverDip_pair s))))
  | readRecord =>
    refine takeArgs_neverLowers fun args => ?_
    split
    exacts [refuses _, accept_neverLowers_of_pair rfl]
  | peekRecord =>
    refine takeArgs_neverLowers fun args => ?_
    split
    exacts [refuses _, accept_neverLowers_of_pair rfl]
  | readPeer =>
    refine takeArgs_neverLowers fun args => ?_
    split
    exacts [refuses _, accept_neverLowers_of_pair rfl]
  | forgetPeer =>
    refine takeArgs_neverLowers fun args => ?_
    repeat' split
    exacts [refuses _, refuses _, refuses _, accept_neverLowers_of_pair (tableChange_pair _ _)]
  | setEventEnable => exact takeArgs_neverLowers fun _ => accept_neverLowers_of_pair rfl
  | clearEvents => exact takeArgs_neverLowers fun _ => accept_neverLowers_of_pair rfl
  | restart => exact takeArgs_neverLowers fun _ => .ite (refuses _) (.ite (accept_neverLowers_of_pair rfl) (refuses _))
  | idleFrame => exact idles
  | unknownCommand code tail =>
    refine .ite (.ite (refuses _) ?_) (refused_neverLowers _ s)
    split
    exacts [refuses _, refuses _]
  | restartTimerExpiry => exact settleIf_neverLowers (restartClear_pair s)
  | jobStart =>
    show NeverLowers s (execJobStart s)
    unfold execJobStart
    split
    exacts [idles, settleIf_neverLowers (startJob_pair s _ _)]
  | rawSample => exact settleIf_neverLowers (takeRaw_pair s _)
  | settleTimeout =>
    show NeverLowers s (execSettleTimeout s)
    unfold execSettleTimeout
    repeat' split
    exacts [idles, idles, settle_neverLowers_of_pair (deliverSamples_pair s _ _), idles]
  | encoderRead =>
    exact .ite (settle_neverLowers_of_pair (hookUpdate_pair _)) (settle_neverLowers_of_pair (failedRead_pair s))
  | driveReadyEdge =>
    rw [exec_driveReadyEdge]
    exact elim_neverLowers _ fun _ => settle_neverLowers_of_pair rfl
  | driveFaultEdge =>
    rw [exec_driveFaultEdge]
    exact elim_neverLowers _ fun level => settle_neverLowers_of_pair (setDriveFault_pair s level)
  | haltEdge =>
    rw [exec_haltEdge]
    exact elim_neverLowers _ fun _ => settle_neverLowers_of_pair rfl
  | triggerEdge =>
    rw [exec_triggerEdge]
    exact elim_neverLowers _ fun rising => settle_neverLowers_of_pair (takeEdge_pair s _ rising)
  | firstFilteredLevel =>
    rw [exec_firstFilteredLevel]
    exact elim_neverLowers _ fun _ => settle_neverLowers_of_pair rfl
  | motionLimitExpiry =>
    rw [exec_motionLimitExpiry]
    exact elim_neverLowers _ fun _ => settleIf_neverLowers (pair_congr (by simp))
  | driveLostExpiry =>
    rw [exec_driveLostExpiry]
    exact elim_neverLowers _ fun _ => settleIf_neverLowers (pair_congr (by simp))
  | dwellExpiry => exact settleIf_neverLowers (endSegment_pair s)
  | waitTimeout => exact settleIf_neverLowers (endSegment_pair _)
  | pulseExpiry => exact settleIf_neverLowers rfl
  | holdLimitExpiry =>
    show NeverLowers s (execHoldLimitExpiry s)
    unfold execHoldLimitExpiry
    split
    exacts [idles, settleIf_neverLowers rfl]
  | transmitAttemptStart => exact settleIf_neverLowers rfl
  | heartbeatTimerExpiry =>
    show NeverLowers s (execHeartbeatTimerExpiry s)
    unfold execHeartbeatTimerExpiry
    split
    exacts [idles, settleIf_neverLowers (pair_congr (by simp))]
  | unsentExpiry =>
    show NeverLowers s (execUnsentExpiry s)
    unfold execUnsentExpiry
    split
    exacts [idles, settleIf_neverLowers (pair_congr (by simp))]
  | peerAgeing => exact settleIf_neverLowers (tableChange_pair _ _)
  | claimWindowExpiry =>
    show NeverLowers s (execClaimWindowExpiry s)
    unfold execClaimWindowExpiry
    split
    exacts [settleIf_neverLowers (holdClaim_pair s), idles]
  | admissionWindowExpiry =>
    show NeverLowers s (execAdmissionWindowExpiry s)
    unfold execAdmissionWindowExpiry
    split
    exacts [settleIf_neverLowers (admitResv_pair s), idles]
  | stationClockTick => exact settle_neverLowers_of_pair rfl
  | bitReadBackMismatch bitTime dominant =>
    show NeverLowers s (execBitReadBackMismatch bitTime dominant s)
    unfold execBitReadBackMismatch
    split
    exacts [idles, settleIf_neverLowers (stopAttempt_pair s _ _ _)]
  | csnFallingEdge =>
    rintro t ⟨⟩
    exact .of_pair rfl

/-- Settles O17: SET_LEVEL and a peer's STATE raise the pair or leave it (`sound_notLowered`, `invPeerState_notLowered`), and no
other command named here writes it. -/
theorem epochPairNeverDecreases : Obligations.EpochPairNeverDecreases :=
  fun _ s t hreset hload h => exec_neverLowers hreset hload s t h

end Sys2Proof.Machine
end

section
/-! SUPPORT. An arrival at the INV beside M and L (R148, R157): the state that the low test finds, LOW_ZINC, the STATE request, and
what the arrival leaves. -/

namespace Sys2Proof.Machine

variable {f : Inv → Inv} {s : State}

/-! ### The Inventory Unit -/

section Fields

variable (f s)

theorem invArrive_mass : (invArrive f s).inv.mass = (f s.inv).mass := by rw [invArrive_inv]; rfl
theorem invArrive_added : (invArrive f s).inv.added = (f s.inv).added := by rw [invArrive_inv]; rfl
theorem invArrive_removed : (invArrive f s).inv.removed = (f s.inv).removed := by rw [invArrive_inv]; rfl
theorem invArrive_epoch : (invArrive f s).inv.epoch = (f s.inv).epoch := congrArg Prod.fst (invArrive_pair f s)
theorem invArrive_origin : (invArrive f s).inv.origin = (f s.inv).origin := congrArg Prod.snd (invArrive_pair f s)

/-- L is R7's of the new M, whether the change moved it or not. -/
theorem invArrive_level : (invArrive f s).inv.level = levelOf s.settings.area (invArrive f s).inv.mass := by
  rw [invArrive_inv]
  rfl

theorem invArrive_low : (invArrive f s).inv.low = decide ((invArrive f s).inv.level < s.settings.minLevel) := by
  rw [invArrive_inv]
  rfl

end Fields

/-! ### The low test, the STATE request and the dip -/

/-- The state that the low test of an arrival finds: M changed, L afresh, and a changed L reported to the ADM (R148). -/
def State.levelled (f : Inv → Inv) (s : State) : State :=
  let t := s.onInv fun v => (f v).relevel s.settings.area
  if t.inv.level = s.inv.level then t else admLevelChanged t

theorem invArrive_eq (f : Inv → Inv) (s : State) :
    invArrive f s
      = raiseStateIf ((lowTest (s.levelled f)).inv.announcedDiffers s.inv) (lowTest (s.levelled f)) := rfl

theorem levelled_frame (f : Inv → Inv) (s : State) :
    (s.levelled f).inv = (f s.inv).relevel s.settings.area ∧ (s.levelled f).cpt.mode = s.cpt.mode := by
  unfold State.levelled
  dsimp only
  split
  · exact ⟨rfl, rfl⟩
  · simp

/-- The low test raises LOW_ZINC where the low flag goes from clear to set (R157). -/
theorem lowTest_lowZinc (hwas : s.inv.low = false) (hlow : (lowTest s).inv.low = true) :
    (lowTest s).pendingEvent .lowZinc = true := by
  have hbelow : isLow s.settings.minLevel s.inv.level = true := by rwa [lowTest_inv] at hlow
  unfold lowTest
  dsimp only
  rw [hbelow, hwas]
  exact raiseEvent_pendingEvent _ _

/-- A change that leaves the low flag to the low test. -/
theorem invArrive_lowZinc (hwas : (f s.inv).low = false) (hlow : (invArrive f s).inv.low = true) :
    (invArrive f s).pendingEvent .lowZinc = true := by
  obtain ⟨hinv, -⟩ := levelled_frame f s
  rw [invArrive_eq] at hlow ⊢
  rw [pendingEvent_congr (raiseStateIf_cpt _ _)]
  refine lowTest_lowZinc (by rw [hinv]; exact hwas) ?_
  simpa using hlow

/-- A change of the pair or of an own counter raises the STATE request (R126, R148). -/
theorem invArrive_requested (honline : s.online = true) (h : (f s.inv).announcedDiffers s.inv = true) :
    (invArrive f s).requested := by
  obtain ⟨hinv, hmode⟩ := levelled_frame f s
  have hdiffers : (lowTest (s.levelled f)).inv.announcedDiffers s.inv = true := by
    rw [lowTest_inv, hinv]
    exact h
  have hon : (lowTest (s.levelled f)).online = true := by
    have hkept : (lowTest (s.levelled f)).cpt.mode = s.cpt.mode := by simpa using hmode
    rw [State.online, hkept]
    exact honline
  rw [invArrive_eq, hdiffers]
  exact raiseState_requested hon

theorem invArrive_keepsTheDip (f : Inv → Inv) (s : State) : KeepsTheDip s (invArrive f s) := by simp [KeepsTheDip]

/-- An arrival at the INV raises no event but LOW_ZINC and HOLD_BEGIN. -/
theorem invArrive_other_events {e : Event} (hlow : e ≠ .lowZinc) (hhold : e ≠ .holdBegin) (f : Inv → Inv) (s : State) :
    (invArrive f s).pendingEvent e = s.pendingEvent e := by
  have hapart : Event.lowZinc.bit &&& e.bit = 0 ∧ Event.holdBegin.bit &&& e.bit = 0 := by
    cases e with
    | lowZinc => exact absurd rfl hlow
    | holdBegin => exact absurd rfl hhold
    | _ => exact ⟨rfl, rfl⟩
  exact invArrive_pendingEvent s hapart.1 hapart.2 f

/-- A command whose effect is an arrival that the STATE notice shows: it answers OK, and the response and the pins that follow
are beside the Inventory Unit, the events, the requests and the dip. -/
theorem accepted_arrival (honline : s.online = true) (hdiffers : (f s.inv).announcedDiffers s.inv = true) :
    ∃ t, accept [] (invArrive f s) = .next t ∧ t.cpt.response = { code := .ok, data := [] } ∧ t.inv = (invArrive f s).inv
      ∧ (∀ e, t.pendingEvent e = (invArrive f s).pendingEvent e) ∧ t.kli.stateRequest.isSome = true ∧ KeepsTheDip s t := by
  have hrequest := invArrive_requested honline hdiffers
  have hkeeps := invArrive_keepsTheDip f s
  generalize invArrive f s = u at hrequest hkeeps ⊢
  exact ⟨_, rfl, rfl, rfl, fun _ => rfl, hrequest, hkeeps⟩

end Sys2Proof.Machine
end

section
/-! PROOF. The frames of the inventory, SET_LEVEL, ADD_ZINC and REMOVE_DROSS (O15, O16): each is refused, or is one arrival at the
INV. The two masses share their length, their lower bound and their refusals. -/

namespace Sys2Proof.Machine

variable {s : State} {tail args : List Byte}

/-! ### SET_LEVEL (R156) -/

theorem exec_setLevel_of_limit (hopen : FrameOpen s tail args) (honline : s.online = true) (hlen : args.length = 2)
    (hepoch : s.inv.epoch = 65535) : exec (.setLevel tail) s = .next (refusedWith .epochLimit s) := by
  show execSetLevel tail s = _
  rw [execSetLevel, takeFrame_of_open s hopen, listenReady_inMode, if_pos honline, withArgs_eq, if_pos hlen, if_pos hepoch,
    refuse_eq_refusedWith]

/-- Settles O15: an accepted sounding is an arrival at the INV (`exec_setLevel`), whose epoch is another than the one before. -/
theorem setLevelTakesASounding : Obligations.SetLevelTakesASounding := by
  intro s tail args hopen honline hlen
  refine ⟨exec_setLevel_of_limit hopen honline hlen, fun hepoch => ?_⟩
  let f := Inv.sound s.settings.area s.ownNumber (beNat args)
  have hdiffers : (f s.inv).announcedDiffers s.inv = true := decide_eq_true (.inl (Nat.succ_ne_self _))
  obtain ⟨t, ht, hresponse, hinv, hevent, hrequest, hkeeps⟩ := accepted_arrival (f := f) honline hdiffers
  refine ⟨t, (exec_setLevel hopen honline hlen hepoch).trans ht, hresponse, ?_⟩
  rw [hinv, hevent]
  exact ⟨invArrive_epoch f s, invArrive_origin f s, invArrive_mass f s, invArrive_level f s, invArrive_low f s,
    fun hwas => invArrive_lowZinc (f := f) hwas, invArrive_drawn s f, invArrive_added f s, invArrive_removed f s,
    hrequest, hkeeps⟩

/-! ### ADD_ZINC and REMOVE_DROSS (R149, R150) -/

/-- What ADD_ZINC and REMOVE_DROSS share: taken in LISTEN and READY, one mass of 4 bytes from 1 to `top`, and its arrival at the
INV. -/
def answerMass (top : Nat) (count : Nat → Inv → Inv) (tail : List Byte) (s : State) : Host.Outcome State Fault Refusal :=
  takeFrame .listenReady tail s fun args =>
    withArgs 4 args s
      (if 1 ≤ beField args 0 4 ∧ beField args 0 4 ≤ top then accept [] (invArrive (count (beField args 0 4)) s)
       else refuse .badArg s)

theorem exec_addZinc (tail : List Byte) (s : State) : exec (.addZinc tail) s = answerMass 50000 Inv.add tail s := rfl

theorem exec_removeDross (tail : List Byte) (s : State) : exec (.removeDross tail) s = answerMass 20000 Inv.remove tail s := rfl

section Answers

variable {top : Nat} {count : Nat → Inv → Inv} (hopen : FrameOpen s tail args)

include hopen

theorem answerMass_of_offline (hoffline : s.online = false) : answerMass top count tail s = .next (refusedWith .mode s) := by
  rw [answerMass, takeFrame_of_open s hopen, listenReady_inMode, hoffline, if_neg nofun]

theorem answerMass_of_badArg (honline : s.online = true) (h : args.length ≠ 4 ∨ beNat args = 0 ∨ top < beNat args) :
    answerMass top count tail s = .next (refusedWith .badArg s) := by
  rw [answerMass, takeFrame_of_open s hopen, listenReady_inMode, if_pos honline, withArgs_eq]
  by_cases hlen : args.length = 4
  · rw [if_pos hlen, beField_all args 4 hlen, if_neg (by omega), refuse_eq_refusedWith]
  · rw [if_neg hlen]

theorem answerMass_of_mass (honline : s.online = true) (hlen : args.length = 4) (hpos : 1 ≤ beNat args)
    (htop : beNat args ≤ top) : answerMass top count tail s = accept [] (invArrive (count (beNat args)) s) := by
  rw [answerMass, takeFrame_of_open s hopen, listenReady_inMode, if_pos honline, withArgs_eq, if_pos hlen,
    beField_all args 4 hlen, if_pos ⟨hpos, htop⟩]

end Answers

/-! ### The counters, M and the events -/

/-- A mass in range moves a counter of 32 bits. -/
theorem counter_moves (w : Word) {n : Nat} (hpos : 1 ≤ n) (htop : n ≤ 50000) : w + BitVec.ofNat 32 n ≠ w := by
  intro h
  have hval := congrArg BitVec.toNat h
  rw [BitVec.toNat_add, BitVec.toNat_ofNat] at hval
  have hlt := w.isLt
  omega

/-- A mass added raises M, to the inventory limit at most (R148). -/
theorem shift_pos_mass (mass : Nat) (v : Inv) : (v.shift (mass : Int)).mass = min 8000000 (v.mass + mass) := by
  show (min ((8000000 : Nat) : Int) ((v.mass : Int) + (mass : Int))).toNat = _
  omega

/-- Settles O16: the refusals of both commands are `answerMass`'s, and an accepted mass is an arrival at the INV whose counter is
another than the one before (`counter_moves`). -/
theorem zincCommandsCountTheirMass : Obligations.ZincCommandsCountTheirMass := by
  simp only [Obligations.ZincCommandsCountTheirMass, exec_addZinc, exec_removeDross]
  refine ⟨fun s tail args hopen hoffline => ?offline, fun s tail args hopen honline => ?online⟩
  case offline => exact ⟨answerMass_of_offline hopen hoffline, answerMass_of_offline hopen hoffline⟩
  case online =>
    refine ⟨answerMass_of_badArg hopen honline, answerMass_of_badArg hopen honline, fun hlen hpos htop => ?add,
      fun hlen hpos htop => ?remove⟩
    case add =>
      let f := Inv.add (beNat args)
      have hdiffers : (f s.inv).announcedDiffers s.inv = true :=
        decide_eq_true (.inr (.inr (.inr (.inl (counter_moves _ hpos htop)))))
      obtain ⟨t, ht, hresponse, hinv, hevent, hrequest, hkeeps⟩ := accepted_arrival (f := f) honline hdiffers
      refine ⟨t, (answerMass_of_mass hopen honline hlen hpos htop).trans ht, hresponse, ?_⟩
      simp only [hinv, hevent]
      exact ⟨invArrive_added f s, (invArrive_mass f s).trans (shift_pos_mass _ _), invArrive_level f s, invArrive_drawn s f,
        invArrive_removed f s, invArrive_epoch f s, invArrive_origin f s, fun e hlow hhold => invArrive_other_events hlow hhold f s,
        hrequest, hkeeps⟩
    case remove =>
      let f := Inv.remove (beNat args)
      have hdiffers : (f s.inv).announcedDiffers s.inv = true :=
        decide_eq_true (.inr (.inr (.inr (.inr (counter_moves _ hpos (by omega))))))
      obtain ⟨t, ht, hresponse, hinv, hevent, hrequest, hkeeps⟩ := accepted_arrival (f := f) honline hdiffers
      refine ⟨t, (answerMass_of_mass hopen honline hlen hpos htop).trans ht, hresponse, ?_⟩
      simp only [hinv, hevent]
      exact ⟨invArrive_removed f s, (invArrive_mass f s).trans (shift_neg_mass _ _), invArrive_level f s, invArrive_drawn s f,
        invArrive_added f s, invArrive_epoch f s, invArrive_origin f s, fun e hlow hhold => invArrive_other_events hlow hhold f s,
        hrequest, hkeeps⟩

end Sys2Proof.Machine
end

section
/-! SUPPORT. What a change of the peer table leaves of the log, of the Weighing Unit and of a STATE request (R124, R141): the walk from
the end of a yield is in APPROACH, where no weighing begins and no record is stored (R37, R169). -/

namespace Sys2Proof.Machine

variable {s t u : State}

/-- The log and the Weighing Unit stand, and so does a STATE request that is set. -/
structure BesideLog (s t : State) : Prop where
  acu     : t.acu = s.acu
  wgu     : t.wgu = s.wgu
  request : s.requested → t.requested

theorem BesideLog.refl (s : State) : BesideLog s s := ⟨rfl, rfl, id⟩

theorem BesideLog.trans (h : BesideLog s t) (h' : BesideLog t u) : BesideLog s u :=
  ⟨h'.acu.trans h.acu, h'.wgu.trans h.wgu, h'.request ∘ h.request⟩

/-- What is kept with the Weighing Unit as it was. -/
theorem Kept.besideLog (h : Kept s t) (hw : t.wgu = s.wgu) : BesideLog s t := ⟨h.acu, hw, h.request⟩

/-- With APPROACH in hand, or no stage, the walk ends in APPROACH, in ADMIT or at a hold (R30, R37). -/
theorem sgxGo_besideLog (hh : ∀ p, s.sgx.stage = some p → p = .approach) : BesideLog s (sgxGo s) := by
  refine sgxRun_walk (P := fun u => BesideLog s u ∧ ∀ p, u.sgx.stage = some p → p = .approach) (Q := BesideLog s)
    (fun _ h => h.1) (fun v f hf ⟨hv, hp⟩ => ?_) (fun v g k ⟨hv, hp⟩ => ?_) (fun v g ⟨hv, hp⟩ => ?_)
    (fun v p q hsp hq ⟨_, hp⟩ => ?_) (fun v p hsp _ ⟨hv, hp⟩ => ?_) (fun v _ _ ⟨hv, _⟩ => ?_) sgxFuel ⟨.refl s, hh⟩
  · exact ⟨hv.trans ((Quiet.onSgx f v).toKept.besideLog rfl), fun p h => hp p (hf.symm.trans h)⟩
  · exact ⟨hv.trans ((Quiet.takeCall g k v).toKept.besideLog rfl), hp⟩
  · exact ⟨hv.trans ((Quiet.startSegment g v).toKept.besideLog (by simp)),
      fun p h => hp p ((startSegment_hand v g).symm.trans h)⟩
  · cases hp p hsp
    cases hq
  · cases hp p hsp
    have hadmit := (Quiet.onSgx (fun x => { x with stage := none }) v).trans (.enterAdmit _)
    exact hv.trans (hadmit.toKept.besideLog (by simp [enterAdmit]))
  · exact hv.trans ((Quiet.waitHold _ v).toKept.besideLog (by simp))

theorem endYield_besideLog (h : SgxWf s) : BesideLog s (endYield s) := by
  let v := openGate (s.onZcu fun z => { z with yielding := false })
  have hv : BesideLog s v := ((Quiet.onZcu _ s).trans (.openGate _)).toKept.besideLog (by simp)
  have hwf : SgxWf v := sgxWf_congr (by simp [v]) (by simp [v]) h
  show BesideLog s (if v.dcc.stage = .approach ∧ v.dcc.hold.isSome ∧ v.sgx.current.isNone then sgxGo (endHold v) else v)
  split
  · rename_i hst
    have hhand : ∀ p, (endHold v).sgx.stage = some p → p = .approach := fun p hp =>
      hwf.hand_of_approach hst.1 p (by simpa using hp)
    exact hv.trans (((Quiet.endHold v).toKept.besideLog (by simp)).trans (sgxGo_besideLog hhand))
  · exact hv

theorem conflictCheck_besideLog (h : SgxWf s) : BesideLog s (conflictCheck s) := by
  have hflag : BesideLog s (checkFlag s.conflicting s) := (checkFlag_kept _ s).besideLog (by simp)
  unfold conflictCheck
  dsimp only
  repeat' split
  · exact hflag
  · exact hflag.trans ((Quiet.beginYield _).toKept.besideLog (by simp))
  · exact hflag.trans (endYield_besideLog (sgxWf_congr (by simp) (by simp) h))
  · exact hflag

theorem zcuTableChange_besideLog (stored : Option StationIx) (h : SgxWf s) : BesideLog s (zcuTableChange stored s) := by
  unfold zcuTableChange
  repeat' split
  · exact .refl s
  · exact (Quiet.testClaim s).toKept.besideLog (by simp)
  · exact (Quiet.reviewPending _ s).toKept.besideLog (by simp)
  · exact .refl s
  · exact .trans ((Quiet.raiseStateIf _ s).toKept.besideLog (by simp))
      (conflictCheck_besideLog (sgxWf_congr (by simp) (by simp) h))
  · exact conflictCheck_besideLog h

theorem tableChange_besideLog (stored : Option StationIx) (h : SgxWf s) : BesideLog s (tableChange stored s) := by
  have hfree : BesideLog s s.nextFree := (Quiet.nextFree s).toKept.besideLog rfl
  have hfresh : ∀ u, BesideLog u (refreshSurface u) := fun u => (Quiet.refreshSurface u).toKept.besideLog rfl
  have hreview : ∀ u, BesideLog u (reviewResv u) := fun u => (Quiet.reviewResv u).toKept.besideLog (by simp)
  unfold tableChange tableChangeWith
  split
  · exact .trans (hfree.trans (.trans (hfresh _) (zcuTableChange_besideLog stored h))) (hreview _)
  · exact .trans (hfree.trans (.trans (zcuTableChange_besideLog stored h) (hfresh _))) (hreview _)

/-- Without a claim and a reservation a table change leaves the claim, the dip and its segments (R141). -/
theorem tableChange_of_none (stored : Option StationIx) (hc : s.zcu.claim = .none) (hr : s.adm.resv = .none) :
    (tableChange stored s).dcc = s.dcc ∧ (tableChange stored s).zcu = s.zcu ∧ (tableChange stored s).sgx = s.sgx := by
  have hzcu : ∀ u : State, u.zcu = s.zcu → zcuTableChange stored u = u := fun u hu => by
    simp only [zcuTableChange, hu, hc]
  have hreview : ∀ u : State, u.adm.resv = .none → reviewResv u = u := fun u hu => by simp only [reviewResv, hu]
  unfold tableChange tableChangeWith
  split
  · rw [hzcu (refreshSurface s.nextFree) rfl, hreview (refreshSurface s.nextFree) hr]
    exact ⟨rfl, rfl, rfl⟩
  · rw [hzcu s.nextFree rfl, hreview (refreshSurface s.nextFree) hr]
    exact ⟨rfl, rfl, rfl⟩

end Sys2Proof.Machine
end

section
/-! PROOF. A peer's STATE at the inventory (O44): what the INV makes of it, which the table change that follows leaves; and how a
counter of a peer is measured. -/

namespace Sys2Proof.Machine

variable {s : State}

/-! ### A peer's counters (R151, R152) -/

theorem counterMovement_of_advance {new last : Word} (h : (new - last).toNat ≤ 2147483647) :
    counterMovement false new last = (new - last).toNat := by
  rw [counterMovement, if_neg nofun, if_pos (by omega)]

theorem counterMovement_of_restart {new last : Word} (h : 2147483648 ≤ (new - last).toNat) :
    counterMovement false new last = 0 := by
  rw [counterMovement, if_neg nofun, if_neg (by omega)]

/-! ### What the INV makes of a peer's STATE (R148, R152 to R154, R157) -/

theorem adopts_iff (a : Announced) (v : Inv) :
    adopts a v = true ↔ pairGreater a.epoch a.origin v.epoch v.origin = true ∧ 1 ≤ a.origin ∧ a.origin ≤ 16 := by
  rw [adopts, Bool.and_eq_true, decide_eq_true_eq]

section Heard

variable (first : Bool) (new last : Announced) (s : State)

theorem invPeerState_of_adopts (h : adopts new s.inv = true) :
    invPeerState first new last s
      = raiseEvent .epochAdopted (invArrive (fun v => (v.shift (netMovement first new last)).adopt new) s) := if_pos h

theorem invPeerState_of_counters (h : ¬ adopts new s.inv = true) :
    invPeerState first new last s = invArrive (fun v => v.shift (netMovement first new last)) s := if_neg h

/-- L afresh and the low test, whether the pair was adopted or not. -/
theorem invPeerState_levels :
    (invPeerState first new last s).inv.level = levelOf s.settings.area (invPeerState first new last s).inv.mass
      ∧ (invPeerState first new last s).inv.low
        = decide ((invPeerState first new last s).inv.level < s.settings.minLevel)
      ∧ (s.inv.low = false → (invPeerState first new last s).inv.low = true →
        (invPeerState first new last s).pendingEvent .lowZinc = true) := by
  by_cases h : adopts new s.inv = true
  · let f : Inv → Inv := fun v => (v.shift (netMovement first new last)).adopt new
    have hraised : ∀ u : State, (raiseEvent .epochAdopted u).inv = u.inv := fun _ => rfl
    rw [invPeerState_of_adopts first new last s h, hraised, raiseEvent_pendingEvent_of_apart _ (by decide)]
    exact ⟨invArrive_level f s, invArrive_low f s, fun hwas => invArrive_lowZinc (f := f) hwas⟩
  · let f : Inv → Inv := fun v => v.shift (netMovement first new last)
    rw [invPeerState_of_counters first new last s h]
    exact ⟨invArrive_level f s, invArrive_low f s, fun hwas => invArrive_lowZinc (f := f) hwas⟩

/-- The adoption of a greater pair, with its event and the STATE request (R154). -/
theorem invPeerState_adopted (honline : s.online = true) (h : adopts new s.inv = true) :
    (invPeerState first new last s).inv.epoch = new.epoch ∧ (invPeerState first new last s).inv.origin = new.origin
      ∧ (invPeerState first new last s).inv.mass = min 8000000 new.inventory
      ∧ (invPeerState first new last s).pendingEvent .epochAdopted = true ∧ (invPeerState first new last s).requested := by
  let f : Inv → Inv := fun v => (v.shift (netMovement first new last)).adopt new
  have hdiffers : (f s.inv).announcedDiffers s.inv = true := by
    have hgreater := (pairGreater_iff _ _ _ _).mp ((adopts_iff new s.inv).mp h).1
    refine decide_eq_true ?_
    by_cases hepoch : new.epoch = s.inv.epoch
    · exact .inr (.inl (show new.origin ≠ s.inv.origin by omega))
    · exact .inl hepoch
  rw [invPeerState_of_adopts first new last s h]
  exact ⟨invArrive_epoch f s, invArrive_origin f s, invArrive_mass f s, raiseEvent_pendingEvent _ _,
    requested_of_kli (s := invArrive f s) rfl (invArrive_requested honline hdiffers)⟩

/-- Without an adoption the counters move M alone, within its range, and no event tells of a pair (R148, R152). -/
theorem invPeerState_counted (h : ¬ adopts new s.inv = true) :
    (invPeerState first new last s).inv.epoch = s.inv.epoch ∧ (invPeerState first new last s).inv.origin = s.inv.origin
      ∧ ((invPeerState first new last s).inv.mass : Int)
        = max 0 (min 8000000 ((s.inv.mass : Int) + netMovement first new last))
      ∧ (invPeerState first new last s).pendingEvent .epochAdopted = s.pendingEvent .epochAdopted := by
  let f : Inv → Inv := fun v => v.shift (netMovement first new last)
  have hmass : ((f s.inv).mass : Int) = max 0 (min 8000000 ((s.inv.mass : Int) + netMovement first new last)) := by
    show ((min ((8000000 : Nat) : Int) _).toNat : Int) = _
    omega
  rw [invPeerState_of_counters first new last s h]
  refine ⟨invArrive_epoch f s, invArrive_origin f s, ?_, invArrive_pendingEvent s (by decide) (by decide) f⟩
  rw [invArrive_mass]
  exact hmass

/-- Without a reservation the report of L leaves the dip, and there is none after it (R178). -/
theorem invPeerState_of_none (hr : s.adm.resv = .none) :
    (invPeerState first new last s).dcc = s.dcc ∧ (invPeerState first new last s).adm.resv = .none := by
  have harrive : ∀ f, (invArrive f s).dcc = s.dcc ∧ (invArrive f s).adm.resv = .none := fun f =>
    ⟨invArrive_dcc_of_none f hr, (congrArg Course.resv (invArrive_course_of_none f s hr)).trans hr⟩
  unfold invPeerState
  split
  · simpa using harrive _
  · exact harrive _

end Heard

/-! ### The STATE stored (R136) -/

/-- PEER_NEW and the pins are all that follows the report of a STATE stored (R136, R137). -/
theorem storeState_settled (i : StationIx) (a : Announced) (s : State) :
    ∃ t, settle (storeState i a s) = .next t ∧ t.inv = (s.heardFrom i a).inv ∧ t.kli = (s.heardFrom i a).kli
      ∧ t.acu = (s.heardFrom i a).acu ∧ t.wgu = (s.heardFrom i a).wgu ∧ t.dcc = (s.heardFrom i a).dcc
      ∧ t.zcu = (s.heardFrom i a).zcu ∧ t.sgx = (s.heardFrom i a).sgx
      ∧ ∀ e, Event.peerNew.bit &&& e.bit = 0 → t.pendingEvent e = (s.heardFrom i a).pendingEvent e := by
  rw [storeState_eq]
  generalize s.heardFrom i a = u
  split
  · exact ⟨_, rfl, rfl, rfl, rfl, rfl, rfl, rfl, rfl, fun e he => raiseEvent_pendingEvent_of_apart u he⟩
  · exact ⟨_, rfl, rfl, rfl, rfl, rfl, rfl, rfl, rfl, fun _ _ => rfl⟩

/-- Settles O44: the INV's own part by `invPeerState_adopted`, `invPeerState_counted` and `invPeerState_levels`; the table change that
follows leaves it (`tableChange_besideInv`, `tableChange_besideLog`). -/
theorem peerStateMovesTheInventory : Obligations.PeerStateMovesTheInventory := by
  refine ⟨fun s i a bytes hwf hhunting hsilent honline hi hcheck => ?heard, fun _ _ => rfl,
    fun _ _ => counterMovement_of_advance, fun _ _ => counterMovement_of_restart, fun _ _ _ => rfl, by decide, by decide⟩
  case heard =>
    let first := decide ((s.peers.get i).presence = .absent)
    let last := (s.peers.get i).heard
    let v := s.setPeer i ((s.peers.get i).store s.settings.zoneCount s.sck a)
    let g := invPeerState first a last v
    have hg : SgxWf g := sgxWf_congr (by simp [g, v]) (by simp [g, v]) hwf
    have hbeside : BesideInv g (s.heardFrom i a) := tableChange_besideInv (some i) hg
    have hlog : BesideLog g (s.heardFrom i a) := tableChange_besideLog (some i) hg
    obtain ⟨hacu, hwgu, hzcu, hsgx⟩ : g.acu = s.acu ∧ g.wgu = s.wgu ∧ g.zcu = s.zcu ∧ g.sgx = s.sgx := by simp [g, v]
    have hexec : exec (.noticeEnd bytes false) s = settle (storeState i a s) := by
      rw [exec_noticeEnd, endNotice_of_silent hhunting hsilent, receiveNotice_of_state honline hi hcheck,
        settle_eq_drivePins]
    obtain ⟨t, ht, htinv, htkli, htacu, htwgu, htdcc, htzcu, htsgx, htevent⟩ := storeState_settled i a s
    have hinv : t.inv = g.inv := htinv.trans hbeside.inv
    have hadopted : t.pendingEvent .epochAdopted = g.pendingEvent .epochAdopted :=
      (htevent _ (by decide)).trans (hbeside.event _ (by decide) (by decide))
    have hlowZinc : t.pendingEvent .lowZinc = g.pendingEvent .lowZinc :=
      (htevent _ (by decide)).trans (hbeside.event _ (by decide) (by decide))
    obtain ⟨hlevel, hlow, hraised⟩ := invPeerState_levels first a last v
    obtain ⟨hdrawn, hadded, hremoved⟩ := invPeerState_counters first a last v
    refine ⟨t, hexec.trans ht, ?_⟩
    rw [hinv, hadopted, hlowZinc, htacu, htwgu, htdcc, htzcu, htsgx]
    refine ⟨fun h => ?adopted, fun h => ?counted, hlevel, hlow, hraised, hdrawn, hadded, hremoved, hlog.acu.trans hacu,
      hlog.wgu.trans hwgu, fun _ hc hr => ?none⟩
    case adopted =>
      obtain ⟨hepoch, horigin, hmass, hevent, hrequest⟩ :=
        invPeerState_adopted first a last v honline ((adopts_iff a v.inv).mpr h)
      exact ⟨hepoch, horigin, hmass, hevent, requested_of_kli htkli (hlog.request hrequest)⟩
    case counted => exact invPeerState_counted first a last v (mt (adopts_iff a v.inv).mp h)
    case none =>
      obtain ⟨hdcc, hresv⟩ := invPeerState_of_none first a last v hr
      obtain ⟨hd, hz, hx⟩ := tableChange_of_none (s := g) (some i) ((congrArg Zcu.claim hzcu).trans hc) hresv
      exact ⟨hd.trans hdcc, hz.trans hzcu, hx.trans hsgx⟩

end Sys2Proof.Machine
end

section
/-! PROOF. The blocking test and the admission test (O50): each as the cases of its rule, and the committed sum within the admission
sum. -/

namespace Sys2Proof.Machine

variable {s : State}

/-- LINE_LOST holds while it has a cause (R128). -/
theorem lineLost_iff (s : State) : s.lineLost = true ↔ s.kli.lineLost ≠ .none := decide_eq_true_iff

/-! ### The blocking test (R162) -/

/-- Two masks overlap where one zone is in both (R159). -/
theorem overlaps_iff_exists_zone (a b : Mask) :
    overlaps a b = true ↔ ∃ z : Nat, z < 16 ∧ (a.getLsbD z && b.getLsbD z) = true := by
  rw [overlaps_iff]
  constructor
  · intro hne
    by_contra hapart
    refine hne (BitVec.eq_of_getLsbD_eq fun z hz => ?_)
    rw [BitVec.getLsbD_and]
    exact (Bool.eq_false_iff.mpr fun hshared => hapart ⟨z, hz, hshared⟩).trans BitVec.getLsbD_zero.symm
  · rintro ⟨z, -, hshared⟩ hzero
    rw [← BitVec.getLsbD_and, hzero] at hshared
    exact Bool.false_ne_true (BitVec.getLsbD_zero.symm.trans hshared)

theorem blocksClaim_iff (m : Mask) (e : PeerEntry) :
    blocksClaim m e = true ↔ e.presence ≠ .absent ∧ e.heard.claim ≠ .none
      ∧ ∃ z : Nat, z < 16 ∧ (e.heard.mask.getLsbD z && m.getLsbD z) = true := by
  simp only [blocksClaim, Bool.and_eq_true, decide_eq_true_eq, overlaps_iff_exists_zone, and_assoc]

theorem exists_other_blocks_iff (s : State) :
    (s.others.any fun p => blocksClaim s.footprint p.2) = true ↔
      ∃ i : StationIx, i ≠ s.own ∧ blocksClaim s.footprint (s.peers.get i) = true := by
  simp only [List.any_eq_true, mem_others]
  constructor
  · rintro ⟨p, ⟨hother, hentry⟩, hblocks⟩
    exact ⟨p.1, hother, hentry ▸ hblocks⟩
  · rintro ⟨i, hother, hblocks⟩
    exact ⟨(i, s.peers.get i), ⟨hother, rfl⟩, hblocks⟩

theorem claimBlocked_of_lineLost (h : s.kli.lineLost ≠ .none) : s.claimBlocked = some .line :=
  if_pos ((lineLost_iff s).mpr h)

theorem claimBlocked_of_line_clear (h : s.kli.lineLost = .none) :
    s.claimBlocked = if s.others.any (fun p => blocksClaim s.footprint p.2) then some .zone else none :=
  if_neg fun hlost => (lineLost_iff s).mp hlost h

theorem claimBlocked_zone_iff (h : s.kli.lineLost = .none) :
    s.claimBlocked = some .zone ↔
      ∃ i : StationIx, i ≠ s.own ∧ blocksClaim s.footprint (s.peers.get i) = true := by
  rw [claimBlocked_of_line_clear h, ← exists_other_blocks_iff, Option.ite_none_right_eq_some, and_iff_left rfl]

theorem claimBlocked_cases (h : s.kli.lineLost = .none) : s.claimBlocked = none ∨ s.claimBlocked = some .zone := by
  rw [claimBlocked_of_line_clear h]
  split
  · exact .inr rfl
  · exact .inl rfl

/-! ### The admission test and its sums (R16, R17, R174) -/

theorem admissionTest_first_case (s : State) : s.admissionTest =
    if s.kli.lineLost ≠ .none then some .line
    else if s.inv.level < s.settings.minLevel then some .lowZinc
    else if s.settings.overflowLimit < s.inv.level + s.reservedByOthers + s.adm.full then some .level
    else if s.adm.gateClosed = true then some .conflict
    else none :=
  if_congr (lineLost_iff s) rfl (if_congr decide_eq_true_iff rfl rfl)

theorem committedSum_le_admissionSum (s : State) : s.committedSum ≤ s.admissionSum :=
  Nat.add_le_add_right (Nat.add_le_add_left (committedByOthers_le s) _) _

theorem committedFits_of_admissionSum (h : s.admissionSum ≤ s.settings.overflowLimit) : s.committedFits = true :=
  decide_eq_true ((committedSum_le_admissionSum s).trans h)

/-- Settles O50: the blocking test by `claimBlocked_zone_iff` and `blocksClaim_iff`, the admission test by
`admissionTest_first_case`, the sums by `committedByOthers_le`. -/
theorem blockingAndAdmissionTests : Obligations.BlockingAndAdmissionTests := by
  refine ⟨fun s => ⟨claimBlocked_of_lineLost, fun hline => ?zone, claimBlocked_cases⟩, admissionTest_first_case,
    fun s => ⟨committedByOthers_le s, committedFits_of_admissionSum⟩⟩
  case zone => simp only [claimBlocked_zone_iff hline, blocksClaim_iff]

end Sys2Proof.Machine
end

section
/-! PROOF. Frame decoding and encoding (O3): the listed and the unlisted codes of Table 12.1, and what a code decodes to. -/

namespace Sys2Proof.Machine

variable {code : Byte} {tail : List Byte} {s : State}

/-! ### Codes (R185, R187, Table 12.1) -/

theorem unlistedCode_iff : unlistedCode code = true ↔ 18 < code.toNat := by
  have hzero : code = 0 ↔ code.toNat = 0 := BitVec.toNat_inj.symm
  simp only [unlistedCode, listedCode, Bool.and_eq_true, Bool.not_eq_true', decide_eq_true_eq, decide_eq_false_iff_not, ne_eq,
    hzero]
  omega

theorem listedCode_cases (h : listedCode code = true) :
    code = 0x01 ∨ code = 0x02 ∨ code = 0x03 ∨ code = 0x04 ∨ code = 0x05 ∨ code = 0x06 ∨ code = 0x07 ∨ code = 0x08
      ∨ code = 0x09 ∨ code = 0x0A ∨ code = 0x0B ∨ code = 0x0C ∨ code = 0x0D ∨ code = 0x0E ∨ code = 0x0F ∨ code = 0x10
      ∨ code = 0x11 ∨ code = 0x12 := by
  revert code
  decide

theorem unlisted_of_not_listed (h0 : code ≠ 0) (h : listedCode code = false) : unlistedCode code = true := by
  simp only [unlistedCode, h, Bool.not_false, Bool.and_true]
  exact decide_eq_true h0

theorem listed_or_unlisted (h0 : code ≠ 0) : listedCode code = true ∨ unlistedCode code = true := by
  cases h : listedCode code
  · exact .inr (unlisted_of_not_listed h0 h)
  · exact .inl rfl

theorem decodeCode_of_unlisted (h : unlistedCode code = true) (tail : List Byte) :
    decodeCode code tail = .unknownCommand code tail := by
  have hcode := unlistedCode_iff.mp h
  unfold decodeCode
  split
  case h_20 => rfl
  all_goals omega

/-- A frame other than the idle frame decodes to a well-formed command, and its bytes are those that the command is encoded as. -/
theorem decodeCode_sound (h0 : code ≠ 0) (tail : List Byte) :
    (decodeCode code tail).wellFormed = true ∧ encodeFrame (decodeCode code tail) = some (code :: tail) := by
  rcases listed_or_unlisted h0 with h | h
  · rcases listedCode_cases h with rfl | rfl | rfl | rfl | rfl | rfl | rfl | rfl | rfl | rfl | rfl | rfl | rfl | rfl | rfl
      | rfl | rfl | rfl <;> exact ⟨rfl, rfl⟩
  · rw [decodeCode_of_unlisted h]
    exact ⟨h, rfl⟩

/-- Settles O3: a frame decoded by its code (`decodeCode_sound`), an UNKNOWN_COMMAND encoded by its unlisted code. -/
theorem frameDecodingInvertsEncoding : Obligations.FrameDecodingInvertsEncoding := by
  refine ⟨fun i bytes hwf hbytes => ?decodes, fun i bytes hi => ?wellFormed, fun _ tail h0 => (decodeCode_sound h0 tail).2,
    rfl⟩
  case decodes =>
    cases i with
    | unknownCommand code tail =>
      cases hbytes
      exact congrArg some (decodeCode_of_unlisted hwf tail)
    | _ => cases hbytes <;> rfl
  case wellFormed =>
    cases bytes with
    | nil => cases hi
    | cons code tail =>
      cases hi
      by_cases h0 : code = 0
      · subst h0
        rfl
      · exact (decodeCode_sound h0 tail).1

end Sys2Proof.Machine
end

section
/-! PROOF. The answering of frames (O5, O6): one row per listed code says how its frame is answered, and what the statements about
frames ask is read off from the row. -/

namespace Sys2Proof.Machine

variable {code : Byte} {tail : List Byte} {s : State}

/-! ### The answers of a frame's own rule (R185, R186, R191) -/

/-- How the rule of a frame answers from a state: it refuses, it accepts, it reports without an effect (GET_STATUS), or, for
LOAD_END, it holds BUSY while its validation runs. -/
inductive RuleAnswer (code : Byte) (s : State) : Host.Outcome State Fault Refusal → Prop
  | refuses (r : ResultCode) : RuleAnswer code s (refuse r s)
  | accepts (data : List Byte) (u : State) : RuleAnswer code s (accept data u)
  | reports (data : List Byte) : RuleAnswer code s (.next (respond .ok data s))
  | holds (hcode : code = 0x03) (u : State) : RuleAnswer code s (settle (respond .busy [] u))

theorem RuleAnswer.ite {o o' : Host.Outcome State Fault Refusal} {p : Prop} [Decidable p] (h : RuleAnswer code s o)
    (h' : RuleAnswer code s o') : RuleAnswer code s (if p then o else o') := by
  split
  · exact h
  · exact h'

theorem RuleAnswer.completes {o : Host.Outcome State Fault Refusal} (h : RuleAnswer code s o) : ∃ t, o = .next t := by
  cases h <;> exact ⟨_, rfl⟩

/-- Of the answers but LOAD_END's only a refusal has a result other than OK. -/
theorem RuleAnswer.refused {o : Host.Outcome State Fault Refusal} {t : State} (h : RuleAnswer code s o) (hcode : code ≠ 0x03)
    (ho : o = .next t) (hok : t.cpt.response.code ≠ .ok) : t = refusedWith t.cpt.response.code s := by
  cases h with
  | refuses r => cases ho; rfl
  | accepts data u => cases ho; exact absurd rfl hok
  | reports data => cases ho; exact absurd rfl hok
  | holds h u => exact absurd h hcode

/-! ### The rows of Table 12.1 -/

/-- How a frame is answered (R186): held off by a validation, but for GET_STATUS, and otherwise taken or refused by the mode and
answered by its rule. -/
structure FrameRule (code : Byte) (tail : List Byte) (s : State) (taken : Taken)
    (rule : List Byte → Host.Outcome State Fault Refusal) : Prop where
  exec_eq : exec (decodeCode code tail) s
    = if s.cpt.validating = true ∧ code ≠ 0x04 then refuse .busy s else answerFrame taken tail s rule
  answers : ∀ args, RuleAnswer code s (rule args)

/-- A row of Table 12.1: its modes, and BAD_ARG for another argument length (R187), but for a DIP while a RESTART is pending
(log 16). -/
structure TableRow (code : Byte) (tail : List Byte) (s : State) (taken : Taken)
    (rule : List Byte → Host.Outcome State Fault Refusal) : Prop extends FrameRule code tail s taken rule where
  inMode : ∀ m, taken.inMode m = takenIn (decodeCode code tail) m
  badArg : ∀ args, code ≠ 0x05 ∨ s.cpt.restartPending = false →
    lengthTaken (decodeCode code tail) args.length = false → rule args = refuse .badArg s

section Rule

variable {taken : Taken} {rule : List Byte → Host.Outcome State Fault Refusal}

theorem FrameRule.exec_busy (h : FrameRule code tail s taken rule) (hv : s.cpt.validating = true) (hcode : code ≠ 0x04) :
    exec (decodeCode code tail) s = .next (refusedWith .busy s) :=
  h.exec_eq.trans (if_pos ⟨hv, hcode⟩)

theorem FrameRule.exec_open (h : FrameRule code tail s taken rule) (hv : s.cpt.validating = false ∨ code = 0x04) :
    exec (decodeCode code tail) s = answerFrame taken tail s rule :=
  h.exec_eq.trans (if_neg fun ⟨hbusy, hcode⟩ => hv.elim (fun hfree => Bool.false_ne_true (hfree.symm.trans hbusy)) hcode)

/-- The frame as a whole answers as its rule may. -/
theorem FrameRule.answer (h : FrameRule code tail s taken rule) : RuleAnswer code s (exec (decodeCode code tail) s) := by
  rw [h.exec_eq, answerFrame]
  refine .ite (.refuses _) ?_
  split
  · exact .refuses _
  · exact .ite (h.answers _) (.refuses _)

theorem answerFrame_of_none (ha : frameArgs tail = none) : answerFrame taken tail s rule = .next (refusedWith .badFrame s) := by
  simp only [answerFrame, ha, refuse_eq_refusedWith]

theorem answerFrame_of_some {args : List Byte} (ha : frameArgs tail = some args) :
    answerFrame taken tail s rule = if taken.inMode s.cpt.mode then rule args else .next (refusedWith .mode s) := by
  simp only [answerFrame, ha, refuse_eq_refusedWith]

end Rule

theorem listenReady_inMode_eq (m : Mode) : Taken.inMode .listenReady m = decide (m = .listen ∨ m = .ready) := by
  cases m <;> rfl

theorem takeFrame_eq_ite (hcode : code ≠ 0x04) (taken : Taken) (rule : List Byte → Host.Outcome State Fault Refusal) :
    takeFrame taken tail s rule
      = if s.cpt.validating = true ∧ code ≠ 0x04 then refuse .busy s else answerFrame taken tail s rule :=
  if_congr (and_iff_left hcode).symm rfl rfl

/-- A row whose rule has its own check of the length. -/
theorem TableRow.of_takeFrame {taken : Taken} {rule : List Byte → Host.Outcome State Fault Refusal}
    (hexec : exec (decodeCode code tail) s = takeFrame taken tail s rule) (hcode : code ≠ 0x04)
    (hmode : ∀ m, taken.inMode m = takenIn (decodeCode code tail) m)
    (hbad : ∀ args, code ≠ 0x05 ∨ s.cpt.restartPending = false → lengthTaken (decodeCode code tail) args.length = false →
      rule args = refuse .badArg s) (hrule : ∀ args, RuleAnswer code s (rule args)) : TableRow code tail s taken rule where
  exec_eq := hexec.trans (takeFrame_eq_ite hcode _ _)
  inMode := hmode
  badArg := hbad
  answers := hrule

/-- A row whose rule begins with the check of a fixed argument length (R187). -/
theorem TableRow.of_withArgs {taken : Taken} {n : Nat} {rule : List Byte → Host.Outcome State Fault Refusal}
    (hexec : exec (decodeCode code tail) s = takeFrame taken tail s fun args => withArgs n args s (rule args))
    (hcode : code ≠ 0x04) (hmode : ∀ m, taken.inMode m = takenIn (decodeCode code tail) m)
    (hlen : ∀ k, lengthTaken (decodeCode code tail) k = decide (k = n)) (hrule : ∀ args, RuleAnswer code s (rule args)) :
    TableRow code tail s taken fun args => withArgs n args s (rule args) :=
  .of_takeFrame hexec hcode hmode (fun _ _ hl => if_neg (of_decide_eq_false ((hlen _).symm.trans hl)))
    fun args => .ite (hrule args) (.refuses .badArg)

theorem dipRefusal_of_length {args : List Byte} (h : args.length ≠ 13) (s : State) : dipRefusal args s = some .badArg :=
  if_pos (.inl h)

/-- Every listed code has its row. -/
theorem exists_tableRow (h : listedCode code = true) (tail : List Byte) (s : State) :
    ∃ taken rule, TableRow code tail s taken rule := by
  rcases listedCode_cases h with rfl | rfl | rfl | rfl | rfl | rfl | rfl | rfl | rfl | rfl | rfl | rfl | rfl | rfl | rfl
    | rfl | rfl | rfl
  · exact ⟨_, _, .of_withArgs (show execLoadBegin tail s = _ from rfl) (by decide) bootLoading_inMode (fun _ => rfl) fun _ =>
      .ite (.accepts _ _) (.refuses _)⟩
  · exact ⟨_, _, .of_takeFrame (show execLoadData tail s = _ from rfl) (by decide) loading_inMode
      (fun _ _ hl => if_neg (of_decide_eq_false hl)) fun _ => .ite (.accepts _ _) (.refuses _)⟩
  · exact ⟨_, _, .of_withArgs (show execLoadEnd tail s = _ from rfl) (by decide) loading_inMode (fun _ => rfl) fun _ =>
      .holds rfl _⟩
  · exact ⟨.always, fun args => withArgs 0 args s (.next (respond .ok (statusBytes s) s)),
      { exec_eq := (if_neg fun h => h.2 rfl).symm
        inMode := always_inMode
        badArg := fun _ _ hl => if_neg (of_decide_eq_false hl)
        answers := fun _ => .ite (.reports _) (.refuses _) }⟩
  · refine ⟨_, _, .of_takeFrame (show execDip tail s = _ from rfl) (by decide) listenReady_inMode_eq
      (fun args hrestart hl => ?_) fun _ => .ite (.refuses _) ?_⟩
    · have hfree : ¬ s.cpt.restartPending = true := by simpa using hrestart
      rw [if_neg hfree, dipRefusal_of_length (of_decide_eq_false hl)]
    · split
      exacts [.refuses _, .accepts _ _]
  · exact ⟨_, _, .of_withArgs (show execCancelJob tail s = _ from rfl) (by decide) listenReady_inMode_eq (fun _ => rfl) fun _ =>
      .ite (.accepts _ _) (.ite (.refuses _) (.refuses _))⟩
  · refine ⟨_, _, .of_withArgs (show execAbortDip tail s = _ from rfl) (by decide) listenReady_inMode_eq (fun _ => rfl)
      fun _ => ?_⟩
    split
    exacts [.refuses _, .ite (.refuses _) (.ite (.refuses _) (.ite (.refuses _) (.accepts _ _)))]
  · exact ⟨_, _, .of_withArgs (show execRecover tail s = _ from rfl) (by decide) listenReady_inMode_eq (fun _ => rfl) fun _ =>
      .ite (.refuses _) (.ite (.refuses _) (.ite (.refuses _) (.accepts _ _)))⟩
  · exact ⟨_, _, .of_withArgs (show execSetLevel tail s = _ from rfl) (by decide) listenReady_inMode_eq (fun _ => rfl) fun _ =>
      .ite (.refuses _) (.accepts _ _)⟩
  · exact ⟨_, _, .of_withArgs (show execAddZinc tail s = _ from rfl) (by decide) listenReady_inMode_eq (fun _ => rfl) fun _ =>
      .ite (.accepts _ _) (.refuses _)⟩
  · exact ⟨_, _, .of_withArgs (show execRemoveDross tail s = _ from rfl) (by decide) listenReady_inMode_eq (fun _ => rfl) fun _ =>
      .ite (.accepts _ _) (.refuses _)⟩
  · refine ⟨_, _, .of_withArgs (show execReadRecord tail s = _ from rfl) (by decide) listenReady_inMode_eq (fun _ => rfl)
      fun _ => ?_⟩
    repeat' split
    exacts [.refuses _, .accepts _ _]
  · refine ⟨_, _, .of_withArgs (show execPeekRecord tail s = _ from rfl) (by decide) listenReady_inMode_eq (fun _ => rfl)
      fun _ => ?_⟩
    repeat' split
    exacts [.refuses _, .accepts _ _]
  · refine ⟨_, _, .of_withArgs (show execReadPeer tail s = _ from rfl) (by decide) listenReady_inMode_eq (fun _ => rfl)
      fun _ => ?_⟩
    repeat' split
    exacts [.refuses _, .accepts _ _]
  · refine ⟨_, _, .of_withArgs (show execForgetPeer tail s = _ from rfl) (by decide) listenReady_inMode_eq (fun _ => rfl)
      fun _ => ?_⟩
    repeat' split
    exacts [.refuses _, .refuses _, .refuses _, .accepts _ _]
  · exact ⟨_, _, .of_withArgs (show execSetEventEnable tail s = _ from rfl) (by decide) always_inMode (fun _ => rfl) fun _ =>
      .accepts _ _⟩
  · exact ⟨_, _, .of_withArgs (show execClearEvents tail s = _ from rfl) (by decide) always_inMode (fun _ => rfl) fun _ =>
      .accepts _ _⟩
  · exact ⟨_, _, .of_withArgs (show execRestart tail s = _ from rfl) (by decide) ready_inMode (fun _ => rfl) fun _ =>
      .ite (.refuses _) (.ite (.accepts _ _) (.refuses _))⟩

/-- A frame of an unlisted code is held off by a validation and, where it is whole, refused with BAD_CMD in every mode (R186). -/
theorem exec_unknownCommand (h : unlistedCode code = true) (tail : List Byte) (s : State) :
    exec (.unknownCommand code tail) s = takeFrame .always tail s fun _ => refuse .badCmd s := by
  show execUnknownCommand code tail s = _
  unfold execUnknownCommand takeFrame answerFrame
  rw [if_pos h]
  cases frameArgs tail with
  | none => rfl
  | some args => simp only [always_inMode, if_true]

theorem unlisted_frameRule (h : unlistedCode code = true) (tail : List Byte) (s : State) :
    FrameRule code tail s .always fun _ => refuse .badCmd s where
  exec_eq := by
    have hcode : code ≠ 0x04 := fun h4 => absurd h (by rw [h4]; decide)
    rw [decodeCode_of_unlisted h, exec_unknownCommand h, takeFrame_eq_ite hcode]
  answers _ := .refuses .badCmd

theorem exists_frameRule (h0 : code ≠ 0) (tail : List Byte) (s : State) : ∃ taken rule, FrameRule code tail s taken rule := by
  rcases listed_or_unlisted h0 with h | h
  · obtain ⟨taken, rule, hrow⟩ := exists_tableRow h tail s
    exact ⟨taken, rule, hrow.toFrameRule⟩
  · exact ⟨_, _, unlisted_frameRule h tail s⟩

theorem frame_answers (h0 : code ≠ 0) (tail : List Byte) (s : State) : RuleAnswer code s (exec (decodeCode code tail) s) := by
  obtain ⟨taken, rule, hrule⟩ := exists_frameRule h0 tail s
  exact hrule.answer

/-- Settles O5: BUSY and BAD_FRAME for every frame, BAD_CMD by the rule of an unlisted code, MODE and BAD_ARG by the row of a listed
one. -/
theorem framesAreAnsweredInOrder : Obligations.FramesAreAnsweredInOrder := by
  intro code tail s h0
  obtain ⟨taken, rule, hframe⟩ := exists_frameRule h0 tail s
  refine ⟨hframe.exec_busy, fun hv ha => ?badFrame, fun hv ha hlisted => ?badCmd, fun hv ha hlisted hmode => ?mode,
    fun args hv ha hlisted hmode hrestart hlen => ?badArg⟩
  case badFrame => rw [hframe.exec_open hv, answerFrame_of_none ha]
  case badCmd =>
    obtain ⟨args, ha⟩ := Option.ne_none_iff_exists'.mp ha
    have hrule := unlisted_frameRule (unlisted_of_not_listed h0 hlisted) tail s
    rw [hrule.exec_open (.inl hv), answerFrame_of_some ha, if_pos (always_inMode _), refuse_eq_refusedWith]
  case mode =>
    obtain ⟨args, ha⟩ := Option.ne_none_iff_exists'.mp ha
    obtain ⟨taken, rule, hrow⟩ := exists_tableRow hlisted tail s
    rw [hrow.exec_open (.inl hv), answerFrame_of_some ha, hrow.inMode, if_neg (by simp [hmode])]
  case badArg =>
    obtain ⟨taken, rule, hrow⟩ := exists_tableRow hlisted tail s
    rw [hrow.exec_open hv, answerFrame_of_some ha, hrow.inMode, if_pos hmode, hrow.badArg args hrestart hlen,
      refuse_eq_refusedWith]

/-- Settles O6: of the answers of a frame only a refusal has a result other than OK (`RuleAnswer.refused`). -/
theorem refusalsChangeOnlyTheResponse : Obligations.RefusalsChangeOnlyTheResponse :=
  fun _ tail s _ h0 hcode h hok => (frame_answers h0 tail s).refused hcode h hok

end Sys2Proof.Machine
end

section
/-! PROOF. The step (O1), and that every well-formed command answers a next state (O2): a frame by its code, an arrival by the register
it looks in. -/

namespace Sys2Proof.Machine

/-- Settles O1: the two cases of the queue. -/
theorem stepRunsTheFrontCommand : Obligations.StepRunsTheFrontCommand := by
  refine ⟨fun s hempty => ?_, fun s c rest hfront => ?_⟩
  · simp only [step, hempty]
  · simp only [step, hfront]

/-! ### Outcomes that are a next state -/

def Completes (o : Host.Outcome State Fault Refusal) : Prop := ∃ t, o = .next t

theorem settle_completes (u : State) : Completes (settle u) := ⟨_, rfl⟩

theorem unchanged_completes (s : State) : Completes (unchanged s) := ⟨_, rfl⟩

/-- An arrival that acts under a condition, and otherwise finds nothing (log 2). -/
theorem settleIf_completes {p : Prop} [Decidable p] (s u : State) : Completes (if p then settle u else unchanged s) := by
  split
  exacts [settle_completes u, unchanged_completes s]

/-- An arrival that acts on what a register holds, and finds nothing where it holds nothing. -/
theorem elim_completes {α : Type} (x : Option α) (s : State) {f : α → Host.Outcome State Fault Refusal}
    (h : ∀ a, Completes (f a)) : Completes (x.elim (unchanged s) f) := by
  cases x with
  | none => exact unchanged_completes s
  | some a => exact h a

/-! ### Frames and arrivals -/

theorem frame_completes {c : Instr} {bytes : List Byte} (hwf : c.wellFormed = true) (hbytes : encodeFrame c = some bytes)
    (s : State) : Completes (exec c s) := by
  have hdecodes : decodeFrame bytes = some c := frameDecodingInvertsEncoding.1 c bytes hwf hbytes
  cases bytes with
  | nil => cases hdecodes
  | cons code tail =>
    cases hdecodes
    by_cases h0 : code = 0
    · subst h0
      exact unchanged_completes s
    · exact (frame_answers h0 tail s).completes

theorem arrival_completes {c : Instr} (hframe : encodeFrame c = none) (s : State) : Completes (exec c s) := by
  cases c with
  | hardwareReset | csnFallingEdge => exact ⟨_, rfl⟩
  | noticeEnd | stationClockTick => exact settle_completes _
  | loadTimerExpiry | listenTimerExpiry | restartTimerExpiry | rawSample | dwellExpiry | waitTimeout | pulseExpiry
  | transmitAttemptStart | peerAgeing => exact settleIf_completes s _
  | driveReadyEdge => rw [exec_driveReadyEdge]; exact elim_completes _ s fun _ => settle_completes _
  | driveFaultEdge => rw [exec_driveFaultEdge]; exact elim_completes _ s fun _ => settle_completes _
  | haltEdge => rw [exec_haltEdge]; exact elim_completes _ s fun _ => settle_completes _
  | triggerEdge => rw [exec_triggerEdge]; exact elim_completes _ s fun _ => settle_completes _
  | firstFilteredLevel => rw [exec_firstFilteredLevel]; exact elim_completes _ s fun _ => settle_completes _
  | motionLimitExpiry => rw [exec_motionLimitExpiry]; exact elim_completes _ s fun _ => settleIf_completes s _
  | driveLostExpiry => rw [exec_driveLostExpiry]; exact elim_completes _ s fun _ => settleIf_completes s _
  | validationEnd =>
    show Completes (execValidationEnd s)
    unfold execValidationEnd
    repeat' split
    exacts [settle_completes _, settle_completes _, unchanged_completes s]
  | jobStart =>
    show Completes (execJobStart s)
    unfold execJobStart
    split
    exacts [unchanged_completes s, settleIf_completes s _]
  | settleTimeout =>
    show Completes (execSettleTimeout s)
    unfold execSettleTimeout
    repeat' split
    exacts [unchanged_completes s, unchanged_completes s, settle_completes _, unchanged_completes s]
  | encoderRead start height parity =>
    show Completes (execEncoderRead start height parity s)
    unfold execEncoderRead
    split <;> exact settle_completes _
  | holdLimitExpiry =>
    show Completes (execHoldLimitExpiry s)
    unfold execHoldLimitExpiry
    split
    exacts [unchanged_completes s, settleIf_completes s _]
  | heartbeatTimerExpiry =>
    show Completes (execHeartbeatTimerExpiry s)
    unfold execHeartbeatTimerExpiry
    split
    exacts [unchanged_completes s, settleIf_completes s _]
  | unsentExpiry =>
    show Completes (execUnsentExpiry s)
    unfold execUnsentExpiry
    split
    exacts [unchanged_completes s, settleIf_completes s _]
  | claimWindowExpiry =>
    show Completes (execClaimWindowExpiry s)
    unfold execClaimWindowExpiry
    split
    exacts [settleIf_completes s _, unchanged_completes s]
  | admissionWindowExpiry =>
    show Completes (execAdmissionWindowExpiry s)
    unfold execAdmissionWindowExpiry
    split
    exacts [settleIf_completes s _, unchanged_completes s]
  | bitReadBackMismatch bitTime dominant =>
    show Completes (execBitReadBackMismatch bitTime dominant s)
    unfold execBitReadBackMismatch
    split
    exacts [unchanged_completes s, settleIf_completes s _]
  | _ => cases hframe

/-- No command touches the queue of waiting commands (log 3). -/
theorem exec_pending {c : Instr} {s t : State} (h : exec c s = .next t) : t.pending = s.pending := by
  by_cases hc : c = .hardwareReset
  · subst hc
    cases h
    rfl
  · exact (congrArg Named.pending (exec_scope hc h).within).trans (changedBy_pending c s.named t.named)

/-- Settles O2: frames by `frame_completes`, arrivals by `arrival_completes`; the queue by the table of O18. -/
theorem everyWellFormedCommandCompletes : Obligations.EveryWellFormedCommandCompletes := by
  intro c s hwf
  have hnext : Completes (exec c s) := by
    cases hframe : encodeFrame c with
    | none => exact arrival_completes hframe s
    | some bytes => exact frame_completes hwf hframe s
  obtain ⟨t, ht⟩ := hnext
  exact ⟨t, ht, exec_pending ht⟩

end Sys2Proof.Machine
end

section
/-! PROOF. The events, their enables and IRQ (O8): an event's bit by its place, and what that makes of a set of events. -/

namespace Sys2Proof.Machine

variable {s : State} {tail args : List Byte}

/-! ### The place of an event (R195) -/

/-- The sixteen events in the order of R195. -/
def eventOrder : List Event :=
  [.loadDone, .dipDone, .recordStored, .logFull, .holdBegin, .holdLong, .zoneConflict, .peerNew, .peerStale, .epochAdopted,
    .lowZinc, .lineLost, .lineBack, .fault, .trigger0, .trigger1]

theorem eventOrder_index (e : Event) : eventOrder[e.index]? = some e := by cases e <;> rfl

theorem mem_eventOrder (e : Event) : e ∈ eventOrder := List.mem_of_getElem? (eventOrder_index e)

theorem index_lt (e : Event) : e.index < 16 := (List.getElem?_eq_some_iff.mp (eventOrder_index e)).1

theorem index_inj {e e' : Event} (h : e.index = e'.index) : e = e' :=
  Option.some.inj ((eventOrder_index e).symm.trans (h ▸ eventOrder_index e'))

theorem exists_index {i : Nat} (hi : i < 16) : ∃ e : Event, e.index = i := by
  have hall : ∀ j : Fin 16, (eventOrder.get j).index = j.val := by decide
  exact ⟨_, hall ⟨i, hi⟩⟩

/-! ### The bit of an event in a set -/

theorem bit_getLsbD (e : Event) (i : Nat) : e.bit.getLsbD i = decide (i = e.index) := by
  have hlt := index_lt e
  rw [Event.bit, ← BitVec.twoPow_eq, BitVec.getLsbD_twoPow]
  by_cases h : i = e.index
  · simp [h, hlt]
  · simp [h, Ne.symm h]

/-- Two sets of events meet where an event is in both. -/
theorem and_ne_zero_iff_exists_event (a b : EventSet) :
    a &&& b ≠ 0 ↔ ∃ e : Event, a.getLsbD e.index = true ∧ b.getLsbD e.index = true := by
  rw [← overlaps_iff, overlaps_iff_exists_zone]
  simp only [Bool.and_eq_true]
  constructor
  · rintro ⟨i, hi, hshared⟩
    obtain ⟨e, rfl⟩ := exists_index hi
    exact ⟨e, hshared⟩
  · rintro ⟨e, hshared⟩
    exact ⟨e.index, index_lt e, hshared⟩

theorem and_bit_ne_zero_iff (x : EventSet) (e : Event) : x &&& e.bit ≠ 0 ↔ x.getLsbD e.index = true := by
  simp only [and_ne_zero_iff_exists_event, bit_getLsbD, decide_eq_true_eq]
  constructor
  · rintro ⟨e', hmem, hindex⟩
    rwa [hindex] at hmem
  · exact fun hmem => ⟨e, hmem, rfl⟩

theorem bit_and_bit_of_ne {e e' : Event} (h : e ≠ e') : e.bit &&& e'.bit = 0 := by
  by_contra hmeet
  have hbit := (and_bit_ne_zero_iff e.bit e').mp hmeet
  rw [bit_getLsbD, decide_eq_true_eq] at hbit
  exact h (index_inj hbit.symm)

theorem bit_inj {e e' : Event} (h : e.bit = e'.bit) : e = e' := by
  by_contra hne
  have hself : e.bit &&& e.bit ≠ 0 := (and_bit_ne_zero_iff e.bit e).mpr (by rw [bit_getLsbD]; exact decide_eq_true rfl)
  exact hself ((congrArg (e.bit &&& ·) h).trans (bit_and_bit_of_ne hne))

/-! ### IRQ and pending events -/

theorem drivePins_irq_iff (s : State) :
    (drivePins s).cpt.irq = true ↔ ∃ e : Event, s.cpt.events &&& e.bit ≠ 0 ∧ s.cpt.enables &&& e.bit ≠ 0 := by
  have hirq : (drivePins s).cpt.irq = true ↔ s.cpt.events &&& s.cpt.enables ≠ 0 := decide_eq_true_iff
  simp only [hirq, and_ne_zero_iff_exists_event s.cpt.events s.cpt.enables, and_bit_ne_zero_iff]

theorem raiseEvent_pendingEvent_eq (s : State) (e e' : Event) :
    (raiseEvent e s).pendingEvent e' = (s.pendingEvent e' || decide (e = e')) := by
  by_cases h : e = e'
  · subst h
    rw [raiseEvent_pendingEvent, decide_eq_true rfl, Bool.or_true]
  · rw [raiseEvent_pendingEvent_of_apart s (bit_and_bit_of_ne h), decide_eq_false h, Bool.or_false]

/-! ### SET_EVENT_ENABLE and CLEAR_EVENTS (R195) -/

/-- What the two frames share: taken in every mode, with a mask of two bytes. -/
theorem takeMask_of_open {k : List Byte → Host.Outcome State Fault Refusal} (hopen : FrameOpen s tail args) :
    takeFrame .always tail s (fun args => withArgs 2 args s (k args))
      = if args.length = 2 then k args else .next (refusedWith .badArg s) := by
  rw [takeFrame_of_open s hopen, if_pos (always_inMode _), withArgs_eq]

theorem exec_setEventEnable (hopen : FrameOpen s tail args) :
    exec (.setEventEnable tail) s
      = if args.length = 2 then accept [] (s.onCpt fun c => { c with enables := BitVec.ofNat 16 (beField args 0 2) })
        else .next (refusedWith .badArg s) := takeMask_of_open hopen

theorem exec_clearEvents (hopen : FrameOpen s tail args) :
    exec (.clearEvents tail) s
      = if args.length = 2 then
          accept [] (s.onCpt fun c => { c with events := c.events &&& ~~~ (BitVec.ofNat 16 (beField args 0 2)) })
        else .next (refusedWith .badArg s) := takeMask_of_open hopen

/-- Settles O8: the two frames by their masks, IRQ and a raised event by the places of the events' bits. -/
theorem eventsEnablesAndIrq : Obligations.EventsEnablesAndIrq := by
  refine ⟨fun s tail args hopen => ⟨fun hlen => ?mask, fun hlen => ?badArg⟩, drivePins_irq_iff, rfl, mem_eventOrder,
    fun _ _ => bit_inj, raiseEvent_pendingEvent_eq⟩
  case mask =>
    rw [exec_setEventEnable hopen, exec_clearEvents hopen, if_pos hlen, if_pos hlen, beField_all args 2 hlen]
    exact ⟨rfl, rfl⟩
  case badArg => exact ⟨(exec_setEventEnable hopen).trans (if_neg hlen), (exec_clearEvents hopen).trans (if_neg hlen)⟩

end Sys2Proof.Machine
end

section
/-! PROOF. The load (O9, O10): what LOAD_BEGIN, LOAD_DATA and LOAD_END come to where they are taken, and the ends of a load and of the
listen period. -/

namespace Sys2Proof.Machine

variable {s : State} {tail args : List Byte}

/-! ### LOAD_BEGIN, LOAD_DATA and LOAD_END (R189 to R191) -/

theorem exec_loadBegin (hopen : FrameOpen s tail args) (hmode : s.cpt.mode = .boot ∨ s.cpt.mode = .loading) :
    exec (.loadBegin tail) s
      = if args.length = 3 then
          if 64 ≤ beField args 0 2 ∧ beField args 0 2 ≤ 1600 ∧ 1 ≤ beField args 2 1 ∧ beField args 2 1 ≤ 60 then
            accept [] (beginLoad (beField args 0 2) (beField args 2 1) s)
          else .next (refusedWith .badArg s)
        else .next (refusedWith .badArg s) := by
  show execLoadBegin tail s = _
  rw [execLoadBegin, takeFrame_of_open s hopen, bootLoading_inMode, if_pos (decide_eq_true hmode), withArgs_eq]
  rfl

theorem exec_loadData (hopen : FrameOpen s tail args) (hmode : s.cpt.mode = .loading) :
    exec (.loadData tail) s
      = if 1 ≤ args.length then accept [] (s.onCpt fun c => { c with load := c.load.append args })
        else .next (refusedWith .badArg s) := by
  have hlen : (1 ≤ args.length ∧ args.length ≤ 60) ↔ 1 ≤ args.length := and_iff_left (frameArgs_length hopen.2)
  show execLoadData tail s = _
  rw [execLoadData, takeFrame_of_open s hopen, loading_inMode, if_pos (decide_eq_true hmode)]
  exact if_congr hlen rfl rfl

theorem exec_loadEnd (hopen : FrameOpen s tail args) (hmode : s.cpt.mode = .loading) :
    exec (.loadEnd tail) s
      = if args = [] then settle (respond .busy [] (s.onCpt fun c => { c with loadTimer := none, validating := true }))
        else .next (refusedWith .badArg s) := by
  show execLoadEnd tail s = _
  rw [execLoadEnd, takeFrame_of_open s hopen, loading_inMode, if_pos (decide_eq_true hmode), withArgs_eq]
  exact if_congr List.length_eq_zero_iff rfl rfl

/-- Settles O9: each of the three frames by its equation. -/
theorem loadCommandsFillTheBuffer : Obligations.LoadCommandsFillTheBuffer := by
  refine fun s tail args hopen => ⟨fun hmode hlen hmin hmax htmin htmax => ?begins, fun hmode hlen => ?data,
    fun hmode hargs => ?ends, fun hmode hbad => ?beginRefused, fun hmode hargs => ?dataRefused, fun hmode hargs => ?endRefused⟩
  case begins =>
    rw [exec_loadBegin hopen hmode, if_pos hlen, if_pos ⟨hmin, hmax, htmin, htmax⟩]
    rfl
  case data =>
    rw [exec_loadData hopen hmode, if_pos hlen]
    rfl
  case ends =>
    rw [exec_loadEnd hopen hmode, if_pos hargs]
    rfl
  case beginRefused =>
    rw [exec_loadBegin hopen hmode]
    split
    · exact if_neg (by omega)
    · rfl
  case dataRefused => rw [exec_loadData hopen hmode, if_neg (by simp [hargs])]
  case endRefused => rw [exec_loadEnd hopen hmode, if_neg hargs]

/-! ### The ends of a load and of the listen period (R188, R189, R193) -/

theorem exec_validationEnd_of_failed {r : LoadResult} (hv : s.cpt.validating = true) (hr : validateLoad s.cpt.load = some r) :
    exec .validationEnd s = settle (loadFails r s) := by
  show execValidationEnd s = _
  rw [execValidationEnd, if_pos hv, hr]

theorem exec_validationEnd_of_passed (hv : s.cpt.validating = true) (hr : validateLoad s.cpt.load = none) :
    exec .validationEnd s = settle (loadPasses (settingsOf s.cpt.load.buffer) s) := by
  show execValidationEnd s = _
  rw [execValidationEnd, if_pos hv, hr]

theorem exec_validationEnd_idle (hv : s.cpt.validating = false) : exec .validationEnd s = .next s :=
  if_neg (by simp [hv])

/-- Settles O10: the failed validation by its equation, each timer by its condition. -/
theorem loadEndsAndTimersChangeTheMode : Obligations.LoadEndsAndTimersChangeTheMode := by
  refine ⟨⟨fun s r hv hr => ?failed, fun s => exec_validationEnd_idle⟩, fun s hmode htimer => if_pos ⟨hmode, htimer⟩,
    fun s hearly => if_neg (not_and_or.mpr hearly), fun s hmode htimer => if_pos ⟨hmode, htimer⟩,
    fun s hearly => if_neg (not_and_or.mpr hearly)⟩
  case failed =>
    rw [exec_validationEnd_of_failed hv hr]
    rfl

end Sys2Proof.Machine
end

section
/-! PROOF. A validation that passes (O11): the state before the low test holds the start values, and what follows raises LOW_ZINC
at most, LOAD_DONE and the STATE request, and refreshes the surface figures. -/

namespace Sys2Proof.Machine

variable {s : State}

/-! ### The start values (R131, R134, R147, R193) -/

/-- The state at a passed validation with the start values in place, before the low test. -/
def configured (c : Settings) (s : State) : State :=
  (({ s with cfs := some c }.onCpt Cpt.listenFromLoad).onInv (Inv.load c)).setPeer c.station
    { presence := .present, heard := Announced.zero, time := s.sck, firstHeard := false }

theorem loadPasses_eq (c : Settings) (s : State) :
    loadPasses c s
      = respond .ok LoadResult.ok.bytes (raiseEvent .loadDone
          ((raiseState (refreshSurface (lowTest (configured c s)))).onWgu fun g => { g with divider := 0 })) := rfl

/-- The low test raises an event at most. -/
theorem lowTest_cpt (s : State) : ∃ events, (lowTest s).cpt = { s.cpt with events := events } := by
  unfold lowTest
  dsimp only
  split
  exacts [⟨_, rfl⟩, ⟨s.cpt.events, rfl⟩]

theorem loadPasses_cpt (c : Settings) (s : State) :
    ∃ events, (loadPasses c s).cpt
      = { s.cpt.listenFromLoad with events := events, response := { code := .ok, data := LoadResult.ok.bytes } } := by
  obtain ⟨events, hcpt⟩ := lowTest_cpt (configured c s)
  refine ⟨events ||| Event.loadDone.bit, ?_⟩
  rw [loadPasses_eq]
  simp only [respond_frame, raiseEvent_frame, onWgu_fields, raiseState_frame, refreshSurface_frame, hcpt]
  rfl

theorem loadPasses_inv (c : Settings) (s : State) :
    (loadPasses c s).inv
      = { s.inv.load c with low := isLow c.minLevel (levelOf c.area c.initialInventory) } := by
  rw [loadPasses_eq]
  simp [lowTest_inv, configured, Inv.load, State.settings]

theorem loadPasses_peers (c : Settings) (s : State) : (loadPasses c s).peers = (configured c s).peers := by
  rw [loadPasses_eq]
  simp

/-- What the start values and the reports leave alone. -/
theorem loadPasses_keeps (c : Settings) (s : State) :
    (loadPasses c s).cfs = some c ∧ (loadPasses c s).sck = s.sck ∧ (loadPasses c s).zcu = s.zcu ∧ (loadPasses c s).dcc = s.dcc
      ∧ (loadPasses c s).sgx = s.sgx ∧ (loadPasses c s).acu = s.acu ∧ (loadPasses c s).wgu = { s.wgu with divider := 0 } := by
  rw [loadPasses_eq]
  simp [configured]

theorem loadPasses_requested (c : Settings) (s : State) : (loadPasses c s).requested := by
  have honline : (refreshSurface (lowTest (configured c s))).online = true := by
    obtain ⟨events, hcpt⟩ := lowTest_cpt (configured c s)
    have hmode : (refreshSurface (lowTest (configured c s))).cpt.mode = .listen := congrArg Cpt.mode hcpt
    exact decide_eq_true (.inl hmode)
  exact requested_of_kli (s := raiseState (refreshSurface (lowTest (configured c s)))) rfl (raiseState_requested honline)

theorem loadPasses_pendingEvent (c : Settings) (s : State) : (loadPasses c s).pendingEvent .loadDone = true :=
  raiseEvent_pendingEvent _ .loadDone

theorem loadPasses_surfaceWf (c : Settings) (s : State) : SurfaceWf (loadPasses c s) := by
  obtain ⟨u, -, -, -, hfigures⟩ := loadPasses_figures c s
  exact (refreshSurface_surfaceWf u).congr hfigures

/-! ### The validation (R191, R192) -/

/-- A validation that passes has passed each of its checks. -/
theorem validateLoad_checks {l : Load} (h : validateLoad l = none) :
    l.overflow = false ∧ l.received = l.declared ∧ beField l.buffer 0 2 = 1
      ∧ (crc32 (l.buffer.take (l.declared - 4))).toNat = beField l.buffer (l.declared - 4) 4
      ∧ recipeCheck (rawRecipes l.buffer) = none := by
  unfold validateLoad at h
  repeat' split at h
  case isTrue | isTrue | isTrue | h_1 => cases h
  case h_2 hlength hcrc hversion _ _ =>
    obtain ⟨hoverflow, hreceived⟩ := not_or.mp hlength
    exact ⟨Bool.eq_false_iff.mpr hoverflow, not_not.mp hreceived, not_not.mp hversion, not_not.mp hcrc, h⟩

/-- Settles O11: the blocks of `loadPasses` one by one, with the surface by `refreshSurface_surfaceWf`; the checks by
`settingsOk_of_validated` and `validateLoad_checks`. -/
theorem passedValidationEntersListen : Obligations.PassedValidationEntersListen := by
  refine ⟨fun s hv hvalid => ?_, fun l hvalid => ⟨settingsOk_of_validated hvalid, validateLoad_checks hvalid⟩⟩
  rw [exec_validationEnd_of_passed hv hvalid]
  generalize settingsOf s.cpt.load.buffer = c
  obtain ⟨events, hcpt⟩ := loadPasses_cpt c s
  obtain ⟨hcfs, hsck, hzcu, hdcc, hsgx, hacu, hwgu⟩ := loadPasses_keeps c s
  obtain ⟨hwithout, hsurface⟩ := loadPasses_surfaceWf c s
  have hinv := loadPasses_inv c s
  have hpeers := loadPasses_peers c s
  have hevent := loadPasses_pendingEvent c s
  have hrequest := loadPasses_requested c s
  generalize loadPasses c s = u at *
  have hsettings : u.settings = c := by rw [State.settings, hcfs]; rfl
  have hown : u.own = c.station := congrArg Settings.station hsettings
  have hnumber : u.ownNumber = c.station.val + 1 := by rw [State.ownNumber, hown]
  have hself : u.peers.get u.own = { presence := .present, heard := Announced.zero, time := s.sck, firstHeard := false } := by
    rw [hpeers, hown]
    exact setPeer_get_same _ _ _
  have hothers : ∀ i, i ≠ u.own → u.peers.get i = s.peers.get i := fun i hi => by
    rw [hpeers]
    exact setPeer_get_other (hown ▸ hi) _ _
  have hlevel : u.inv.level = levelOf u.settings.area u.inv.mass := by rw [hsettings, hinv]; rfl
  have hlow : u.inv.low = decide (u.inv.level < u.settings.minLevel) := by rw [hsettings, hinv]; rfl
  obtain ⟨hdrawn, hadded, hremoved⟩ :
      u.inv.drawn = s.inv.drawn ∧ u.inv.added = s.inv.added ∧ u.inv.removed = s.inv.removed := by
    rw [hinv]
    exact ⟨rfl, rfl, rfl⟩
  have henables : u.cpt.enables = s.cpt.enables := by rw [hcpt]; rfl
  exact ⟨drivePins u, rfl, hcfs, congrArg Cpt.mode hcpt, congrArg Cpt.listenTimer hcpt, congrArg Cpt.validating hcpt,
    congrArg Cpt.loadResult hcpt, congrArg Cpt.response hcpt, hevent, congrArg Inv.mass hinv, hlevel, congrArg Inv.epoch hinv,
    (congrArg Inv.origin hinv).trans hnumber.symm, hlow, hdrawn, hadded, hremoved, congrArg PeerEntry.presence hself,
    congrArg PeerEntry.time hself, hothers, hwithout, hsurface, hrequest, congrArg Wgu.divider hwgu, hsck, hzcu, hdcc, hsgx, hacu,
    henables⟩

end Sys2Proof.Machine
end

section
/-! PROOF. Hardware reset, and RESTART with its clear (O12, O13). -/

namespace Sys2Proof.Machine

variable {s : State} {tail : List Byte}

/-- Settles O12: hardware reset by its meaning, the values of `State.reset` block by block. -/
theorem hardwareResetSetsEveryBlock : Obligations.HardwareResetSetsEveryBlock := by
  have hpeers : ∀ i, State.reset.peers.get i = PeerEntry.empty := fun i => by
    simp [State.reset, Vector.get_eq_getElem]
  refine ⟨fun s => rfl, ?_⟩
  simp only [hpeers, implies_true, true_and]
  decide

/-! ### RESTART (R196) -/

theorem exec_restart (hopen : FrameOpen s tail []) (hmode : s.cpt.mode = .ready) :
    exec (.restart tail) s
      = if s.cpt.restartPending then .next (refusedWith .already s)
        else if s.stationClear then accept [] (beginRestart s)
        else .next (refusedWith .notClear s) := by
  show execRestart tail s = _
  rw [execRestart, takeFrame_of_open s hopen, ready_inMode, if_pos (decide_eq_true hmode), withArgs_eq, if_pos List.length_nil]
  rfl

theorem stationClear_iff : s.stationClear = true ↔ s.dcc.stage = .idle ∧ s.zcu.claim = .none ∧ s.adm.resv = .none :=
  decide_eq_true_iff

/-! ### The clear of RESTART (R131, R145, R197) -/

/-- With every other entry ABSENT the surface without own is the level, within its range (R11). -/
theorem surfaceWithout_of_cleared (hempty : ∀ i, i ≠ s.own → s.peers.get i = PeerEntry.empty) :
    s.surfaceWithout = min 65535 s.inv.level := by
  have hnone : s.heardOthers = [] := by
    refine List.filter_eq_nil_iff.mpr fun p hp => ?_
    obtain ⟨hother, hentry⟩ := (mem_others s p).mp hp
    rw [hentry, hempty p.1 hother]
    decide
  rw [State.surfaceWithout, hnone]
  rfl

/-- The clear with no claim and no reservation, at the hoist and at the surface. -/
theorem restartClear_hif_adm (hc : s.zcu.claim = .none) (hr : s.adm.resv = .none) {t : State}
    (ht : drivePins (restartClear s) = t) :
    t.hif.hook = s.hif.hook ∧ t.hif.hookValid = s.hif.hookValid ∧ t.hif.readFailures = s.hif.readFailures
      ∧ t.hif.m0Out = t.sgx.m0.high ∧ t.hif.m1Out = t.sgx.m1.high ∧ t.adm.without = min 65535 s.inv.level := by
  let v := (s.onKli (·.restart s.sck)).onDcc fun d => { d with queue := [] }
  let w : State := { markersLow v with peers := clearPeers s.own s.peers }
  have htable : tableChange none w = refreshSurface w.nextFree := tableChange_of_unasked none hc hr
  have hclear : restartClear s = (refreshSurface w.nextFree).onCpt Cpt.restarted := congrArg (State.onCpt · Cpt.restarted) htable
  have hsurface : w.nextFree.surfaceWithout = min 65535 s.inv.level :=
    surfaceWithout_of_cleared fun i hi => clearPeers_get_other hi s.peers
  subst ht
  rw [hclear]
  exact ⟨rfl, rfl, rfl, rfl, rfl, hsurface⟩

theorem exec_restartTimerExpiry_of_due (hpending : s.cpt.restartPending = true) (hdue : s.cpt.restartTimer = some 0) :
    exec .restartTimerExpiry s = .next (drivePins (restartClear s)) := if_pos ⟨hpending, hdue⟩

/-- Settles O13: RESTART by its cases; the clear by `restartClear_of_unasked`, the hoist and the surface by
`restartClear_hif_adm`. -/
theorem restartIsAcceptedAndCleared : Obligations.RestartIsAcceptedAndCleared := by
  refine ⟨fun s tail hopen hmode => ⟨fun hpending => ?already, fun hfree hbusy => ?notClear,
    fun hfree hidle hclaim hresv => ?accepted⟩, fun s hpending hdue hidle hclaim hresv => ?cleared⟩
  case already => rw [exec_restart hopen hmode, if_pos hpending]
  case notClear =>
    have hnot : ¬ s.stationClear = true := fun h => by
      obtain ⟨hidle, hclaim, hresv⟩ := stationClear_iff.mp h
      rcases hbusy with hbusy | hbusy | hbusy
      exacts [hbusy hidle, hbusy hclaim, hbusy hresv]
    rw [exec_restart hopen hmode, if_neg (by simp [hfree]), if_neg hnot]
  case accepted =>
    rw [exec_restart hopen hmode, if_neg (by simp [hfree]), if_pos (stationClear_iff.mpr ⟨hidle, hclaim, hresv⟩)]
    rfl
  case cleared =>
    rw [exec_restartTimerExpiry_of_due hpending hdue]
    generalize ht : drivePins (restartClear s) = t
    obtain ⟨hkli, hcpt, hpeers, hdcc, hm0, hm1, hacu, hinv, hcfs, hwgu, hzcu, hsck⟩ := restartClear_of_unasked hclaim hresv ht
    obtain ⟨hhook, hvalid, hreads, hm0Out, hm1Out, hwithout⟩ := restartClear_hif_adm hclaim hresv ht
    obtain ⟨hdiscards, hfailures⟩ : t.kli.discards = s.kli.discards ∧ t.kli.failures = s.kli.failures := by
      rw [hkli]
      exact ⟨rfl, rfl⟩
    obtain ⟨henables, hresponse, hresult⟩ :
        t.cpt.enables = s.cpt.enables ∧ t.cpt.response = s.cpt.response ∧ t.cpt.loadResult = s.cpt.loadResult := by
      rw [hcpt]
      exact ⟨rfl, rfl, rfl⟩
    have hown : t.peers.get s.own = s.peers.get s.own := hpeers ▸ clearPeers_get_own s.own s.peers
    have hothers : ∀ i, i ≠ s.own → t.peers.get i = PeerEntry.empty := fun i hi => hpeers ▸ clearPeers_get_other hi s.peers
    exact ⟨t, rfl, congrArg Cpt.restartPending hcpt, congrArg Cpt.restartTimer hcpt, congrArg Kli.leaveRequest hkli,
      congrArg Kli.lineLost hkli, congrArg Kli.stateRequest hkli, congrArg Kli.heartbeat hkli, hdiscards, hfailures, hown,
      hothers, hdcc, hm0, hm1, hm0Out.trans hm0, hm1Out.trans hm1, congrArg Cpt.events hcpt, congrArg Cpt.irq hcpt, henables,
      hresponse, hresult, congrArg Cpt.mode hcpt, congrArg Cpt.listenTimer hcpt, hwithout, hacu, hinv, hcfs, hwgu, hzcu, hsck,
      hhook, hvalid, hreads⟩

end Sys2Proof.Machine
end

section
/-! PROOF. The frames that only answer (O7): unlisted codes, the idle frame, the capture at CSn, the bytes on MISO, and GET_STATUS. -/

namespace Sys2Proof.Machine

variable {s : State} {tail args : List Byte}

/-! ### The bytes on MISO (R185) -/

theorem responseFrame_length (r : Response) : (responseFrame r).length = r.data.length + 2 := rfl

theorem misoByte_within {r : Response} {n : Nat} (h : n < r.data.length + 2) : (responseFrame r)[n]? = some (misoByte r n) := by
  have hn : n < (responseFrame r).length := h
  rw [misoByte, List.getD_eq_getElem _ _ hn, List.getElem?_eq_getElem hn]

theorem misoByte_beyond {r : Response} {n : Nat} (h : r.data.length + 2 ≤ n) : misoByte r n = 0 :=
  List.getD_eq_default _ _ h

/-! ### GET_STATUS (R186, R194) -/

theorem loadResultBytes_length (r : LoadResult) : r.bytes.length = 4 := rfl

/-- The status is 42 bytes, whatever it holds (12, Status layout). -/
theorem statusBytes_length (s : State) : (statusBytes s).length = 42 := by
  unfold statusBytes
  simp only [List.length_append, beBytes_length, loadResultBytes_length]

theorem exec_getStatus (hargs : frameArgs tail = some args) :
    exec (.getStatus tail) s
      = if args = [] then .next (respond .ok (statusBytes s) s) else .next (refusedWith .badArg s) := by
  show execGetStatus tail s = _
  rw [execGetStatus, answerFrame_of_some hargs, if_pos (always_inMode _), withArgs_eq]
  exact if_congr List.length_eq_zero_iff rfl rfl

/-- Settles O7: UNKNOWN_COMMAND by `exec_unknownCommand`, the bytes on MISO by their place, GET_STATUS by its argument. -/
theorem framesThatOnlyAnswer : Obligations.FramesThatOnlyAnswer := by
  refine ⟨⟨fun code tail args s hcode hopen => ?unlisted, fun code tail s hcode => ?listed, fun s => rfl, fun s => rfl,
    fun r n => ⟨misoByte_within, misoByte_beyond⟩⟩, fun s tail args hargs => ⟨fun hnil => ?status, fun hsome => ?badArg,
    statusBytes_length s⟩⟩
  case unlisted =>
    rw [exec_unknownCommand hcode, takeFrame_of_open s hopen, if_pos (always_inMode _), refuse_eq_refusedWith]
  case listed => exact if_neg (by simp [hcode])
  case status =>
    rw [exec_getStatus hargs, if_pos hnil]
    rfl
  case badArg => rw [exec_getStatus hargs, if_neg hsome]

end Sys2Proof.Machine
end
